-- ==== Sys2Proof/Word.lean ====
section
/-! DEFINITION. The words of the machine: a register is 32 bits (R4), a digest or a time 64, memory is bytes. -/

namespace Sys2Proof

/-- A register word (R4). -/
abbrev Word := BitVec 32
/-- A 64-bit word: digests, table-window double words, DMA addresses. -/
abbrev DWord := BitVec 64
/-- A byte of memory. -/
abbrev Byte := BitVec 8

/-- The word with the value `n` modulo 2^32. -/
def word (n : Nat) : Word := BitVec.ofNat 32 n

end Sys2Proof
end

