-- ==== Sys2Proof/Types.lean ====
section
/-! DEFINITION. The names the commands use: the lanes, the lane states, the way an access arrives, and the data a
command brings from outside (a measurement, an image, a cartridge). -/

namespace Sys2Proof

/-- Lane A or lane B (R2). -/
inductive LaneId where
  | A | B
  deriving DecidableEq, Repr

/-- The lane on the other side. -/
def LaneId.other : LaneId → LaneId
  | .A => .B
  | .B => .A

/-- 0 for lane A, 1 for lane B (SYS_ROLE.ROLE, mirror ORIGIN bit 7, log LANE). -/
def LaneId.num : LaneId → Nat
  | .A => 0
  | .B => 1

/-- The states of a lane (R86, R113). -/
inductive LaneSt where
  | absent | powered | pip | keeper | shadow | paired | solo | leaving | faulted
  deriving DecidableEq, Repr

/-- Lane-state codes (R86). -/
def LaneSt.code : LaneSt → Nat
  | .absent => 0 | .powered => 1 | .pip => 2 | .keeper => 3 | .shadow => 4
  | .paired => 5 | .solo => 6 | .leaving => 7 | .faulted => 8

/-- The state a code names; the reserved codes 9–15 name none (R86). -/
def LaneSt.ofCode (n : Nat) : Option LaneSt :=
  match n with
  | 0 => some .absent | 1 => some .powered | 2 => some .pip | 3 => some .keeper | 4 => some .shadow
  | 5 => some .paired | 6 => some .solo | 7 => some .leaving | 8 => some .faulted | _ => none

/-- How a seat access reaches a lane (SEAT_VIOL_INFO.PATH). -/
inductive Path where
  | pcie | hapNormal | hapUrgent
  deriving DecidableEq, Repr

/-- SEAT_VIOL_INFO.PATH codes. -/
def Path.code : Path → Nat
  | .pcie => 0 | .hapNormal => 1 | .hapUrgent => 2

/-- Who makes an access: the lane it reaches, the seat, the path, and for HAP the request sequence (R103). -/
structure Acc where
  lane : LaneId
  seat : Fin 8
  path : Path
  seq : Nat
  deriving DecidableEq, Repr

/-! ### Images (R94, R205, R207) -/

/-- An object of a program image, with its place: a variable in a data window (or, below
0x0100_0000, at an image offset), an object-memory entry, a chart with
its step flags, a program, a loop instance, a generator, a recipe channel, an axis (R207). -/
inductive ObjPlace where
  | var (addr words : Nat)
  | timer (i : Nat)
  | counter (i : Nat)
  | edge (i : Nat)
  | sfc (steps : List (Nat × Nat)) (init : Nat)
  | prog (p : Nat)
  | loop (i : Nat)
  | gen (i : Nat)
  | chan (c : Nat)
  | axis (a : Nat)
  deriving DecidableEq, Repr

/-- A named object: fully qualified name and type or form, both as numbers (R207). -/
structure Obj where
  name : Nat
  form : Nat
  place : ObjPlace
  deriving DecidableEq, Repr

/-- What a program reads in place of an input word of an absent station (R203). -/
inductive Subst where
  | last
  | value (v : Nat)
  | zero
  deriving DecidableEq, Repr

/-- An input word that a program reads from a station: ring, station, image offset, bytes, substitute mode (R203). -/
structure InWord where
  ring : Nat
  sta : Nat
  off : Nat
  len : Nat
  subst : Subst
  deriving DecidableEq, Repr

/-- A cyclic program of an image: its two nodes (R190), whether the BUDGET of each was declared rather than derived (R192),
its stop values as (image offset, bytes, value) (R193), the input words it reads from stations (R203), its host-writable
variables as (address, bytes) (R212), its outputs as (image offset, bytes, name). -/
structure ProgImg where
  prog : Nat
  evNode : Nat
  cyNode : Nat
  declEv : Bool
  declCy : Bool
  stopVals : List (Nat × Nat × Nat)
  reads : List InWord
  hostVars : List (Nat × Nat)
  outs : List (Nat × Nat × Nat)
  deriving DecidableEq, Repr

/-- Where the payload of a station lies in the cycle image: ring, station, image offset, bytes. -/
structure StaMap where
  ring : Nat
  sta : Nat
  off : Nat
  len : Nat
  deriving DecidableEq, Repr

/-- A recipe channel of an image: the names of the steps its table holds, by step number, and the image offset of its
command word (R214, R216, R235). -/
structure ChanImg where
  chan : Nat
  steps : List Nat
  cmdOff : Option Nat
  deriving DecidableEq, Repr

/-- A recorded signal: the agreed sample word of an AI channel, bytes of the cycle image (2 or 4), a word of a table
window, a fast input (R371). -/
inductive RecSig where
  | ai (ch : Nat)
  | img (off len : Nat)
  | win (addr : Nat)
  | fi (ch : Nat)
  deriving DecidableEq, Repr

/-- A signal set of the record map (R371): number, name, kind (0 cycle, 1 fast, 2 reduction, 3 wafer), DIV or D, the
source set of a reduction or the channel of a wafer set, its signals in column order. -/
structure SetImg where
  num : Nat
  name : Nat
  kind : Nat
  div : Nat
  src : Nat
  sigs : List RecSig
  deriving DecidableEq, Repr

/-- A MOVE node of an image (R140): node, image offsets of source and destination, 32-bit words; scaled or copied. -/
structure MoveImg where
  node : Nat
  src : Nat
  dst : Nat
  words : Nat
  scaled : Bool
  deriving DecidableEq, Repr

/-- An image set as Airex builds it (R94, R205): its seal, version and checks, profile and period, the times of a
cycle, the words it gives to registers, table windows and cycle image, and what the windows do not expose. -/
structure ImageSet where
  sl : Nat
  version : Nat
  /-- signature and seals are good (R80, R205, R450) -/
  valid : Bool
  /-- the page of the block whose checks refuse the set, if any does: the cycle graph, loop, step, axis or bus tables, the
  record map -/
  refuses : Option Nat
  profile : Nat
  period : Nat
  tring : Nat
  regs : List (Nat × Word)
  win : List (Nat × Word)
  img : List (Nat × Byte)
  imgLen : Nat
  /-- data predecessors of each node, in node order (R141) -/
  preds : List (List Nat)
  moves : List MoveImg
  progs : List ProgImg
  objs : List Obj
  chans : List ChanImg
  /-- station inputs and outputs in the cycle image -/
  ins : List StaMap
  outs : List StaMap
  /-- analogue inputs: channel, image offset of its agreed sample word (R268) -/
  ais : List (Nat × Nat)
  /-- analogue outputs: channel, image offset of its code word (R282) -/
  aos : List (Nat × Nat)
  /-- command words of axes: axis index, image offset (R292) -/
  axCmds : List (Nat × Nat)
  /-- configured message objects with the node that produces a send object's data: bus, object, node (R309); status
  words: bus, image offset (R314) -/
  busObjs : List (Nat × Nat × Nat)
  busStats : List (Nat × Nat)
  /-- the record map and the low 20 bits of its seal (R371, R374) -/
  recSets : List SetImg
  recSeal : Nat
  /-- work-result areas of the cycle image: offset, bytes (R393) -/
  workAreas : List (Nat × Nat)
  /-- where the 16 bytes of the DI image stand in the cycle image, if any DI is in the graph (R133, R136) -/
  diOff : Option Nat
  /-- direct inputs whose edge stamps a program reads (R53) -/
  diStamps : List Nat
  /-- carried state that the image places in DRAM: address of a table-window word, byte offset in lane DRAM, words (R138) -/
  placed : List (Nat × Nat × Nat)
  deriving DecidableEq, Repr

/-- An interlock-matrix image: the words of the X table by offset (R324), the seal of the Y table, whose encoding the
manual does not give, the switch test interval in s, and whether its seals and checks are good. -/
structure MatrixImg where
  words : List (Nat × Word)
  sealY : Nat
  interval : Nat
  deriving DecidableEq, Repr

/-- A seat image (R36, R435, R443): ENABLE of the eight seats, the words of the rights registers by address, the seat
keys, the seat of each lane's endpoint, the lanes' IPv4 addresses, the idle limit and the accepted VLAN. -/
structure SeatImg where
  enables : Nat
  rights : List (Nat × Word)
  keys : List (Nat × List Nat)
  seatA : Nat
  seatB : Nat
  ipA : Nat
  ipB : Nat
  idle : Nat
  vid : Nat
  deriving DecidableEq, Repr

/-- A firmware package: whether its signature is good, its security version, its compatibility number (R127, R448, R449). -/
structure FwPkg where
  signed : Bool
  version : Nat
  compat : Nat
  deriving DecidableEq, Repr

/-- What a lane's inputs show at a cycle boundary: converter codes of the precision channels in LSB (R265), and for each
direct axis in the graph its position, its load, its current in amplitude and whether the encoder is at fault (R287). -/
structure BoundaryIn where
  ai : List (Nat × Int)
  ax : List (Nat × Int × Nat × Nat × Bool)
  deriving DecidableEq, Repr

/-- What a task of a cyclic program computes from (R93, R195): image seal, program, task (0 cyclic, 1 COLD, 2 WARM,
3 ERROR), t_N, the cycle image with its substitute values (R203), the table windows, the stations among its inputs whose
STATION_OK is 0 (R202), the edge stamps of this cycle as (source, TIME64, SUBNS) (R53), and what the ERROR task receives:
ERR_COUNT, ERR_LIST, ERR_MORE (R204). -/
structure ProgIn where
  sl : Nat
  prog : Nat
  task : Nat
  tN : Nat
  img : List (Nat × Byte)
  win : List (Nat × Word)
  down : List (Nat × Nat)
  stamps : List (Nat × Nat × Nat)
  errCount : Nat
  lost : List (Nat × Nat)
  more : Bool

/-- What a task gives: its time in CLK_FAB cycles, a trap code, data words, output values by position in the
program's output list, and the inputs its timers (index, IN, PT), counters (index, CU, CD, R, LD, PV) and edge
detectors (index, IN) see. -/
structure ProgRes where
  time : Nat
  trap : Option Nat
  data : List (Nat × Word)
  outs : List Nat
  timers : List (Nat × Bool × Nat)
  counters : List (Nat × Bool × Bool × Bool × Bool × Int)
  edges : List (Nat × Bool)
  deriving Inhabited

/-- Who reads a codeword: an engine of the lane, a seat, a DMA channel after `k` more bytes moved (side 0 a source, 2 a
descriptor fetch), the record port. -/
inductive Reader where
  | engine
  | seat (q : Nat)
  | dma (ch k side : Nat)
  | port
  deriving DecidableEq, Repr

/-- A codeword that a read meets (R429): a DRAM codeword with its wrong bytes as a mask of 72, and, where the received word
lies within 4 bytes of another codeword, the 64 data bytes of that one; a codeword of engine SRAM, or of another on-die
memory of an instance (Reed–Solomon or SEC-DED), with its number of wrong bytes or bits. -/
inductive Codeword where
  | dram (i mask : Nat) (near : Option (List Nat))
  | sram (wrong : Nat)
  | die (page : Nat) (rs : Bool) (wrong : Nat)
  deriving DecidableEq, Repr

end Sys2Proof
end

