-- ==== Sys2Proof/Machine/Parts.lean ====
section
/-! DEFINITION. The state of each block that its registers do not show: keys, held accesses, triggers, grants,
mirror entries, digests, nodes in service, log records. Plain data, one structure per block. -/

namespace Sys2Proof.Machine

/-! ### Seats (chapter 02) -/

/-- Progress of a LOCK_KEY sequence (R29): the first value seen, or open since the tick of the second. -/
inductive KeySt where
  | first
  | opened (t : Nat)
  deriving DecidableEq, Repr

/-- The key of one seat on one instance, named by the first page of the instance (R29). -/
structure KeyEnt where
  seat : Nat
  inst : Nat
  st : KeySt
  deriving DecidableEq, Repr

/-- An access held by a soft reset of the instance it addresses, checked when it is served (R27); or a read that waits, checked
when it arrived (R34, R436). -/
structure HeldAcc where
  acc : Acc
  addr : Nat
  size : Nat
  write : Bool
  data : Nat
  checked : Bool
  deriving DecidableEq, Repr

/-- The answer to a seat's access: data, done, held, no answer, a violation of a kind (R40, R41), a mirrored write not yet
confirmed (R100), data spoilt by an uncorrectable error (R431). -/
inductive Resp where
  | data (v : Nat)
  | done
  | held
  | unanswered
  | violation (kind : Nat)
  | pending
  | poison
  deriving DecidableEq, Repr

/-- A claim token and the seat that holds it (R38). -/
structure Token where
  token : Nat
  seat : Nat
  deriving DecidableEq, Repr

/-- A HI register captured by a read of its LO register, per party (R70). -/
structure Captured where
  party : Nat
  addr : Nat
  val : Word
  deriving DecidableEq, Repr

/-- A frozen instance and the words its registers had in the cycle of the FREEZE write. -/
structure Frozen where
  inst : Nat
  words : List (Nat × Word)
  deriving DecidableEq, Repr

/-- What the seats and the access checks of a lane hold beside the registers. -/
structure AccessH where
  keys : List KeyEnt
  held : List HeldAcc
  frozen : List Frozen
  captured : List Captured
  /-- claim tokens held, by rising token (R38) -/
  tokens : List Token
  /-- violations of each seat since its latch was set (R43) -/
  since : List (Nat × Nat)
  /-- the last answer given to each seat -/
  resp : List (Nat × Resp)
  deriving DecidableEq, Repr

/-! ### Time (chapter 03) -/

/-- A general time trigger: the committed target and the next target of its series (R64, R66). -/
structure Trig where
  tgt : Nat
  next : Nat
  deriving DecidableEq, Repr

/-- The accumulator in units of 2^-32 ns (R46, R47) and the counts of the servo. -/
structure TimeH where
  acc : Nat
  /-- consecutive servo updates below 100 ns (R49) -/
  good : Nat
  /-- consecutive alignment measurements beyond ±3 ns (R61) -/
  miss : Nat
  /-- a TIME_SET waiting for the first PPS edge after t_E: S and t_E (R66) -/
  pendSet : Option (Nat × Nat)
  /-- bounds of windows and timers that other blocks hold are with those blocks; here the 32 triggers -/
  trig : List Trig
  /-- local ticks at which the last PPS edge came (PPS_PRESENT) -/
  pps : Option Nat
  /-- PTP port in use when PTP_PORT is 3: false TR1, true TR2 (R55) -/
  tr2 : Bool
  /-- tool-ring ports TR1, TR2 and the cross hop up -/
  trUp : Bool × Bool × Bool
  /-- peer-delay requests answered (R55): arrival and departure stamps of the last -/
  peer : Option (Nat × Nat)
  /-- PPS out and SYNC out levels rise at these instants (R67) -/
  ppsOut : Option Nat
  syncOut : Option Nat
  /-- the lane has left the pair for its alignment and has not been within ±1 ns since (R61) -/
  unaligned : Bool
  /-- frequency correction in units of TIME_INC.FRAC, to which a slew is added (R57) -/
  freq : Nat
  deriving DecidableEq, Repr

/-! ### Start (chapter 04) -/

/-- The two supply entries of a lane (R71, R72). -/
structure SupplyH where
  /-- a cartridge is in the slot, its ejector closed (R113) -/
  seated : Bool
  closed : Bool
  /-- the last record before the power-on is a supply loss at S2 or later (R83) -/
  brown : Bool
  ok1 : Bool
  ok2 : Bool
  /-- voltages in 0.2 V units -/
  v1 : Nat
  v2 : Nat
  /-- the tick at which a ride-through began -/
  ride : Option Nat
  /-- supply valid -/
  valid : Bool
  deriving DecidableEq, Repr

/-- Start of a lane: what it waits for and what it has decided (R73–R82). -/
structure StartH where
  /-- tick of supply valid or of reset release, from which the deadlines count -/
  t0 : Nat
  /-- the reset kind L in progress with its cause bit (R83) -/
  inReset : Option Nat
  /-- warm start decided at reset release (R80) -/
  warmOk : Bool
  /-- the snapshot cycle both lanes resume from, once agreed (R81) -/
  resume : Option Nat
  /-- the other lane's snapshot cycles and digests have been compared (R81) -/
  exchanged : Bool
  /-- TIME64 at which the lane finished its checks or loads -/
  ready : Option Nat
  /-- the origin (N_org, T_org) chosen or received on a cold start (R130) -/
  origin : Option (Nat × Nat)
  /-- the pip channels run (R319) -/
  pipRun : Bool
  /-- tick at which the lane entered FAULTED -/
  faultedAt : Nat
  /-- the PRESENT line to the base (R109) -/
  present : Bool
  /-- firmware changed since the last start (R80) -/
  fwChanged : Bool
  /-- a firmware exchange this lane is still to perform (R126) -/
  fwPending : Bool
  /-- the exchange has failed on this lane, which does not rejoin until that is cleared (R127) -/
  fwFailed : Bool
  /-- the seat image has been loaded since the last power-on, or the running lane's rights received (R36) -/
  seatsIn : Bool
  deriving DecidableEq, Repr

/-! ### Power ledger (chapter 04) -/

/-- A request to the ledger: class, quanta, duration in ns, arrival order, tick of arrival, who asks (R88, R90). -/
structure LReq where
  cls : Nat
  quanta : Nat
  dur : Nat
  order : Nat
  since : Nat
  who : Nat
  deriving DecidableEq, Repr

/-- A grant: its request and the tick at which its window opened (R89). -/
structure Grant where
  req : LReq
  g : Nat
  deriving DecidableEq, Repr

/-- The ledger of a lane (R87–R92). -/
structure LedgerH where
  grants : List Grant
  /-- waiting requests in the order of service -/
  waiting : List LReq
  /-- requests of the present CLK_REG cycle, decided at its end, by class and then by asker (R90) -/
  asked : List LReq
  /-- revoked operations that still run to their safe point (R91) -/
  stopping : List LReq
  arrivals : Nat
  /-- over-budget hold: no local grant (R92) -/
  excess : Bool
  /-- outcomes not yet taken by the operation that asked: 0 refused, 1 granted, 2 ended or stopped -/
  news : List (Nat × LReq)
  deriving DecidableEq, Repr

/-! ### Event log (chapter 16) -/

/-- One event record; DATA is a list of (size in bytes, value), each aligned to its own size (R385, R386). -/
structure LogRec where
  seq : Nat
  opms : Nat
  tstate : Nat
  lane : Nat
  pcyc : Nat
  srcType : Nat
  srcInst : Nat
  code : Nat
  time : Nat
  data : List (Nat × Nat)
  deriving DecidableEq, Repr

/-! ### The mirror set and the pair block (chapter 05) -/

/-- What a mirror entry carries (R103). The byte layout of R102 is the model's own encoding of it. -/
inductive Payload where
  /-- a step of Δ ns (kind 0x01, R58) -/
  | timeStep (delta : Int)
  /-- a change of time state, of active source, of UTC offset and leap indicators (kind 0x01, R59) -/
  | timeState (st : Nat)
  | timeSource (src : Nat)
  | timeUtc (w : Word)
  /-- a TIME_SET_HI write with both halves (kind 0x05, R66) -/
  | timeSet (s : Nat)
  /-- primacy transfer, leave request, join entry (kind 0x02) -/
  | transfer
  | leave (lane : LaneId) (force : Bool) (fw : Bool)
  | join (lane : LaneId)
  /-- image exchange commit (kind 0x03) -/
  | commit (sl : Nat)
  /-- claim or release of a token (kind 0x04): the SEAT_CLAIM word -/
  | claim (w : Word)
  /-- writes of rights or of SEAT ENABLE made in one access (kind 0x04): address, data, mask of the mirrored bits -/
  | rights (ws : List (Nat × Word × Word))
  /-- the mirrored register and table-window writes of one access (kind 0x05) -/
  | regWrite (ws : List (Nat × Word × Word))
  /-- the mirrored commands of one access (kind 0x06) -/
  | command (ws : List (Nat × Word × Word))
  /-- a mirrored ledger request (kind 0x07) -/
  | ledger (cls quanta dur who : Nat)
  /-- a work item submitted with MIRROR, and a cancel of one (kind 0x06, R394, R396) -/
  | work (ws : List Nat)
  | workCancel (id : Nat)
  /-- a service-core result (kind 0x08, R400): identity, FUNC, STATUS, RESULT_OFS, data -/
  | svc (id func status ofs : Nat) (data : List Nat)
  /-- a priority-bus reception (kind 0x09, R314): bus, object, FLAGS, identifier word, data, frame-start stamp -/
  | busRx (bus obj flags idw : Nat) (data : List Nat) (time subns : Nat)
  /-- a status entry of a bus (R314): state, TEC, REC -/
  | busStat (bus st tec rxe : Nat)
  /-- HAP OPEN with the host nonce, CLOSE and KEEPALIVE of a session (kind 0x06, R443) -/
  | hapOpen (seat : Nat) (nonce : List Nat)
  | hapClose (seat session : Nat)
  | hapAlive (seat session : Nat)
  /-- a DI edge stamp or trigger stamp (kind 0x0A) -/
  | stamp (source time subns : Nat)
  deriving DecidableEq, Repr

/-- A mirror entry (R102). -/
structure Entry where
  effect : Nat
  oseq : Nat
  kind : Nat
  origin : LaneId
  seat : Option Nat
  key : Nat
  pay : Payload
  /-- the write came over PCIe (the model's own; it is not among the bytes of the entry) -/
  pcie : Bool
  deriving DecidableEq, Repr

/-- A seal: origin cycle, number of entries and their CRC-32C (R97). -/
structure Seal where
  cyc : Nat
  count : Nat
  crc : Nat
  deriving DecidableEq, Repr

/-- Direct-axis feedback taken at t_N (kind 0x22, R287): position, latched position and its TS32, LOAD, I_AMP, STATUS. -/
structure AxFb where
  pos : Int
  latch : Int
  ts : Nat
  load : Nat
  amp : Nat
  status : Nat
  deriving DecidableEq, Repr

/-- The sampled part of a lane for one cycle (R95, R134): DI image, raw precision words, axis feedback, receipt maps. -/
structure Sampled where
  cyc : Nat
  di : Nat
  ai : List (Nat × Nat)
  ax : List (Nat × AxFb)
  maps : List (Nat × Nat)
  /-- the lane's sample of HALT_REQ, in the header (R446) -/
  halt : Bool
  /-- ORIGIN_SEQ under which it is sent (R102) -/
  oseq : Nat
  deriving DecidableEq, Repr

/-- A processed station record of a copy, as held and as forwarded in kind 0x23: the place of its copy in the order of
R250 (0 rightward, 1 leftward, 2 + FOLD_POS), and record bytes 4 to 7 + LEN. -/
structure OneSided where
  cyc : Nat
  ring : Nat
  station : Nat
  ord : Nat
  bytes : List Nat
  deriving DecidableEq, Repr

/-- What crosses the pair link as it arises: event entries, and one-sided records with their ORIGIN_SEQ (R102). -/
inductive LinkMsg where
  | entry (e : Entry)
  | oneSided (oseq : Nat) (r : OneSided)
  deriving DecidableEq, Repr

/-- A KEY applied, able to match for 65,536 effect cycles (R99). For kind 0x09 `key` holds bus and stamp (R104). -/
structure KeyUsed where
  kind : Nat
  key : Nat
  effect : Nat
  deriving DecidableEq, Repr

/-- A self-check in progress: the cycle of the mismatch and the outcome found so far (R115). -/
structure Check where
  cyc : Nat
  failed : Bool
  deriving DecidableEq, Repr

/-- The inputs a cycle consumed, as the rejoin log keeps them (R121): entries, sampled values, the digest of each ring's
input image, and the ring records, which the joining lane fetches where its own give another digest. -/
structure CycIn where
  cyc : Nat
  entries : List Entry
  own : Sampled
  oth : Option Sampled
  recs : List OneSided
  digs : List (Nat × Nat)
  deriving DecidableEq, Repr

/-- A write of an event to be confirmed to its originator: origin cycle, seat (R100). -/
structure Unconf where
  cyc : Nat
  seat : Option Nat
  deriving DecidableEq, Repr

/-! ### The cycle (chapter 06) -/

/-- A trace on its way to a buffer (R152, R403): the records of the on-die queue, 16 bytes each, and the number dropped
and not yet stated. -/
structure Trc where
  q : List (List Nat)
  drop : Nat
  deriving DecidableEq, Repr

/-- The rejoin of a lane in SHADOW and what the running lane keeps for it (R120–R123). -/
structure RejoinH where
  /-- tick at which the rejoin began -/
  start : Nat
  /-- first cycle whose ring records the joining lane buffers -/
  first : Nat
  /-- ring records buffered by the joining lane, by cycle -/
  buf : List OneSided
  /-- inputs logged by the running lane for cycles above N_s (R121) -/
  log : List CycIn
  /-- the joining lane holds the complete rejoin set -/
  held : Bool
  /-- latest cycle the joining lane has replayed (R122) -/
  replayed : Option Nat
  /-- effect cycle of the join entry (R121) -/
  joinAt : Option Nat
  /-- the joining lane refused the running lane's firmware and waits (R124) -/
  refused : Bool
  /-- N_s, once the running lane has chosen and pinned it (R121) -/
  ns : Option Nat
  deriving DecidableEq, Repr

/-- The pair block of a lane (chapter 05). -/
structure PairH where
  /-- next ORIGIN_SEQ (R102), and the next of the other lane as far as its entries have arrived (R120) -/
  oseq : Nat
  othSeq : Nat
  /-- on the pair link towards the other lane, in order -/
  outMsg : List LinkMsg
  outSeal : List Seal
  outSamp : List Sampled
  outDig : List (Nat × Nat)
  /-- event entries held, own and received, until their effect cycle -/
  entries : List Entry
  sampOwn : Option Sampled
  sampIn : Option Sampled
  keys : List KeyUsed
  /-- own and received digests not yet compared or still needed (R106) -/
  digOwn : List (Nat × Nat)
  digIn : List (Nat × Nat)
  check : Option Check
  /-- instants of earlier charges against this lane, in ticks (R117) -/
  charges : List Nat
  /-- event entries accepted in the current cycle (R97) -/
  accepted : List Entry
  unconf : List Unconf
  /-- ticks since which one and all of the pair-link lanes are up (R119, R121) -/
  upSince : Option Nat
  upAll : Option Nat
  rejoin : Option RejoinH
  /-- outgoing mirror bytes of the current cycle (PAIR_MIR_PEAK) -/
  bytes : Nat
  /-- primacy wanted by the lane (R107) is PAIR_STAT.PRIM_REQ; here the tick of the request -/
  reqAt : Nat
  /-- a decision that waits for a primacy holder (R475): the divergence of this cycle, the failed link of this cycle -/
  waitDiv : Option Nat
  waitLink : Option Nat
  /-- cause of a primacy change under way (PAIR_PRIM.CAUSE) -/
  cause : Nat
  /-- TIME64 of the last primacy change this lane has seen (R276) -/
  primAt : Option Nat
  /-- last bus reception this lane entered or held, per bus: frame-start stamp (R104) -/
  lastRx : List (Nat × Nat)
  /-- a joining lane that has been granted primacy drives from this cycle boundary: with live state, or as a keeper that
  resumes warm from a cycle (R113, R123) -/
  promo : Option (Nat × Option Nat)
  deriving DecidableEq, Repr

/-! ### Loop engines (chapter 07): state the tables do not show -/

/-- A coefficient set without its integral part: mantissa and shift of KP, KD and KFF (R163). -/
structure Coef where
  kp : Int
  kpSh : Nat
  kd : Int
  kdSh : Nat
  kff : Int
  kffSh : Nat
  deriving DecidableEq, Repr

/-- Engine-internal state of a loop instance: c_last (absent before the first execution), whether a valid process
value has been read, whether MODE was OFF, whether the next execution follows a resumption (R163, R165, R166, R179). -/
structure LoopI where
  inst : Nat
  cLast : Option Coef
  seen : Bool
  off : Bool
  resumed : Bool
  deriving DecidableEq, Repr

/-- The last winner of a selector group, kept internally (R177). -/
structure GroupI where
  group : Nat
  last : Option Nat
  deriving DecidableEq, Repr

/-- The plan of a profile generator or an axis (R172, R173). From a moving state first a course: the accelerations of the
executions to come over the common denominator `cden`, with the exact position, velocity and acceleration reached (over
6, 2 and 1 times `cden`). Then the phases from rest, as (executions, jerk numerator) over `den`, the state at the start of
the phase, the executions done in it and in all, the total length, and the end. -/
structure Plan where
  course : List Int
  cden : Nat
  cp : Int
  cv : Int
  ca : Int
  phases : List (Nat × Int)
  den : Nat
  p0 : Int
  v0 : Int
  a0 : Int
  k : Nat
  done : Nat
  total : Nat
  tgt : Int
  deriving DecidableEq, Repr

/-- Engine-internal state of a profile generator: its plan, the last valid target, MODE of the last execution. -/
structure GenI where
  gen : Nat
  plan : Option Plan
  tgt : Int
  mode : Nat
  deriving DecidableEq, Repr

/-! ### Cyclic programs (chapter 08) -/

/-- State of a cyclic program (R193): 0 STOP, 1 RUN, 2 HOLD; the cause of the last change, the consecutive
withdrawn activations, the last trap, a waiting STEP, the event tasks due, the stations lost (R204), and whether
the stop values are still to be written. -/
structure ProgI where
  prog : Nat
  st : Nat
  cause : Nat
  consec : Nat
  trap : Nat
  stepPend : Bool
  cold : Bool
  warm : Bool
  err : Bool
  errCount : Nat
  errList : List (Nat × Nat)
  errMore : Bool
  stopDue : Bool
  deriving DecidableEq, Repr

/-! ### Recipes (chapter 09) -/

/-- A condition of the step in force that has latched: its place, the cycle, the evidence and its SUBNS (R224). -/
structure Latch where
  idx : Nat
  cyc : Nat
  t : Nat
  subns : Nat
  deriving DecidableEq, Repr

/-- A wafer-context record (R236). -/
structure WaferRec where
  cyc : Nat
  tApply : Nat
  wafer : Nat
  lot : Nat
  slotFlags : Nat
  chan : Nat
  cause : Nat
  step : Nat
  src : Nat
  entry : Nat
  evidence : Nat
  subns : Nat
  state : Nat
  deriving DecidableEq, Repr

/-- What a channel's node is to do for an edge: generators it sets to HOLD, the writes to apply, the record, and whether a
step comes into force or a hold is applied (R226, R230, R236, R474). -/
structure EdgeDue where
  hold : List Nat
  writes : List (Word × Word)
  record : WaferRec
  edge : Bool
  deriving DecidableEq, Repr

/-- The shadow step banks of a channel, staged for a step (R228). -/
structure Banks where
  step : Nat
  active : List (Word × Word)
  next : List (Word × Word)
  alt : List (Word × Word)
  hold : List (Word × Word)
  abort : List (Word × Word)
  deriving DecidableEq, Repr

/-- A recipe channel (R215): state, step in force with its apply cycle, t_A, DUR and TIMEOUT as they count, and what
the hold rules keep. -/
structure ChanI where
  chan : Nat
  state : Nat
  step : Nat
  cause : Nat
  cmdRes : Nat
  heldWhy : Nat
  acyc : Nat
  ta : Nat
  dur : Nat
  /-- TIMEOUT as it counts from t_A; none without a timeout -/
  tmo : Option Nat
  dRem : Nat
  tRem : Option Nat
  /-- the state HELD was entered from, and t_(H+2) of the hold (R230) -/
  heldFrom : Nat
  heldT : Nat
  latches : List Latch
  /-- dwell starts: condition, t_s -/
  dwells : List (Nat × Nat)
  /-- START_STEP of the run and the captured context -/
  entry : Nat
  ctx : List Word
  /-- what the node is to do in this cycle for commands, in order -/
  due : List EdgeDue
  banks : Banks
  /-- cycle of the last accepted command that changed state or step (R217) -/
  cmdCyc : Option Nat
  /-- path-1 writes held to the next cycle: the cycle to commit in, write words 0 and 1 (R227) -/
  path1 : List (Nat × Word × Word)
  /-- the step is left at the start of a cycle with a state (R474) -/
  leaveAt : Option (Nat × Nat)
  /-- a command read from the image, to act in the next cycle (R216) -/
  imgCmd : Option Word
  /-- generators set to HOLD by R230 -/
  gens : List Nat
  /-- the step in force is absent from the table after an exchange (R235) -/
  orphan : Bool
  deriving DecidableEq, Repr

/-! ### Motion axes (chapter 12) -/

/-- A limit, home or index line: raw level, TIME64 of its last change, debounced level, instants of its transitions in
the last 50 ms (R296, R297). -/
structure Line where
  raw : Bool
  since : Nat
  deb : Bool
  trans : List Nat
  deriving DecidableEq, Repr

/-- Carried state of an axis (R292–R303): state, trajectory in 2^-32 counts, plan, homing, faults, current. -/
structure AxisI where
  ax : Nat
  st : Nat
  pos : Int
  vel : Int
  acc : Int
  plan : Option Plan
  /-- present target in counts; 0 a position, 1 a velocity, 2 FOLLOW -/
  goal : Int
  mode : Nat
  /-- the trajectory is to be planned: 0 no, 1 to the goal, 2 to rest on the programmed ramp, 3 to rest on the limit ramp -/
  replan : Nat
  /-- actual position on the axis's scale, and the shift of that scale against the encoder -/
  act : Int
  ofs : Int
  /-- homing: 0 search, 1 stop, 2 move to HOME_TGT; position at its start; HOME seen active (method 5) -/
  hPhase : Nat
  hStart : Int
  hSeen : Bool
  homed : Bool
  homeRes : Nat
  cmdRes : Nat
  limStop : Bool
  doneF : Bool
  /-- first fault code held, 0 none -/
  fault : Nat
  stallN : Nat
  /-- executions at rest (R300) -/
  rest : Nat
  iset : Int
  load : Nat
  /-- commanded electrical angle of a stepper, q current of a PMSM -/
  angle : Nat
  iq : Int
  /-- commands applied and not yet handled: command, target; register commands in order -/
  cmds : List (Nat × Int)
  /-- an ACK was accepted in the last execution (CTRL bit 4 of the command record) -/
  ackOut : Bool
  /-- limit and home lines of a ring axis; debounced levels and chatter flags of the last execution -/
  lneg : Line
  lpos : Line
  lhome : Line
  latchTog : Bool
  latch : Int
  /-- the commanded position is to be synchronised to the actual one at the next execution (R303) -/
  resync : Bool
  /-- a drive-off fault has turned the drive off, until an ENABLE or an accepted ACK (R294, R295) -/
  off : Bool
  /-- HOME, debounced, in the execution before (R298) -/
  homeWas : Bool
  deriving DecidableEq, Repr

/-- The gate setpoints of a direct axis, as its node leaves them and its current loop adopts them at the next boundary
(R136, R286): whether the gates are driven, the standstill mode in force at rest, current, commutation angle, q current. -/
structure AxSet where
  on : Bool
  rest : Option Nat
  iset : Int
  angle : Nat
  iq : Int
  deriving DecidableEq, Repr

/-- What a lane's hardware of a direct axis holds: its lines, the latch, flags since the last record, the duties of the
last PWM period, whether its gates are driven (R287–R291). -/
structure AxHw where
  ax : Nat
  lneg : Line
  lpos : Line
  lhome : Line
  latch : Int
  ts : Nat
  latchNew : Bool
  excess : Bool
  mclk : Bool
  duties : List Nat
  gates : Bool
  /-- setpoints in force and those of the cycle before; the next PWM boundary of this cycle; the commutation angle of the
  present PWM period; the dead time at its gate edges in ns (R136, R289) -/
  set : AxSet
  setOld : AxSet
  k : Nat
  angle : Nat
  dead : Nat
  deriving DecidableEq, Repr

/-- The axis block of a lane: hardware of the direct axes, and the feedback records both lanes consume. -/
structure AxisH where
  hw : List AxHw
  fb : List (Nat × AxFb)
  deriving DecidableEq, Repr

/-! ### Priority buses (chapter 13) -/

/-- A pending frame of a send object (R309–R312, R317): identifier word as in a reception record, BRS, data; whether it
is in an attempt, data that supersede it meanwhile; TRIES; BO_HELD; to be sent first after a handover (R111). -/
structure PFrame where
  bus : Nat
  obj : Nat
  idw : Nat
  brs : Bool
  data : List Nat
  active : Bool
  next : Option (List Nat)
  tries : Nat
  held : Bool
  first : Bool
  deriving DecidableEq, Repr

/-- A frame seen on the bus: identifier word, BRS, ESI, remote, data. -/
structure BusFrame where
  idw : Nat
  brs : Bool
  esi : Bool
  remote : Bool
  data : List Nat
  deriving DecidableEq, Repr

/-- Per-lane words of an object (R307). -/
structure PObj where
  bus : Nat
  obj : Nat
  spent : Bool
  sent : Nat
  cancelled : Nat
  received : Nat
  deriving DecidableEq, Repr

/-- The controller of a bus: TEC and REC before saturation, state, counted retry since a bus-off (R312, R316). -/
structure PCtl where
  bus : Nat
  tec : Nat
  rxe : Nat
  st : Nat
  counted : Bool
  deriving DecidableEq, Repr

/-- The priority buses of a lane: frames captured for the next boundary, queue, objects, controllers; receptions this
lane saw and has not yet met an entry for, with the cycle of acceptance (R104, R313); objects stored to in this cycle. -/
structure PbusH where
  captured : List PFrame
  queue : List PFrame
  objs : List PObj
  ctls : List PCtl
  seen : List (Nat × Payload)
  stored : List (Nat × Nat)
  deriving DecidableEq, Repr

/-! ### Capture (chapter 15) -/

/-- The reduction of a slot under way: smallest, largest, sum, sum of squares, over-range samples (R365). -/
structure Red where
  slot : Nat
  least : Int
  most : Int
  sum : Int
  sq : Nat
  ovr : Nat
  deriving DecidableEq, Repr

/-- The capture engine of a lane (R354–R369). Instants are in units of 1/256 ns, so that a fine stamp is one number. -/
structure CaptH where
  /-- captures started since the reset of kind P -/
  seq : Nat
  /-- classes asked of the ledger and not yet granted, and T0 once all are -/
  want : List Nat
  startAt : Option Nat
  /-- TIME64 of frame 0, frames stored -/
  t0 : Nat
  frames : Nat
  /-- trigger point and trigger frame -/
  trig : Option (Nat × Nat)
  preShort : Bool
  prim : Bool
  lost : Option Nat
  firings : Nat
  fireLost : Nat
  /-- state entry stamps in µs from T0, by state -/
  entered : List (Nat × Nat)
  /-- instant the present state was entered, firings counted in it -/
  ts : Nat
  count : Nat
  /-- STOP or ABORT applied: the instant from which no firing counts, END -/
  stopAt : Option (Nat × Nat)
  reds : List Red
  /-- comparator arms: unit, for rising, for falling -/
  arms : List (Nat × Bool × Bool)
  /-- VALUE units whose test was met in the last merge -/
  met : List Nat
  /-- DI edges already fired: unit, tick -/
  fired : List (Nat × Nat)
  /-- last stamp of a unit entered by the other lane; own firings of mirrored units met by no entry yet (R357) -/
  lastM : List (Nat × Nat)
  unsent : List (Nat × Nat)
  /-- TIME64 of the header's last periodic write, or of frame 0 (R364) -/
  headAt : Nat
  /-- the join effect cycle of a lane that has joined: no capture armed up to it is its own (R369) -/
  joined : Nat
  deriving DecidableEq, Repr

/-! ### Signal record (chapter 16) -/

/-- A row: its number, its instant, its values by column, the lane its fast samples come from, and whether that lane
changed before it by a loss. -/
structure Row where
  row : Nat
  time : Nat
  vals : List Nat
  src : Nat
  chg : Bool
  deriving DecidableEq, Repr

/-- A windfall entry: first row, rows, cause (R375). -/
structure WF where
  row : Nat
  rows : Nat
  cause : Nat
  deriving DecidableEq, Repr

/-- An open punnet of a set: its rows, its windfall entries, RESUMED (R374). -/
structure OpenP where
  set : Nat
  rows : List Row
  wfs : List WF
  resumed : Bool
  /-- when it was opened, on the time as it has been stepped since (R58, R377) -/
  since : Option Nat
  deriving DecidableEq, Repr

/-- A reduction window under way: set, window number, per signal the smallest, the largest, the sum and NV (R382). -/
structure RedW where
  set : Nat
  m : Nat
  sigs : List (Int × Int × Int × Nat)
  deriving DecidableEq, Repr

/-- The recorder counters (R372): next PSEQ, coder credit, next row number of each set. -/
structure RecCnt where
  pseq : Nat
  credit : Nat
  rows : List (Nat × Nat)
  deriving DecidableEq, Repr

/-- A datagram of a record port, sent with the IPv4 DF bit set: destination MAC address, own and destination IPv4 address, destination
UDP port, the punnet (R381). -/
structure Gram where
  mac : Nat
  src : Nat
  dst : Nat
  port : Nat
  bytes : List Nat
  deriving DecidableEq, Repr

/-- The recorder of a lane (R371–R384). -/
structure RecH where
  cnt : RecCnt
  opens : List OpenP
  /-- rows not recorded and not yet stated, by set -/
  gaps : List (Nat × WF)
  /-- windows of the reduction sets -/
  redw : List RedW
  /-- samples of this period for fast rows: index of 50 ns in the period, source lane, codes -/
  fast : List (Nat × Nat × List (Nat × Int))
  /-- source lane of the last fast row -/
  src : Nat
  /-- last row plus one of each set's last closed punnet, as the hold ring shows it (R379) -/
  closed : List (Nat × Nat)
  /-- next punnets carry RESUMED, by set -/
  resume : List Nat
  /-- recording is stopped by a halt of the primacy lane -/
  halted : Bool
  /-- coded bytes since the tick of the last CODED_MBS figure -/
  mbs : Nat × Nat
  /-- record port: next PSEQ to send, the MAC address to which its destination resolved, datagrams sent since the last tick -/
  send : Nat
  mac : Option Nat
  tx : List Gram
  /-- PSEQs in the flash queue, punnets ever queued; the record store as (PSEQ, bytes); ticks of the writes of the last 1 s -/
  flashQ : List (Nat × Nat)
  queued : Nat
  store : List (Nat × List Nat)
  wrote : List Nat
  deriving DecidableEq, Repr

/-! ### Service cores and FIFOs (chapter 17) -/

/-- A read word: header and the three data words (R406). -/
structure RdWord where
  hdr : Nat
  d1 : Nat
  d2 : Nat
  d3 : Nat
  deriving DecidableEq, Repr

/-- A FIFO (R404–R408): read words held, bytes gathered, next WSEQ, whether the message in progress is being dropped,
the drop counts (write words, read words, messages), the word captured per party, the tick of the last write. -/
structure Fifo where
  f : Nat
  words : List RdWord
  held : List Nat
  wseq : Nat
  dropping : Bool
  drops : Nat × Nat × Nat
  cap : List (Nat × RdWord)
  last : Nat
  deriving DecidableEq, Repr

/-- A work item (R392): its eight words with SRC, its place among arrivals (CLK_REG cycle, rank, order, R396), whether
it is late, what it has waited for, the tick since which it is ready. -/
structure Item where
  ws : List Nat
  arr : List Nat
  late : Bool
  wCore : Bool
  wFlow : Bool
  ready : Option Nat
  deriving DecidableEq, Repr

/-- A core in service: its item, the tick of dispatch, a status found before it ran (R391), the tags of its ring requests. -/
structure CoreH where
  core : Nat
  item : Item
  since : Nat
  bad : Option Nat
  tags : List Nat
  deriving DecidableEq, Repr

/-- The scheduler of the service cores (R389–R403). -/
structure WorkH where
  /-- staged words of each seat, and the result of its last submission and cancel -/
  staged : List (Nat × List Nat)
  res : List (Nat × Nat × Nat × Nat)
  queue : List Item
  delay : List Item
  cores : List CoreH
  /-- items preempted on cores 8 to 15, with the safe point they resume from -/
  paused : List CoreH
  order : Nat
  tags : Nat
  /-- TIME64 / 10,000 ns of the last tick of the delay lists -/
  tickAt : Nat
  /-- tick since which cores 8 to 15 are idle -/
  idle : Nat
  /-- own results of mirrored items not yet met by an entry, entries not yet met by an own result: identity, bytes -/
  own : List (Nat × List Nat)
  seen : List (Nat × List Nat)
  /-- REPLY and NO_REPLY of mirrored items whose entry is outstanding, by identity -/
  replies : List (Nat × Nat × Bool)
  trc : Trc
  deriving DecidableEq, Repr

/-! ### Interrupts and DMA (chapter 18) -/

/-- A delivery made: target code, source, vector, IRQ_TGT_SUM of the target and the cycle for an event datagram (R413,
R445); how many posted writes of the channels it follows on the function (R413). -/
structure Deliv where
  target : Nat
  source : Nat
  vec : Nat
  sum : Nat
  cyc : Nat
  follows : Nat
  deriving DecidableEq, Repr

/-- A delivery that waits for a sleeping target: source, target, tick of the wake request, made to FALLBACK (R415). -/
structure Wait where
  source : Nat
  target : Nat
  since : Nat
  fallback : Bool
  deriving DecidableEq, Repr

/-- The interrupt controller of a lane: levels as last sampled, deliveries that wait, sources without a deliverable target,
deliveries made in the present CLK_REG cycle; wake requests outstanding, each target with the tick of its request (R415); pending bits that
rose, with the tick (R413). -/
structure IrqH where
  level : List Nat
  waits : List Wait
  undeliv : List Nat
  out : List Deliv
  wakes : List (Nat × Nat)
  rose : List (Nat × Nat)
  deriving DecidableEq, Repr

/-- A DMA channel (R418–R426): the active descriptor, bytes of it moved, its address and space (none for the shadow),
the seat of a pending doorbell, the next descriptor to fetch, whether the run refetches after a halt. -/
structure DmaC where
  ch : Nat
  act : List Nat
  moved : Nat
  desc : Option (Nat × Nat)
  next : Option (Nat × Nat)
  pend : Option Nat
  deriving DecidableEq, Repr

/-- The DMA engine of a lane: channels, and what it sent to the host in the present CLK_REG cycle, as address and bytes. -/
structure DmaH where
  chans : List DmaC
  posted : List (Nat × List Nat)
  deriving DecidableEq, Repr

/-! ### Memory integrity, host links, security (chapter 19) -/

/-- Codewords with wrong bytes, as index and mask of bytes; codewords corrected on the pass before and on this one; the
next codeword of the scrubber; bytes to invert in the next service-area codeword of seat 0; TIME64 of the errors met in
fabric SRAM since the cycle before the last (R115, R429–R432, MEMI_INJ). -/
structure MemiH where
  bad : List (Nat × Nat)
  before : List Nat
  during : List Nat
  ptr : Nat
  inj : Nat
  sram : List Nat
  deriving DecidableEq, Repr

/-- A session of a seat, the same on both lanes (R443): number, key, effect cycle of its last mirrored op or KEEPALIVE. -/
structure Sess where
  seat : Nat
  num : Nat
  key : List Nat
  last : Nat
  deriving DecidableEq, Repr

/-- HAP as carried state: the session counter and the sessions. -/
structure HapC where
  counter : Nat
  sess : List Sess
  deriving DecidableEq, Repr

/-- An op of a request with its outcome (R440): OP, SIZE, COUNT, ADDR, OSTAT, data read. -/
structure HapOp where
  op : Nat
  size : Nat
  count : Nat
  addr : Nat
  ostat : Nat
  data : List Nat
  deriving DecidableEq, Repr

/-- A request that waits for the confirmation of its mirrored op: SEQ, its ops, where its response goes, kind and KEY of
the entry. -/
structure HapWait where
  seq : Nat
  ops : List HapOp
  kind : Nat
  key : Nat
  cyc : Nat
  deriving DecidableEq, Repr

/-- What a lane keeps of a session (R441, R445): highest SEQ executed, held responses, source address and port of the
latest valid datagram, requests that wait. -/
structure HapL where
  seat : Nat
  hi : Option Nat
  held : List (Nat × List Nat)
  ip : Nat
  port : Nat
  waits : List HapWait
  deriving DecidableEq, Repr

/-- An OPEN that this lane received, to be answered at its effect cycle. -/
structure HapOpen where
  seat : Nat
  nonce : List Nat
  ip : Nat
  port : Nat
  seq : Nat
  deriving DecidableEq, Repr

/-- The host-link block of a lane. -/
structure HostH where
  hap : List HapL
  opens : List HapOpen
  /-- datagrams sent since the last tick: address, port, bytes -/
  tx : List (Nat × Nat × List Nat)
  /-- tick of the last TAG_FAIL record -/
  tagLog : Option Nat
  /-- frames answered on a host or record port since the last tick: port (0 host, 1 record), what is answered (0 ARP, 1 ICMP echo) -/
  answered : List (Nat × Nat)
  /-- memory space enable and bus master enable of the function; a Completer Abort reported in AER (R40) -/
  mse : Bool
  aer : Bool
  /-- ERR_NONFATAL messages sent since the last tick (R40) -/
  nonfatal : Nat
  /-- HSR duplicate entries (source, sequence, tick), node table (source, tick), next sequence number, frames sent or
  forwarded since the last tick (0 own port, 1 tool cross hop) with source, sequence -/
  dups : List (Nat × Nat × Nat)
  nodes : List (Nat × Nat)
  seq : Nat
  sent : List (Nat × Nat × Nat)
  /-- residence times that those frames carry, where they are PTP event messages: source, sequence number, ns (R55) -/
  resid : List (Nat × Nat × Nat)
  /-- firmware: version and compatibility number by bank, none where invalid (R448, R449) -/
  banks : List (Option (Nat × Nat))
  /-- a key-change statement in the image store: the new key's hash, whether the old key signs it (R450) -/
  stmt : Option (Nat × Bool)
  keyHash : Option Nat
  deriving DecidableEq, Repr

/-! ### The cartridge's flash, image exchange and trial (chapters 04, 08, 19) -/

/-- What a cartridge brings in its flash and fuses: serial number, hardware revision, firmware banks as (version,
compatibility number), the booted bank, fused version, image-key hash, image counter, image sets, matrix image, event log,
OP_MS and PCYC. -/
structure Cart where
  serial : Nat
  hwRev : Nat
  banks : List (Option (Nat × Nat))
  bank : Nat
  fused : Nat
  keyHash : Option Nat
  imgVer : Nat
  images : Option ImageSet
  seats : Option SeatImg
  matrix : Option MatrixImg
  log : List LogRec
  /-- the last of them is a supply loss written at S2 or later (R83) -/
  brown : Bool
  opMs : Nat
  pcyc : Nat
  deriving DecidableEq, Repr

/-- The image store of a lane and what it prepares (R80, R205): serial number of the cartridge, the image set a cold start
loads, the seat image, the prepared set, a check in progress; TIME64 of the last withdrawal record of each program and the
withdrawals since (R199); the trial output window, by byte offset (R210). -/
structure StoreH where
  serial : Nat
  boot : Option ImageSet
  seats : Option SeatImg
  prep : Option ImageSet
  preparing : Bool
  lastRec : List (Nat × Nat × Nat)
  trialOut : List (Nat × Word)
  deriving DecidableEq, Repr

/-! ### The pip (chapter 14) -/

/-- A DI line: raw level, tick of its last change, level after the filter of channel X and of channel Y (R326). -/
structure DiL where
  i : Nat
  raw : Bool
  since : Nat
  fx : Bool
  fy : Bool
  deriving DecidableEq, Repr

/-- An output in a channel (R325): latch, EDM fault, command, tick at which an off-delay began, tick since which the
RESET literal holds 1, a feedback check under way as (tick of the edge, released expected). -/
structure POut where
  n : Nat
  tripped : Bool
  edm : Bool
  cmd : Bool
  delay : Option Nat
  rst : Option Nat
  fb : Option (Nat × Bool)
  deriving DecidableEq, Repr

/-- A DI pair in a channel (R327): discrepancy fault, tick since which exactly one input permits. -/
structure PPair where
  k : Nat
  fault : Bool
  single : Option Nat
  deriving DecidableEq, Repr

/-- An input connection in a channel (R341): 0 SAFE, 1 SYNC, 2 VALID; SEQ_last, the deadline in ticks, DATA, ticks of the
rejects of the last 1 s, cause of the last entry to SAFE. -/
structure PConn where
  c : Nat
  st : Nat
  seq : Nat
  dead : Nat
  data : Nat
  rejects : List Nat
  cause : Nat
  deriving DecidableEq, Repr

/-- A channel of the pip. -/
structure PChan where
  outs : List POut
  pairs : List PPair
  conns : List PConn
  deriving DecidableEq, Repr

/-- An output connection: SEQ of the last PDU, START due, changes of its data byte as (tick, byte), newest first. -/
structure SksOut where
  c : Nat
  seq : Nat
  start : Bool
  hist : List (Nat × Nat)
  deriving DecidableEq, Repr

/-- The pip of a lane (chapter 14); it runs through every reset of kind L. -/
structure PipH where
  /-- pip time has been aligned (R321) -/
  aligned : Bool
  bank : MatrixImg
  inact : MatrixImg
  /-- the matrix image in the image store (R328) -/
  store : Option MatrixImg
  lines : List DiL
  x : PChan
  y : PChan
  /-- outputs whose X and Y commands differ, with the tick since which they do (R320) -/
  mis : List (Nat × Nat)
  /-- tick of a pip fault; tick at which supply valid fell -/
  faultAt : Option Nat
  downAt : Option Nat
  /-- the switch test in progress: instant number, start, outputs under test (R334) -/
  testing : Option (Nat × Nat × List Nat)
  /-- own switches found bad: output, 0 X or 1 Y stuck closed, 2 X or 3 Y stuck open -/
  bad : List (Nat × Nat)
  /-- TO lines with a readback fault (R335) -/
  toBad : List Nat
  outs : List SksOut
  /-- an accepted activation and its effect cycle (R328) -/
  actAt : Option Nat
  /-- MATRIX_ID of the other lane's inactive banks -/
  othId : Nat
  /-- tick since which the lanes' command vectors differ (R336) -/
  diff : Option Nat
  /-- tick of channel Y's last pass, or of its start (R318) -/
  yAt : Nat
  /-- PDUs handed over and not yet checked: channel (0 X, 1 Y), connection, receipt in pip time, bytes (R342) -/
  rx : List (Nat × Nat × Nat × List Nat)
  deriving DecidableEq, Repr

/-! ### What a node writes -/

/-- One write of a node, held from its firing to its completion, when all are committed together (R144). -/
inductive NodeWrite where
  /-- `len` bytes of the cycle image at an image offset, little-endian -/
  | img (off len val : Nat)
  /-- a word of a table window -/
  | win (addr : Nat) (w : Word)
  /-- a status field of a register -/
  | fld (addr hi lo v : Nat)
  /-- a counter field that saturates at its width -/
  | cnt (addr hi lo n : Nat)
  /-- a counter register counted modulo 2^32 -/
  | inc (addr n : Nat)
  /-- an EV_PEND bit of a page -/
  | ev (page bit : Nat)
  /-- an error latched on a page: code, source, address -/
  | err (p code source addr : Nat)
  /-- an event record: source type, instance, code, data -/
  | log (ty inst code : Nat) (data : List (Nat × Nat))
  | loopI (e : LoopI)
  | groupI (e : GroupI)
  | genI (e : GenI)
  | progI (e : ProgI)
  | edgeOld (i : Nat)
  /-- the record of a withdrawn activation of a program (R199) -/
  | ovrRec (p : Nat)
  | chanI (e : ChanI)
  | wafer (r : WaferRec)
  | axisI (e : AxisI)
  deriving DecidableEq, Repr

/-- A node in service: when it fired, when it completes, what it will commit (R144). -/
structure InServ where
  node : Nat
  act : Nat
  fin : Nat
  ws : List NodeWrite
  deriving DecidableEq, Repr

/-- A retained write log (R115): cycle, the writes by engine, the register of the sweep slice. -/
structure WLog where
  cyc : Nat
  engs : List (Nat × List (Nat × Nat))
  sweep : Nat
  deriving DecidableEq, Repr

/-- The cycle scheduler of a lane (chapter 06). -/
structure CycleH where
  /-- nodes complete, cut or withdrawn in this cycle with the window offset at which they were, in CLK_FAB cycles -/
  compl : List (Nat × Nat)
  inServ : List InServ
  /-- the write log: what each engine has written in this cycle to outputs and carried state, as address and value, by class and
  index (R139); the logs retained of the cycles before, with the sweep register of each (R115) -/
  wlog : List (Nat × List (Nat × Nat))
  logs : List WLog
  /-- CRC-64 register of each contributing engine, by class and index (R105) -/
  crcs : List (Nat × Nat)
  /-- where the next sweep slice begins (R105) -/
  sweep : Nat
  /-- what this cycle has done: ring cut, merge, window open, compute complete -/
  cutDone : Bool
  /-- the lane that held primacy at the ring cut of this cycle (R271) -/
  cutHolder : Option LaneId
  merged : Bool
  opened : Bool
  complete : Bool
  /-- staging late (R138) -/
  late : Bool
  /-- the cycle whose snapshot is being written (R139) -/
  snapOf : Option Nat
  /-- latest frame return of this cycle, ns after t_N -/
  ringLast : Nat
  /-- trace: CYCLE_TRC_CTRL as in force in this cycle, the on-die queue, the records held in MODE 3 (R150–R152) -/
  trcCfg : Nat
  trc : Trc
  trcHeld : List (List Nat)
  /-- frames of this cycle are hold frames (R82, R73) -/
  holdFrames : Bool
  /-- the first cycle whose frames are cycle frames again after a warm resumption (R82) -/
  holdTo : Nat
  /-- the cycle at which the lane last arrived at S2 (R130) -/
  s2At : Nat
  /-- the exchange that takes effect: cycle E (R205) -/
  exchAt : Option Nat
  /-- stamps of kind 0x0A that reached the graph in this cycle: source, TIME64, SUBNS (R224) -/
  stamps : List (Nat × Nat × Nat)
  /-- nodes cut in this cycle, and how many of them have had their outcome for the lane (R148) -/
  cuts : List Nat
  judged : Nat
  deriving DecidableEq, Repr

/-! ### Field rings (chapter 10) -/

/-- A processed record that a lane holds in a cycle; one that it forwards as kind 0x23 counts in its own map only once
the other lane has acknowledged it (R249). -/
structure RingRec where
  r : OneSided
  oneSided : Bool
  acked : Bool
  deriving DecidableEq, Repr

/-- A record consumed in a cycle: what R252 and R254 judge by. -/
structure Consumed where
  ring : Nat
  station : Nat
  sstate : Nat
  inValid : Bool
  deriving DecidableEq, Repr

/-- An acyclic request: ring, target station, TYPE, TAG, data (R262). -/
structure Acyc where
  ring : Nat
  pos : Nat
  ty : Nat
  tag : Nat
  data : List Nat
  deriving DecidableEq, Repr

/-- The ring engines of a lane (R238–R263). -/
structure RingH where
  /-- processed records held for the cycle, and stations that a copy passed unprocessed -/
  recs : List RingRec
  unproc : List (Nat × Nat)
  /-- FOLD frames of the cycle: ring, LANE, FOLD_POS -/
  folds : List (Nat × Nat × Nat)
  /-- trailer ALERT of the copies of the cycle, by ring -/
  alerts : List (Nat × Nat)
  /-- latest arrival of the cycle, by ring -/
  ret : List (Nat × Nat)
  /-- sum and number of the delays measured for L, by ring (R247) -/
  loopSum : List (Nat × Nat × Nat)
  /-- consecutive cycles over RING_TRING, by ring (R260) -/
  excess : List (Nat × Nat)
  /-- records consumed in the cycle, stations with loss evidence, stations commanded absent -/
  cons : List Consumed
  loss : List (Nat × Nat)
  absCmd : List (Nat × Nat)
  /-- stations that answered discovery with an identity word, and stations processed in the last hold frame (R255) -/
  found : List (Nat × Nat × Nat)
  /-- stations marked absent at the end of the last cycle (R204) -/
  lost : List (Nat × Nat)
  holdSeen : List (Nat × Nat)
  /-- safety PDUs for the frames of this period: ring, station, payload offset, bytes (R345) -/
  pdus : List (Nat × Nat × Nat × List Nat)
  /-- frames sent in this period: ring, port (0 end, 1 cross hop), bytes -/
  tx : List (Nat × Nat × List Nat)
  /-- acyclic requests queued, sent and waiting for a response, and responses received -/
  acycQ : List Acyc
  acycOut : List Acyc
  acycIn : List Acyc
  /-- rings whose L this lane has formed (R247); a_p of stations as measured at discovery: ring, station, ns (R248) -/
  formed : List Nat
  ap : List (Nat × Nat × Nat)
  /-- rings whose end port has dropped and not come up again (R258); the modes in which the end ports came up (R238) -/
  dropped : List Nat
  modes : List (Nat × Nat)
  /-- ring ports whose link waits for training: ring, tick of the last refusal (R88, R258) -/
  train : List (Nat × Nat)
  deriving DecidableEq, Repr

/-! ### Analogue inputs and outputs (chapter 11) -/

/-- One conversion of a precision channel in VALUE units, with what its tag depends on (R266, R270). -/
structure Conv where
  v : Int
  ovr : Bool
  test : Bool
  settling : Bool
  deriving DecidableEq, Repr

/-- A lane's conversions of a channel, newest first; how many of the next settle; the instant of a SOURCE change; the holds
of this period before the boundary (R266). -/
structure ConvH where
  ch : Nat
  hist : List Conv
  left : Nat
  src : Option Nat
  holds : Nat
  deriving DecidableEq, Repr

/-- The carried state of a precision channel: agreement (R271), open-wire latch (R276), band comparator (R278: 0
UNARMED, 1 INSIDE, 2 OUTSIDE), and the agreed words of this cycle and the one before with their tags before the
OPEN test. -/
structure AinC where
  ch : Nat
  dis : Nat
  run : Nat
  faulted : Bool
  last : Int
  opn : Bool
  band : Nat
  word : Word
  tag : Nat
  wordPrev : Word
  tagPrev : Nat
  deriving DecidableEq, Repr

/-- The open-wire round (R274): the channel last served, a channel to serve again, the latest slots with their channels,
newest first. -/
structure OwC where
  last : Nat
  again : Option Nat
  slots : List (Nat × Nat)
  deriving DecidableEq, Repr

/-- The analogue block of a lane: conversions, the channel under test current, when the fast converters were granted,
fast inputs over range in this cycle. -/
structure AinH where
  convs : List ConvH
  owCur : Option Nat
  fiAt : Option Nat
  fiOvr : Nat
  deriving DecidableEq, Repr

/-- The event log of a lane (R385–R388): the next SEQ, the on-die buffer, records dropped and not yet stated, the
records in flash (stone and rind), OP_MS as flash holds it, and the log read in progress (true: a copy). -/
structure LogH where
  next : Nat
  buf : List LogRec
  dropped : Nat
  flash : List LogRec
  opFlash : Nat
  /-- a request in progress: a copy or the read of one record, the seat that made it (R387) -/
  rd : Option (Bool × Nat)
  deriving DecidableEq, Repr

end Sys2Proof.Machine
end

