-- ==== Sys2Proof/Syntax.lean ====
section
/-! DEFINITION. The commands of the block: one constructor per row of the opcode table (spec/opcode_table.json), with the
operands of the access, the measurement or the event that it stands for. -/

namespace Sys2Proof

/-- A command. An access names who makes it (`acc`); an event names the lane it happens on (`i`). -/
inductive Instr where
  /-- CARTRIDGE_SEATED (R113): A cartridge is seated with supply valid and the lane moves from ABSENT to POWERED.
  Cartridge `c` in the slot of lane `i`. -/
  | cartridgeSeated (i : LaneId) (c : Machine.Cart)
  /-- SUPPLY_VALID (R71): Lane supply becomes valid after a reset of kind P; the pip starts and stage S0 begins. -/
  | supplyValid (i : LaneId)
  /-- SUPPLY_CHG (R72): One supply entry is lost or restored; SYS_SUPPLY changes and EV_PEND.SUPPLY_CHG is set. The
  second supply entry or the first reads `v`, in 0.2 V units. -/
  | supplyChg (i : LaneId) (second : Bool) (v : Nat)
  /-- RIDE_THROUGH (R72): Both supply entries are lost and the lane starts a ride-through of up to 1 ms. -/
  | rideThrough (i : LaneId)
  /-- SUPPLY_LOSS (R72): The loss outlasts the ride-through; the lane writes a supply-loss record, drops PRESENT, goes
  ABSENT and undergoes a reset of kind P. -/
  | supplyLoss (i : LaneId)
  /-- PIP_RUN (R319): Both pip channels finish loading and checking their tables and their self-tests, and the pip
  asserts PIP_RUN. -/
  | pipRun (i : LaneId)
  /-- STAGE_S1 (R73): The lane reaches S1 and enters KEEPER, sending hold frames and requesting primacy, or enters
  SHADOW if the other lane runs. -/
  | stageS1 (i : LaneId)
  /-- STAGE_S2 (R73): The lane reaches S2, starts the cycle engines and enters SOLO or PAIRED, asserting PRESENT. -/
  | stageS2 (i : LaneId)
  /-- STAGE_S3 (R73): The lane reaches S3, starts the recorder, service cores and HAP, and enables seats from the seat
  image. -/
  | stageS3 (i : LaneId)
  /-- PLL_LOSS (R46): The root PLL loses lock while the lane runs and the lane enters FAULTED. -/
  | pllLoss (i : LaneId)
  /-- FAULT_DWELL (R113): A FAULTED lane's dwell time expires with HOLD_FAULTED 0 and the lane undergoes a reset of kind
  L with cause FAULT. Time passes to the end of the dwell (log entry 1). -/
  | faultDwell (i : LaneId)
  /-- LANE_RESET (R84): A keyed write of SYS_CTRL.LANE_RESET resets the lane, refused with ERR_CODE 0x40 when the other
  lane is not PAIRED and FORCE is 0. A write of SYS_CTRL that sets LANE_RESET. -/
  | laneReset (acc : Acc) (data : Word)
  /-- HOLD_FAULTED (R85): Clearing SYS_CTRL.HOLD_FAULTED on a held FAULTED lane releases it to reset. A write of
  SYS_CTRL that clears HOLD_FAULTED. -/
  | holdFaulted (acc : Acc) (data : Word)
  /-- RESET_RELEASE (R80): A reset of kind L is released and the lane decides to start warm or cold, recording
  SYS_WARM.REASON. -/
  | resetRelease (i : LaneId)
  /-- SNAPSHOT_EXCHANGE (R81): The lanes' snapshot cycle numbers and digests arrive over the pair link and the common
  snapshot is chosen. -/
  | snapshotExchange
  /-- WARM_RESUME (R82): At the first cycle boundary after t_ready the lane resumes from snapshot N_s at cycle N_r and
  writes one gap record. -/
  | warmResume (i : LaneId)
  /-- GRID_ORIGIN (R130): The primacy lane finishes loading its images on a cold start, fixes T_org and N_org and passes
  them to the other lane. -/
  | gridOrigin (i : LaneId)
  /-- TIME_TRIGGER (R64): A time trigger reaches its target and fires, setting TT_FIRED and the periodic next target.
  Time passes to the target of trigger `n` of lane `i` (log entry 1), which fires if it is armed. -/
  | timeTrigger (i : LaneId) (n : Nat)
  /-- TT_CTRL (R65): A mirrored write of TT_CTRL arms or disarms a general time trigger, setting LATE and MISSED for
  passed targets. A write of TT_CTRL of trigger `n`. -/
  | ttCtrl (acc : Acc) (n : Nat) (data : Word)
  /-- TT_TGT_HI (R66): A write of TT_TGT_HI commits the target of a general time trigger as a mirrored entry. A write of
  TT_TGT_HI of trigger `n`. -/
  | ttTgtHi (acc : Acc) (n : Nat) (data : Word)
  /-- TIME_CTRL (R472): A write of TIME_CTRL selects source and options as a mirrored entry, or is refused for a
  reserved SOURCE or PTP_PORT. -/
  | timeCtrl (acc : Acc) (data : Word)
  /-- TIME_SET_HI (R66): A keyed write of TIME_SET_HI requests a time step carrying both halves as one mirrored entry.
  -/
  | timeSetHi (acc : Acc) (data : Word)
  /-- TIME_SERVO_UPDATE (R57): A reference measurement arrives and the servo slews the increment or enters a step,
  updating the time state. An offset `off` in ns against the reference, and its UTC word. -/
  | timeServoUpdate (i : LaneId) (off : Int) (utc : Word)
  /-- REF_LOST (R55): Three expected servo updates are missing, or the 10 MHz input has no edge for 1 µs, and the
  reference is lost. -/
  | refLost (i : LaneId)
  /-- PPS_IN (R56): A rising PPS input edge marks a whole second, is stamped, and applies a pending TIME_SET with
  SET_AT_PPS. An edge in TDC bin `bin` of this tick. -/
  | ppsIn (i : LaneId) (bin : Nat)
  /-- PAIR_TIME_MARKER (R60): Every 100 µs the lanes exchange stamped markers and the follower steers its increment. A
  marker exchange at lane `i`, which follows. At the third miss in a row the lane stops driving at the next cycle
  boundary. -/
  | pairTimeMarker (i : LaneId) (t1 t2 t3 t4 asym : Int)
  /-- TIME_NOW_LO (R70): A read of a LO register of a 64-bit pair captures its HI register for the reading party. A read
  of `size` bytes of a LO register of a 64-bit pair. -/
  | timeNowLo (acc : Acc) (addr size : Nat)
  /-- CYCLE_BOUNDARY (R132): At t_N the lane latches inputs and outputs, launches cycle frames and applies time-base
  corrections of cycle N. What the inputs of both lanes show at t_N. -/
  | cycleBoundary (ia ib : BoundaryIn)
  /-- RING_CUT (R134): At t_N + T_ring the ring cut fixes the receipt maps and the merge phase exchanges and agrees the
  sampled part. -/
  | ringCut
  /-- COMPUTE_WINDOW (R135): The compute window opens; staging not yet complete sets STAGE_LATE and is handled as a
  missed deadline. Staging may be late on a lane. -/
  | computeWindow (lateA lateB : Bool)
  /-- NODE_FIRE (R144): A selected node fires once its engine order, data predecessors, flow and EST conditions hold.
  The window of lane `i` runs on until node `n` has fired. -/
  | nodeFire (i : LaneId) (n : Nat)
  /-- NODE_COMPLETE (R144): A node completes and commits all its writes together. The window of lane `i` runs on until
  node `n` has completed. -/
  | nodeComplete (i : LaneId) (n : Nat)
  /-- NODE_CUT (R148): A class 0, 2 or 3 node misses its DEADLINE, is cut and the lane enters FAULTED. Node `n`, of
  class 0, 2 or 3, is still open at its DEADLINE on the lanes named. -/
  | nodeCut (n : Nat) (cutA cutB : Bool)
  /-- ACTIVATION_WITHDRAWN (R199): A LOGIC activation reaches its DEADLINE without completing and is withdrawn without
  committing. LOGIC node `n` of lane `i` is still open at its DEADLINE. -/
  | activationWithdrawn (i : LaneId) (n : Nat)
  /-- COMPUTE_COMPLETE (R106): The cycle's compute completes; the digest is sent and snapshot writes, bus releases and
  punnet coding begin. -/
  | computeComplete (i : LaneId)
  /-- SNAPSHOT_COMPLETE (R139): The write logs are applied to the snapshot slot, which is marked complete with its
  digest. -/
  | snapshotComplete (i : LaneId)
  /-- SNAP_LATE (R139): The snapshot has not finished by t_N+1 + T_ring; the slot is marked incomplete. -/
  | snapLate (i : LaneId)
  /-- DIGEST_RECEIVE (R106): The other lane's digest arrives and is compared with the own digest. The other lane's next
  digest reaches lane `i`, whose own cycle has come to its compute. -/
  | digestReceive (i : LaneId)
  /-- DIVERGENCE_DECISION (R116): At t_N+3 the self-check outcome decides which lane continues, enters SHADOW or
  FAULTED. At t_N+3 of the mismatched cycle, with the outcomes of the lanes' other tests. -/
  | divergenceDecision (testA testB : Bool)
  /-- DIGEST_DEADLINE (R106): The other lane's digest is not present by t_N+2 and the pair link counts as failed. A
  digest of an earlier cycle has not reached lane `i` by t_N+2. -/
  | digestDeadline (i : LaneId)
  /-- SEAL_DEADLINE (R97): The other lane's seal or counted entries are not held by t_N+2 − 2 µs. A seal of an earlier
  cycle has not reached lane `i` by t_N+2 − 2 µs. -/
  | sealDeadline (i : LaneId)
  /-- SAMPLED_DEADLINE (R97): The other lane's sampled part is not held by the end of the merge phase. The other lane's
  sampled part has not reached lane `i` by the end of the merge phase. -/
  | sampledDeadline (i : LaneId)
  /-- MIRROR_ENTRY (R96): A mirror entry, including a one-sided ring record, arrives from the other lane over the pair
  link. The next entry or one-sided record reaches lane `i`. -/
  | mirrorEntry (i : LaneId)
  /-- SEAL (R100): The other lane's seal of an origin cycle arrives, confirming that lane's entries to their
  originators. The next seal reaches lane `i`; reads that waited at its sender are served. -/
  | seal (i : LaneId)
  /-- SAMPLED_PART (R97): The other lane's sampled part for cycle N arrives over the pair link. -/
  | sampledPart (i : LaneId)
  /-- CYCLE_TRC_CTRL (R150): A write of CYCLE_TRC_CTRL selects the trace mode, taking effect at the next cycle boundary.
  -/
  | cycleTrcCtrl (acc : Acc) (data : Word)
  /-- TRC_WINDFALL (R152): Space returns in the full trace queue and one WINDFALL record of the dropped count is
  inserted. The full queue has drained a record, and the count of those dropped enters. -/
  | trcWindfall (i : LaneId)
  /-- PRIMACY_GRANT (R107): The base arbiter grants primacy to a requesting lane when no lane holds it. Merges that
  waited for a holder follow. -/
  | primacyGrant
  /-- PRIMACY_WITHDRAW (R108): The holder releases primacy, loses supply or drops PRESENT and the arbiter withdraws it.
  -/
  | primacyWithdraw
  /-- TOGGLE_STOP (R108): The holder's keep-alive toggle stops for 320 ns and primacy is withdrawn. -/
  | toggleStop
  /-- SELECTOR_OPEN (R283): No lane holds primacy 1 µs after withdrawal and the AO selectors open to 0 V or 0 mA. 1 µs
  after primacy was withdrawn no lane holds it. -/
  | selectorOpen
  /-- TRANSFER (R110): A keyed PAIR_CTRL.TRANSFER write requests a planned handover as mirror kind 0x02. A write of
  PAIR_CTRL that sets TRANSFER. -/
  | transfer (acc : Acc) (data : Word)
  /-- LEAVE (R113): A keyed PAIR_CTRL.LEAVE write makes the lane leave at the effect cycle, refused in SOLO without
  FORCE. A write of PAIR_CTRL that sets LEAVE. -/
  | leave (acc : Acc) (data : Word)
  /-- EJECTOR_OPEN (R113): The ejector lever is opened and the lane leaves as LEAVE does, or is refused in SOLO. -/
  | ejectorOpen (i : LaneId)
  /-- EJECTOR_CLOSE (R113): The ejector is closed again before removal and the LEAVING lane returns to SHADOW to rejoin.
  -/
  | ejectorClose (i : LaneId)
  /-- CARTRIDGE_REMOVED (R113): A cartridge is withdrawn and its lane becomes ABSENT. -/
  | cartridgeRemoved (i : LaneId)
  /-- FW_START (R126): A keyed PAIR_CTRL.FW_START starts the one-lane-at-a-time firmware exchange, refused for a
  differing compatibility number. A write of PAIR_CTRL that sets FW_START, the package first in the image stores of both
  lanes. -/
  | fwStart (acc : Acc) (data : Word) (pkg : Option FwPkg)
  /-- LINK_CHG (R118): A pair-link lane goes up or down. Pair-link lane `n`. -/
  | linkChg (n : Nat) (up : Bool)
  /-- REJOIN_BEGIN (R121): The pair link has been up for 1 s with AUTO_REJOIN set and a SHADOW lane begins rejoin at
  phase 1. -/
  | rejoinBegin (i : LaneId)
  /-- RJ_START (R121): A write of PAIR_RJ_CTRL.START begins rejoin when AUTO_REJOIN is 0. A write of PAIR_RJ_CTRL that
  sets START. -/
  | rjStart (acc : Acc) (data : Word)
  /-- RJ_ABORT (R123): A write of PAIR_RJ_CTRL.ABORT abandons the rejoin in progress, counted as a failure. A write of
  PAIR_RJ_CTRL that sets ABORT. -/
  | rjAbort (acc : Acc) (data : Word)
  /-- REJOIN_TIMEOUT (R123): A rejoin has not reached phase 6 within TIMEOUT and is abandoned. -/
  | rejoinTimeout (i : LaneId)
  /-- REJOIN_SET (R121): The joining lane finishes receiving the rejoin set and starts replay. -/
  | rejoinSet (i : LaneId)
  /-- REPLAY_CYCLE (R122): The joining lane completes one replayed cycle and moves to shadow cycles once caught up. -/
  | replayCycle (i : LaneId)
  /-- FIRMWARE_RECEIVE (R124): The running lane's firmware arrives, is checked, installed and the joining lane resets
  with cause UPDATE. `signed` tells whether the received firmware's signature is good. -/
  | firmwareReceive (i : LaneId) (signed : Bool)
  /-- PIP_STATE_RECORD (R348): The running pip's state record arrives in rejoin phase 2 and both channels of the joining
  pip load it. -/
  | pipStateRecord (i : LaneId)
  /-- LOCK_KEY (R29): A write of LOCK_KEY advances or breaks the per-seat key sequence for RWK fields. A write of the
  key register of a page. -/
  | lockKey (acc : Acc) (page : Nat) (data : Word)
  /-- KEY_WINDOW (R29): The 1.28 µs window of an open key ends and the key closes. The window of the key that a seat has
  open on the instance of a page ends; time passes to its end (log entry 1). -/
  | keyWindow (i : LaneId) (seat page : Nat)
  /-- SOFT_RESET (R27): A write of BLK_CTRL.SOFT_RESET resets the instance's B fields and holds other accesses. A write
  of BLK_CTRL that sets SOFT_RESET. -/
  | softReset (acc : Acc) (page : Nat) (data : Word)
  /-- SOFT_RESET_DONE (R27): A block soft reset completes, RESET_BUSY clears and held accesses are served. -/
  | softResetDone (i : LaneId) (page : Nat)
  /-- FREEZE (R26): A write of BLK_CTRL.FREEZE holds or releases the block's RO status and counter fields. A write of
  BLK_CTRL, for its FREEZE. -/
  | freeze (acc : Acc) (page : Nat) (data : Word)
  /-- ENABLE (R32): A write of BLK_CTRL.ENABLE runs or stops an instance, or enables or disables a seat as a mirrored
  write. A write of BLK_CTRL, for its ENABLE. -/
  | enable (acc : Acc) (page : Nat) (data : Word)
  /-- EV_SET (R24): A write of EV_SET sets EV_PEND bits as if the events had occurred. -/
  | evSet (acc : Acc) (page : Nat) (data : Word)
  /-- EV_PEND (R24): A W1C write of EV_PEND clears event bits and removes the interrupt level once none unmasked
  remains. -/
  | evPend (acc : Acc) (page : Nat) (data : Word)
  /-- ERR_CODE_CLR (R28): A write of ERR_CODE.CLR clears the latched error, its count and ERR_ADDR. A write of ERR_CODE
  that sets CLR. -/
  | errCodeClr (acc : Acc) (page : Nat) (data : Word)
  /-- CLAIM (R38): A SEAT_CLAIM write with RELEASE 0 claims a token as a mirrored entry. A write of SEAT_CLAIM of seat
  page `q` with RELEASE 0. -/
  | claim (acc : Acc) (q : Nat) (data : Word)
  /-- TOKEN_RELEASE (R39): A SEAT_CLAIM write with RELEASE 1 releases a token, by its holder or by seat 0 through
  FOR_SEAT. A write of SEAT_CLAIM of seat page `q` with RELEASE 1. -/
  | tokenRelease (acc : Acc) (q : Nat) (data : Word)
  /-- SEAT_TOKEN_QUERY (R476): A write of SEAT_TOKEN_QUERY.TOKEN updates HELD and HOLDER for the next read. -/
  | seatTokenQuery (acc : Acc) (q : Nat) (data : Word)
  /-- SEAT_VIOL_INFO (R43): Writing 1 to SEAT_VIOL_INFO.VALID re-arms the violation latch and logs the count if MORE was
  set. A write of SEAT_VIOL_INFO with VALID 1. -/
  | seatViolInfo (acc : Acc) (q : Nat) (data : Word)
  /-- SEAT_RIGHTS_PAGE (R37): A keyed seat 0 write of a rights register sets sixteen rights codes as a mirrored entry. A
  write of a rights register of seat page `q`, the one at offset `off`. -/
  | seatRightsPage (acc : Acc) (q off : Nat) (data : Word)
  /-- REGISTER_WRITE (R33): A write to a register without a row of its own is checked and takes effect locally or
  through the mirror set. A write of `size` bytes of a register, of a table window or of lane DRAM. -/
  | registerWrite (acc : Acc) (addr size data : Nat)
  /-- LEDGER_REQUEST (R90): A grant request reaches the ledger and is granted if it fits or waits in class order. A
  request of class `cls` for `quanta` and `dur` ns by `who`. -/
  | ledgerRequest (i : LaneId) (cls quanta dur who : Nat)
  /-- REVOKED_STOP (R91): A revoked operation reaches its next safe point and stops, returning to the queue. -/
  | revokedStop (i : LaneId)
  /-- LEDGER_WAIT (R90): A waiting request outlasts its class's LEDGER_WAIT and is refused. Time passes until a waiting
  request has outlasted its class's LEDGER_WAIT (log entry 1). -/
  | ledgerWait (i : LaneId)
  /-- GRANT_END (R89): A grant reaches the end of its window [g, g + D) and its quanta return to the pool. Time passes
  to the end of the first grant (log entry 1). -/
  | grantEnd (i : LaneId)
  /-- LEDGER_RELEASE (R90): An operation releases its grant and waiting requests are served. -/
  | ledgerRelease (i : LaneId) (cls who : Nat)
  /-- OVER_MEAS (R92): Measured power exceeds the budget for 10 ms and local grants stop. The lane has drawn `mw` for 10
  ms, more than its budget of 250 mW a quantum. -/
  | overMeas (i : LaneId) (mw : Nat)
  /-- OVER_MEAS_CLEAR (R92): Measured power stays below the budget for 100 ms and local grants resume. The lane has
  drawn `mw` for 100 ms, less than its budget. -/
  | overMeasClear (i : LaneId) (mw : Nat)
  /-- LOOP_TABLE_WRITE (R183): A write to a loop table window is checked by field class and, when mirrored,
  value-checked at apply. A write to a loop table window. -/
  | loopTableWrite (acc : Acc) (addr size data : Nat)
  /-- LOGIC_RUN (R194): CMD RUN puts a program into RUN, with WARM due when coming from STOP. A write of LOGIC_PCTL of
  program `p` with CMD RUN. -/
  | logicRun (acc : Acc) (p : Nat) (data : Word)
  /-- LOGIC_HOLD (R194): CMD HOLD puts a program into HOLD. -/
  | logicHold (acc : Acc) (p : Nat) (data : Word)
  /-- LOGIC_STOP (R194): CMD STOP puts a program into STOP and sets outputs to stop values. -/
  | logicStop (acc : Acc) (p : Nat) (data : Word)
  /-- LOGIC_STEP (R194): CMD STEP runs a held program's cyclic task once at its next selected cycle. -/
  | logicStep (acc : Acc) (p : Nat) (data : Word)
  /-- PREPARE (R205): A keyed LOGIC_EXCH_CTRL.PREPARE write starts building the new image set in both lanes. A write of
  LOGIC_EXCH_CTRL that sets PREPARE. -/
  | prepare (acc : Acc) (data : Word)
  /-- EXCH_READY (R205): A lane finishes preparing and reports READY or FAILED. Lane `i` finishes its checks of the
  image set `im` that stands in its image store. -/
  | exchReady (i : LaneId) (im : ImageSet)
  /-- COMMIT (R206): A keyed LOGIC_EXCH_CTRL.COMMIT enters a kind 0x03 entry when both lanes are READY with one seal. -/
  | commit (acc : Acc) (data : Word)
  /-- ABANDON (R206): A keyed LOGIC_EXCH_CTRL.ABANDON discards the prepared image at its effect cycle. -/
  | abandon (acc : Acc) (data : Word)
  /-- TRIAL_START (R209): A LOGIC_TRIAL_CTRL.START write runs a prepared program in trial on this lane. -/
  | trialStart (acc : Acc) (data : Word)
  /-- TRIAL_STOP (R211): A LOGIC_TRIAL_CTRL.STOP write ends the trial on this lane. -/
  | trialStop (acc : Acc) (data : Word)
  /-- RECIPE_START (R217): CMD START captures the context and edges a channel to START_STEP. A write of RECIPE_CH_CMD of
  channel `c` with CMD START. -/
  | recipeStart (acc : Acc) (c : Nat) (data : Word)
  /-- RECIPE_HOLD (R230): CMD HOLD holds generators, applies the hold step's writes and freezes remaining times. -/
  | recipeHold (acc : Acc) (c : Nat) (data : Word)
  /-- RECIPE_RESUME (R231): CMD RESUME re-applies the ACTIVE writes and resumes the step with its remaining times. -/
  | recipeResume (acc : Acc) (c : Nat) (data : Word)
  /-- RECIPE_ABORT (R232): CMD ABORT edges the channel to the abort chain of the step in force. -/
  | recipeAbort (acc : Acc) (c : Nat) (data : Word)
  /-- RING_FRAME_RECEIVE (R249): An SKR copy arrives at a lane and is accepted or discarded and counted. A copy reaches
  lane `i` on ring `r`, on its end port or over the cross hop, its FCS good or not, its SFD `sfd` and its last byte
  `ret` ns after t_N. A copy later than the ring cut comes after it. -/
  | ringFrameReceive (i : LaneId) (r : Nat) (endPort fcs : Bool) (sfd ret : Nat) (bytes : List Nat)
  /-- RING_STA_ABSENT (R252): A write of RING_STA_CMD.ABSENT marks the station absent at the end of the effect cycle. A
  write of RING_STA_CMD of station `p` that sets ABSENT. -/
  | ringStaAbsent (acc : Acc) (r p : Nat) (data : Word)
  /-- RING_STA_RETURN (R254): A write of RING_STA_CMD.RETURN permits return, refused while the station is present. A
  write of RING_STA_CMD of station `p` that sets RETURN. -/
  | ringStaReturn (acc : Acc) (r p : Nat) (data : Word)
  /-- RING_LINK_CHG (R258): A ring port's link goes up or down; a dropped link requests a PHY_TRAIN grant. The end port
  (0), the cross hop to the other lane (1) or from it (2). -/
  | ringLinkChg (i : LaneId) (r which : Nat) (up : Bool)
  /-- PHY_TRAIN_DONE (R258): A ring port completes training under its grant and its link comes up. The port of ring `r`
  comes up in a mode. -/
  | phyTrainDone (i : LaneId) (r mode : Nat)
  /-- PHY_TRAIN_RETRY (R88): One second after a refused PHY_TRAIN request the lane requests it again. Time passes to 1 s
  after the refusal (log entry 1). -/
  | phyTrainRetry (i : LaneId) (r : Nat)
  /-- AIN_ACK (R273): A mirrored AIN_CTRL.ACK clears the disagreement fault of the channel named. A write of AIN_CTRL
  that sets ACK. -/
  | ainAck (acc : Acc) (data : Word)
  /-- FULL_REQ (R281): Setting AIN_CTRL.FULL_REQ requests CONV_FULL in Economy, refused outside Economy. A write of
  AIN_CTRL that sets FULL_REQ. -/
  | fullReq (acc : Acc) (data : Word)
  /-- AIN_CH_CFG (R267): A mirrored write of a channel's configuration is checked and applied in the effect cycle's
  merge phase. A write of AIN_CH_CFG of channel `ch`. -/
  | ainChCfg (acc : Acc) (ch : Nat) (data : Word)
  /-- OW_CURRENT_ON (R274): At t_B − T_OW the primacy lane starts the 20 µA test current into the channel under test. -/
  | owCurrentOn (i : LaneId)
  /-- OW_CURRENT_OFF (R274): At t_B + 1 µs the test current stops. -/
  | owCurrentOff (i : LaneId)
  /-- AO_RB_FAULT (R284): 20 µs after a latch the DAC readback is compared with the code and a fault is flagged. Output
  `ch` reads back `rb`, in code units, 20 µs after a latch. -/
  | aoRbFault (i : LaneId) (ch : Nat) (rb : Int)
  /-- FI_READY (R280): 100 µs after a FAST_ARM grant the fast converters deliver their first sample. Time passes to 100
  µs after the grant (log entry 1). -/
  | fiReady (i : LaneId)
  /-- AXIS_ENABLE (R294): CMD ENABLE brings a DISABLED axis to STANDSTILL at its actual position. A write of AXIS_CMD of
  axis `a` with CMD ENABLE. -/
  | axisEnable (acc : Acc) (a : Nat) (data : Word)
  /-- AXIS_DISABLE (R294): CMD DISABLE turns the drive off and the axis enters DISABLED. -/
  | axisDisable (acc : Acc) (a : Nat) (data : Word)
  /-- MOVE_ABS (R293): CMD MOVE_ABS plans a move to the absolute target. -/
  | moveAbs (acc : Acc) (a : Nat) (data : Word)
  /-- MOVE_REL (R293): CMD MOVE_REL plans a move by TGT relative to the present target. -/
  | moveRel (acc : Acc) (a : Nat) (data : Word)
  /-- VELOCITY (R293): CMD VELOCITY ramps the axis to the signed velocity and keeps it. -/
  | velocity (acc : Acc) (a : Nat) (data : Word)
  /-- FOLLOW (R293): CMD FOLLOW makes the axis follow the target from FOLLOW_REF. -/
  | follow (acc : Acc) (a : Nat) (data : Word)
  /-- AXIS_STOP (R295): CMD STOP brings the axis to rest along the programmed ramp. -/
  | axisStop (acc : Acc) (a : Nat) (data : Word)
  /-- QUICKSTOP (R295): CMD QUICKSTOP brings the axis to rest along the limit ramp. -/
  | quickstop (acc : Acc) (a : Nat) (data : Word)
  /-- HOME (R299): CMD HOME runs the homing method and sets the position scale at the reference event. -/
  | home (acc : Acc) (a : Nat) (data : Word)
  /-- AXIS_ACK (R294): CMD ACK returns a FAULT axis at rest with its cause gone to STANDSTILL. -/
  | axisAck (acc : Acc) (a : Nat) (data : Word)
  /-- AXIS_PE (R304): A mirrored write of the axis parameter table is checked and applied or refused with ERR_CODE 0x41.
  A write of `size` bytes to the axis parameter table. -/
  | axisPe (acc : Acc) (addr size data : Nat)
  /-- PWM_BOUNDARY (R290): At each PWM period boundary both lanes run the current loop and compare duties. At a PWM
  boundary of axis `a` the current loops of the lanes have computed these duties. -/
  | pwmBoundary (a : Nat) (dutiesA dutiesB : List Nat)
  /-- OVERCURRENT (R295): A current sample above I_TRIP turns the gates off within one PWM period and faults the axis. A
  current sample of axis `a`, in units of I_TRIP. -/
  | overcurrent (i : LaneId) (a sample : Nat)
  /-- MCLK_FAULT (R291): No bitstream edge for one whole PWM period while gates are driven faults the axis. -/
  | mclkFault (i : LaneId) (a : Nat)
  /-- PBUS_ARBITRATION (R309): At bus idle the primacy lane offers the lowest-identifier queued frame to arbitration. At
  an idle of bus `n` the primacy lane offers a frame. -/
  | pbusArbitration (n : Nat)
  /-- PBUS_FRAME_ACCEPTED (R313): A frame becomes valid; the primacy lane enters a matching reception as kind 0x09 and
  sent frames leave the queue. Frame `f` on bus `n`, its start of frame `age` ticks back, in the TDC bins of the lanes.
  -/
  | pbusFrameAccepted (n : Nat) (f : Machine.BusFrame) (age binA binB : Nat)
  /-- PBUS_ERROR (R312): An attempt ends in an error; counted mode increments TRIES and may drop the frame. The attempt
  on bus `n` ends in an error that raises TEC by `dTec`. -/
  | pbusError (n dTec : Nat)
  /-- RECOVERED (R316): 128 occurrences of 11 recessive bits end bus-off recovery. -/
  | recovered (n : Nat)
  /-- PBUS_CANCEL (R311): PBUS_OBJ_CMD CANCEL removes an object's pending frame unless its attempt has begun. A write of
  PBUS_OBJ_CMD of bus `n` with CMD CANCEL. -/
  | pbusCancel (acc : Acc) (n : Nat) (data : Word)
  /-- PBUS_SEND (R311): PBUS_OBJ_CMD SEND releases the object's image data at the effect cycle. -/
  | pbusSend (acc : Acc) (n : Nat) (data : Word)
  /-- REC_REQ (R316): A mirrored PBUS_CTRL.REC_REQ starts bus-off recovery when AUTO_REC is 0. A write of PBUS_CTRL of
  bus `n` that sets REC_REQ. -/
  | recReq (acc : Acc) (n : Nat) (data : Word)
  /-- DI_EDGE (R325): A DI level change is filtered and each pip channel re-evaluates its outputs and latches. The level
  of DI `n` changes at both lanes. -/
  | diEdge (n : Nat) (level : Bool)
  /-- CHANNEL_Y_PASS (R318): Every 20 µs channel Y makes one full pass over the matrix. -/
  | channelYPass (i : LaneId)
  /-- PIP_FAULT (R320): An X–Y command mismatch outlasting DISC_TIME drops PIP_RUN and PRESENT and faults the lane. With
  cause 0x01 time passes until a command mismatch has outlasted its DISC_TIME (log entry 1); the causes 0x02, 0x03, 0x04
  and 0x0A are failed checks. A table check that fails before PIP_RUN latches ERR_CODE 0x43. -/
  | pipFault (i : LaneId) (cause index : Nat)
  /-- OFF_DELAY (R325): An output's off-delay expires and its command falls to demand. Time passes to the end of an
  off-delay that runs on output `n` of lane `i` (log entry 1). -/
  | offDelay (i : LaneId) (n : Nat)
  /-- EDM_FAULT (R325): Contactor feedback misses its FB_TIME window and edm_fault is set. Time passes to the end of the
  FB_TIME window of output `n` of lane `i`, in which its feedback is missing (log entry 1). -/
  | edmFault (i : LaneId) (n : Nat)
  /-- PAIR_FAULT (R327): Exactly one input of a DI pair permits for DISC and a discrepancy fault arises. Time passes to
  the end of DISC of pair `k` of lane `i`, of which one input permits (log entry 1). -/
  | pairFault (i : LaneId) (k : Nat)
  /-- SKS_PDU (R340): An SKS PDU is handed to a pip channel and checked against its connection. Channel X (0) or Y (1)
  takes the next PDU handed to it. -/
  | sksPdu (i : LaneId) (ch : Nat)
  /-- SKS_EXPIRY (R341): Pip time reaches a connection's deadline and the connection goes to SAFE. Time passes to the
  earliest deadline of a channel's connections (log entry 1). -/
  | sksExpiry (i : LaneId) (ch : Nat)
  /-- SWITCH_TEST (R334): At a test instant the lane opens the X or Y switch of each energised tested output. Time
  passes to test instant `m` of lane `i` (log entry 1). -/
  | switchTest (i : LaneId) (m : Nat)
  /-- SWITCH_TEST_END (R334): 200 µs after a test opening the switch closes and the test result is judged. 200 µs after
  the opening; `res` gives, for an output, 0 good, 1 stuck closed, 2 stuck open. -/
  | switchTestEnd (i : LaneId) (res : List (Nat × Nat))
  /-- TO_READBACK (R335): A TO line differs from its commands for 1 µs and the lane commands trip on it. TO line `n` has
  differed from its counting commands for more than 1 µs. -/
  | toReadback (i : LaneId) (n : Nat)
  /-- LANE_COMPARE (R336): Every 1 ms the pips compare command vectors and a 100 ms difference sets LANE_DIFF. Each lane
  compares the command vectors over the pair link. -/
  | laneCompare
  /-- BRIDGE_CHG (R332): The base closes or opens the bridge of a slot after the supply or PRESENT change that calls for
  it. The base bridges or frees slot `i` as R331 calls for. -/
  | bridgeChg (i : LaneId)
  /-- SAFE_LOAD (R328): A keyed SAFE_LOAD_CTRL.LOAD writes the matrix into the inactive banks. The matrix image `im`,
  placed in the image stores of both lanes, and a write of SAFE_LOAD_CTRL that sets LOAD. -/
  | safeLoad (acc : Acc) (data : Word) (im : Option MatrixImg)
  /-- LOAD_DONE (R328): Each channel reads back its bank and reports VERIFIED or FAILED. `okX` and `okY` tell whether
  the banks read back as written. -/
  | loadDone (i : LaneId) (okX okY : Bool)
  /-- SAFE_ACTIVATE (R328): A keyed SAFE_LOAD_CTRL.ACTIVATE is accepted or refused in its effect cycle. A write of
  SAFE_LOAD_CTRL that sets ACTIVATE. -/
  | safeActivate (acc : Acc) (data : Word)
  /-- ACTIVATED (R329): At pip time t_E both pips switch banks, keeping or tripping latches by R329. Time passes to t_E
  of the accepted activation (log entry 1), on both lanes. -/
  | activated
  /-- CAPT_ARM (R361): CMD ARM requests the capture grants and enters WAIT_GRANT. A write of CAPT_CTRL with CMD ARM. -/
  | captArm (acc : Acc) (data : Word)
  /-- CAPT_STOP (R360): CMD STOP ends an armed or triggered capture with cause STOP. -/
  | captStop (acc : Acc) (data : Word)
  /-- CAPT_ABORT (R360): CMD ABORT ends a capture with cause ABORT or withdraws its request. -/
  | captAbort (acc : Acc) (data : Word)
  /-- CAPTURE_START (R361): At T0 the granted capture enters ARMED and starts storing frames. Time passes to T0 of the
  granted capture (log entry 1). -/
  | captureStart (i : LaneId)
  /-- TRIGGER_FIRING (R358): A trigger unit fires, is listed and counted by the sequencer, possibly leaving the state.
  The crossing or the edge of unit `u` of lane `i`, in a direction, in TDC bin `bin`. A DI unit fires once its edge has
  qualified: time passes to that instant (log entry 1). -/
  | triggerFiring (i : LaneId) (u : Nat) (rising : Bool) (bin : Nat)
  /-- SEQ_TIMEOUT (R358): A sequencer state's window closes and TO_NEXT is entered. Time passes to the end of the window
  of the sequencer's state (log entry 1). -/
  | seqTimeout (i : LaneId)
  /-- NO_TRIGGER (R361): A capture still ARMED at ARM_MAX or at its grant's end ends with cause NO_TRIGGER. Time passes
  to T0 + ARM_MAX of an armed capture (log entry 1). -/
  | noTrigger (i : LaneId)
  /-- CAPTURE_COMPLETE (R362): Frame K + POST − 1 is stored and the capture enters DONE. -/
  | captureComplete (i : LaneId)
  /-- CAPTURE_HEADER (R364): Every 1 ms while armed or triggered the engine rewrites the capture header. -/
  | captureHeader (i : LaneId)
  /-- CAPTURE_OVERRUN (R367): The on-die capture buffer overflows and the capture ends with cause OVERRUN. -/
  | captureOverrun (i : LaneId)
  /-- PUNNET_SEND (R381): The record port sends the next punnet as one UDP datagram or skips to the oldest held. From S3
  on (R73). -/
  | punnetSend (i : LaneId)
  /-- ARP_RESOLVE (R381): At link-up and every 60 s the record port resolves its destination by ARP. The record port's
  link is `up`; its destination answers with `mac`, or not. -/
  | arpResolve (i : LaneId) (up : Bool) (mac : Option Nat)
  /-- FLASH_WRITE (R383): Under a flash grant the queue is written to the record store in PSEQ order. -/
  | flashWrite (i : LaneId)
  /-- LOG_FLASH_WRITE (R387): Buffered event records reach the stone or rind in flash. The oldest `n` buffered records.
  -/
  | logFlashWrite (i : LaneId) (n : Nat)
  /-- LOG_WINDFALL (R388): Space returns in the full log buffer and one LOG_WINDFALL record of the dropped count is
  entered. -/
  | logWindfall (i : LaneId)
  /-- LOG_RD_GO (R387): LOG_RD_CTRL.GO reads record SEQ into LOG_RD_DATA. A write of LOG_RD_CTRL that sets GO. -/
  | logRdGo (acc : Acc) (data : Word)
  /-- LOG_RD_COPY (R387): LOG_RD_CTRL.COPY copies COUNT records to the service area. A write of LOG_RD_CTRL that sets
  COPY. -/
  | logRdCopy (acc : Acc) (data : Word)
  /-- RD_DONE (R387): A log read or copy request ends and RD_DONE is set. -/
  | rdDone (i : LaneId)
  /-- WORK_SUBMIT (R393): A write of WORK_SUB_7 submits the staged work item, queued or mirrored, or refused with a
  code. A write of WORK_SUB_7. -/
  | workSubmit (acc : Acc) (data : Word)
  /-- WORK_DISPATCH (R395): A free core is given the ready item of highest effective priority. -/
  | workDispatch (i : LaneId)
  /-- WORK_DONE (R399): An item completes and its completion message goes to its REPLY FIFO, or its result enters the
  mirror set. The item on `core`. -/
  | workDone (i : LaneId) (core : Nat)
  /-- DELAY_TICK (R398): Every 10 µs the scheduler releases delayed items whose deadlines are due. Time passes to the
  next multiple of 10,000 ns of TIME64 that the scheduler has not taken (log entry 1). -/
  | delayTick (i : LaneId)
  /-- WORK_CANCEL (R396): A write of WORK_CANCEL_HI cancels a waiting item by identity. A write of WORK_CANCEL_HI. -/
  | workCancel (acc : Acc) (data : Word)
  /-- BOOST_REQUEST (R397): A ready item has waited WAIT_US and the scheduler requests SERVICE_BOOST. Time passes until
  the item ready longest has waited WAIT_US (log entry 1). -/
  | boostRequest (i : LaneId)
  /-- BOOST_RELEASE (R397): Cores 8–15 have been idle for IDLE_MS and the grant is released. Time passes until cores 8
  to 15 have been idle for IDLE_MS (log entry 1). -/
  | boostRelease (i : LaneId)
  /-- ACYC_TIMEOUT (R390): A ring acyclic request has no response within 100 ms and its item completes with STATUS 0x03.
  Time passes until the ring requests of the item on `core` have waited 100 ms (log entry 1). -/
  | acycTimeout (i : LaneId) (core : Nat)
  /-- WORK_TRC_WINDFALL (R403): Space returns in the full work-trace queue and a WINDFALL record is inserted. -/
  | workTrcWindfall (i : LaneId)
  /-- FIFO_WR (R405): A write of FIFO_WR adds 4 bytes to the message in progress. A write of FIFO_WR of FIFO `f`. -/
  | fifoWr (acc : Acc) (f : Nat) (data : Word)
  /-- FIFO_WR_END (R405): A write of FIFO_WR_END adds the last bytes and ends the message. A write of FIFO_WR_END of
  FIFO `f`. -/
  | fifoWrEnd (acc : Acc) (f : Nat) (data : Word)
  /-- FIFO_FLUSH (R405): FLUSH_US passes without a write and the held bytes are committed as a read word. Time passes
  until FLUSH_US have gone by without a write of FIFO `f` (log entry 1). -/
  | fifoFlush (i : LaneId) (f : Nat)
  /-- FIFO_RD_0 (R407): A read of FIFO_RD_0 removes the oldest read word, or returns NV on an empty FIFO. A read of
  `size` bytes at FIFO_RD_0 of FIFO `f`. -/
  | fifoRd0 (acc : Acc) (f size : Nat)
  /-- IRQ_LEVEL_RISE (R410): A source level rises, setting its pending bit or IRQ_LOST, and delivers when unmasked. The
  level of source `src`, driven now, goes to 1. -/
  | irqLevelRise (i : LaneId) (src : Nat)
  /-- IRQ_SET (R410): A write of IRQ_SET sets pending bits as if the sources had fired. A write of word `k` of IRQ_SET.
  -/
  | irqSet (acc : Acc) (k : Nat) (data : Word)
  /-- IRQ_PEND (R410): A W1C write of IRQ_PEND clears pending bits, which set again if the level persists. A write of
  word `k` of IRQ_PEND. -/
  | irqPend (acc : Acc) (k : Nat) (data : Word)
  /-- IRQ_MASK (R413): A write of IRQ_MASK masks or unmasks sources, delivering a pending source on unmask. A write of
  word `k` of IRQ_MASK. -/
  | irqMask (acc : Acc) (k : Nat) (data : Word)
  /-- IRQ_ROUTE (R412): A write of IRQ_ROUTE changes target, fallback or vector, refused for core targets. A write of
  IRQ_ROUTE of source `src`. -/
  | irqRoute (acc : Acc) (src : Nat) (data : Word)
  /-- TARGET_WAKE (R415): A sleeping target wakes and receives its waiting delivery. Target `t` wakes. -/
  | targetWake (i : LaneId) (t : Nat)
  /-- WAKE_TIMEOUT (R415): A target is not awake 50 µs after its wake request and the delivery goes to FALLBACK. Time
  passes to 50 µs after the first wake request of target `t` (log entry 1). -/
  | wakeTimeout (i : LaneId) (t : Nat)
  /-- DOORBELL (R422): A write of DMA_CH_CTRL.DOORBELL marks the shadow pending and starts a run if idle. A write of
  DMA_CH_CTRL of channel `n` that sets DOORBELL. -/
  | doorbell (acc : Acc) (n : Nat) (data : Word)
  /-- DMA_PAUSE (R425): A write of DMA_CH_CTRL.PAUSE stops new reads at the next whole beat, or resumes when cleared. A
  write of DMA_CH_CTRL of channel `n`, whose PAUSE stops or resumes reading. -/
  | dmaPause (acc : Acc) (n : Nat) (data : Word)
  /-- PAUSED (R425): The holding register drains and the channel enters PAUSED. Reading of channel `n` stops after `k`
  more bytes, those of a host source given. -/
  | paused (i : LaneId) (n k : Nat) (host : List Nat)
  /-- DMA_RESUME (R424): DMA_CH_CTRL.RESUME restarts a halted run from the first byte not transferred. A write of
  DMA_CH_CTRL of channel `n` that sets RESUME. -/
  | dmaResume (acc : Acc) (n : Nat) (data : Word)
  /-- DMA_ABORT (R424): DMA_CH_CTRL.ABORT ends the run and discards the pending shadow. A write of DMA_CH_CTRL of
  channel `n` that sets ABORT. -/
  | dmaAbort (acc : Acc) (n : Nat) (data : Word)
  /-- DESCRIPTOR_FETCH (R423): A chained descriptor is fetched and checked, halting at CHAIN_LIMIT or when invalid. A
  descriptor in host memory is given. -/
  | descriptorFetch (i : LaneId) (n : Nat) (host : List Nat)
  /-- DESC_DONE (R426): A descriptor's last write completes; STATUS is written back and the run continues or ends. The
  bytes of a host source are given. -/
  | descDone (i : LaneId) (n : Nat) (host : List Nat)
  /-- DMA_TIMEOUT (R424): An access has no response within 4 µs and the channel halts with CAUSE TIMEOUT. An access of a
  side of channel `n` has no response within 4 µs, `k` more bytes having been moved. -/
  | dmaTimeout (i : LaneId) (n k side : Nat) (host : List Nat)
  /-- DMA_COMPLETION_ERROR (R424): A host read completes with UR, CA or poison and the channel halts. A host read of a
  side of channel `n` completes with UR, CA or poison, `k` more bytes having been moved. -/
  | dmaCompletionError (i : LaneId) (n k side : Nat) (host : List Nat)
  /-- DMA_FIFO_DATA (R421): A channel waiting on an empty source FIFO receives a read word and continues. -/
  | dmaFifoData (i : LaneId) (n : Nat)
  /-- SCRUB (R432): Every 160 µs the scrubber reads one DRAM codeword and corrects or reports it. The scrubber reads its
  next codeword, in which the bytes of `mask` have gone wrong; a word in error in more than 4 bytes that lies within 4
  bytes of another codeword reads as `near` (R429). -/
  | scrub (i : LaneId) (mask : Nat) (near : Option (List Nat))
  /-- PCIE_BINDING_END (R435): Link down, hot reset, FLR or a cleared MSE or BME ends the PCIe binding, releasing tokens
  and aborting DMA. Link down 0, hot reset 1, FLR 2, Memory Space Enable or Bus Master Enable cleared 3. -/
  | pcieBindingEnd (i : LaneId) (cause : Nat)
  /-- HAP_REQUEST (R441): A HAP REQUEST datagram is checked, executed or answered again, and responded. The bytes of a
  REQUEST datagram from an address and port, in a frame of PCP 7 or not, at a normal queue that is full or not. -/
  | hapRequest (i : LaneId) (ip port : Nat) (pcp7 full : Bool) (bytes : List Nat)
  /-- HAP_OPEN (R443): A HAP OPEN datagram enters the mirror set and both lanes derive the session and answer OPEN_ACK.
  -/
  | hapOpen (i : LaneId) (ip port : Nat) (bytes : List Nat)
  /-- HAP_CLOSE (R443): A HAP CLOSE datagram ends the session and releases the seat's tokens. -/
  | hapClose (i : LaneId) (ip port : Nat) (bytes : List Nat)
  /-- HAP_KEEPALIVE (R443): A HAP KEEPALIVE datagram keeps the session alive. -/
  | hapKeepalive (i : LaneId) (ip port : Nat) (bytes : List Nat)
  /-- SESSION_IDLE (R443): No mirrored op or KEEPALIVE takes effect for IDLE_S and the session ends. The session of seat
  `q` on both lanes. -/
  | sessionIdle (q : Nat)
  /-- HALT_REQ (R446): HALT_REQ is asserted for 1 µs and at the next boundary ACYC, capture and recording stop. Asserted
  for 1 µs at lane `i`. -/
  | haltReq (i : LaneId)
  /-- HALT_RELEASE (R380): HALT_REQ is released and recording resumes with windfall entries of CAUSE 2. -/
  | haltRelease (i : LaneId)
  /-- SOFT (R446): A mirrored write of HOST_HALT.SOFT starts or ends a software halt. A write of HOST_HALT. -/
  | soft (acc : Acc) (data : Word)
  /-- COMMIT_SVN (R449): A keyed seat 0 write of COMMIT_SVN advances the fuse counter to the running version. A write of
  HOST_SEC_CTRL that sets COMMIT_SVN. -/
  | commitSvn (acc : Acc) (data : Word)
  /-- KEY_CHG (R450): A keyed write of KEY_CHG applies a signed key-change statement. A write of HOST_SEC_CTRL that sets
  KEY_CHG; the key-change statement in the image store gives the hash of the new key, and whether the old key has signed
  it. -/
  | keyChg (acc : Acc) (data : Word) (stmt : Option (Nat × Bool))
  /-- TOOL_RING_FRAME (R447): An HSR frame arrives, is forwarded, discarded as duplicate or taken by the module. An HSR
  frame at lane `i`, by its own port or over the cross hop, with its source address and sequence number, and what it is
  for. -/
  | toolRingFrame (i : LaneId) (cross : Bool) (src seq : Nat) (toModule toOthers supervision : Bool)
  /-- HSR_SUPERVISION (R447): Every 2 s the primacy lane sends an HSR supervision frame. -/
  | hsrSupervision
  /-- HSR_ENTRY_EXPIRY (R447): A duplicate entry ages out after 400 ms, or a node-table entry after 60 s. Time passes to
  the first entry that ages out (log entry 1). -/
  | hsrEntryExpiry (i : LaneId)
  /-- SEAT_READ (R40): A seat's read of a register page, table window or DRAM is checked against the rules of the
  chapter and, where it breaks one, answered with HAP status 0x05 or Completer Abort, latched and logged. A read of
  `size` bytes of a register, of a table window or of lane DRAM. -/
  | seatRead (acc : Acc) (addr size : Nat)
  /-- UNCORRECTABLE_READ (R431): A read by any master other than the scrubber meets a correctable or uncorrectable
  RS(72,64) error, which is corrected and counted or latched, logged and handled by region (lane FAULTED, punnet
  skipped, DMA halted with CAUSE MEMORY, poisoned completion). A read by a master other than the scrubber meets a
  codeword with an error. -/
  | uncorrectableRead (i : LaneId) (c : Codeword) (reader : Reader)
  /-- PCIE_LINK_UP (R435): The endpoint's PCIe link comes up again, setting HOST_PCIE_STAT.LINK and EV_PEND.PCIE_LINK,
  and the endpoint is bound to the seat HOST_PCIE_CFG.SEAT names. With a link width and speed. -/
  | pcieLinkUp (i : LaneId) (width speed : Nat)
  /-- DSTATE_CHG (R415): The host moves the PCIe function between D0 and D3hot, which makes its seat asleep or awake for
  interrupt delivery. To D0 (0) or D3hot (3). -/
  | dstateChg (i : LaneId) (d : Nat)
  /-- ARP_REQUEST (R438): An ARP request for the port's own address, or an ICMP echo request, arrives on a host port or
  record port and is answered; every other non-HAP frame is discarded. An ARP request for the own address (0) or an ICMP
  echo request (1), on the host port (0) or the record port (1); any other frame is discarded. -/
  | arpRequest (i : LaneId) (port kind : Nat)
  /-- PEER_DELAY (R55): A PTP peer-delay request from the link partner arrives on the selected PTP port and the module
  answers it with hardware stamps. A request in TDC bin `b`, its answer `d` ticks later in bin `b'`. -/
  | peerDelay (i : LaneId) (b d b' : Nat)
  /-- TR_LINK (R55): A tool-ring port or the tool cross hop goes up or down, setting EV_PEND.TR_LINK, and with PTP_PORT
  3 the PTP port moves from TR1 to TR2 on TR1 link loss. The tool-ring port of lane `i`, or the cross hop. -/
  | trLink (i : LaneId) (cross up : Bool)
  /-- FILTER_HOLD (R266): A precision channel with FILT_K > 0 is held and converted at t_N − P + j × P / D inside the
  period, and the sinc filter state advances. Precision channel `ch` of lane `i`, with FILT_K > 0, is held and converted
  inside the period. -/
  | filterHold (i : LaneId) (ch : Nat) (code : Int)
  /-- FAST_SAMPLE (R279): Every 50 ns the fast converters deliver a sample, which is stored as a capture frame, folded
  into reductions, streamed to the other lane and taken into fast recording rows. The fast converters of both lanes
  deliver a sample. Captures, comparators and over-range marks of a lane use its own converters; fast rows use those of
  the primacy lane. -/
  | fastSample (ca cb : List (Nat × Int))
  /-- LIMIT_INPUT (R296): A raw transition on LIM_NEG, LIM_POS, HOME or the index input of a direct axis is counted for
  chatter, debounced, and at a home or index edge latches LATCH_POS with its stamp. A raw transition of LIM_NEG (0),
  LIM_POS (1), HOME (2) or the index (3) of direct axis `a`, at an encoder position, in TDC bin `bin`. -/
  | limitInput (i : LaneId) (a which : Nat) (level : Bool) (pos : Int) (bin : Nat)
  /-- RECEIVE_ERROR (R316): A frame on a priority bus is received with an error, the primacy lane signals an error
  frame, REC rises and ERR_FRAMES counts, possibly reaching the warning or error-passive state. A frame on bus `n` is
  received with an error that raises REC by `dRec`. -/
  | receiveError (n dRec : Nat)
  /-- SO_OVERLOAD (R463): An SO output's current exceeds its limit and the output turns itself off within 100 µs, shown
  off in SAFE_SO_OUT. SO output `n` turns itself off. -/
  | soOverload (n : Nat)
  /-- OVERLOAD_RETRY (R463): Every 100 ms while an overloaded SO output is commanded on, it retries switching on. 100 ms
  after it turned off, SO output `n` retries (log entry 1). -/
  | overloadRetry (n : Nat)
  /-- OP_MS_REWRITE (R385): Every 60 s the cartridge rewrites OP_MS in flash. -/
  | opMsRewrite (i : LaneId)
  /-- ON_DIE_SCRUB (R432): Every 10 s the scrubber passes over the on-die memories other than engine SRAM, correcting or
  reporting errors. In an on-die memory of the instance of a page, a codeword with `wrong` wrong bytes (Reed–Solomon) or
  bits (SEC-DED) is found. -/
  | onDieScrub (i : LaneId) (page : Nat) (rs : Bool) (wrong : Nat)
  deriving DecidableEq, Repr

end Sys2Proof
end

