-- ==== Sys2Proof/Config.lean ====
section
/-! DEFINITION. What the manual leaves open: free values without a body, about which no proof can know anything,
and the few constants an implementation fixes. -/

namespace Sys2Proof

/-- PCIe vendor ID of the endpoint; HOST_PCIE_ID.VENDOR is Fixed and its value is not given (log entry 8). -/
opaque Config.vendorId : BitVec 16

/-- BLK_VER.MINOR of a block, by its type code; Fixed and not given (log entry 8). -/
opaque Config.blkMinor : Nat → BitVec 8

/-- A fresh free word for the `n`-th open value of a run (log entry 9). -/
opaque Config.freeWord : Nat → BitVec 32

/-- The course of a plan from a moving state, as a denominator and the acceleration of each execution: R173 bounds it and
does not fix it among those that keep the limits. The list holds position, velocity, acceleration, end velocity, target
and the limits V, A, J (log entry 21). -/
opaque Config.moveCourse : List Int → Nat × List Int

/-- The result of a task of a cyclic program: the manual gives the programs' rules around it, but not the engines'
instruction set, so what a program computes is free, the same on both lanes for the same inputs (log entry 22). -/
opaque Config.progRun : ProgIn → ProgRes

/-- The q-current setpoint of a PMSM axis, before its limit: the manual names the gains of position and velocity
control and states no law. The list holds commanded and actual position, commanded velocity, KP_POS, KP_SH, KV, KV_SH
(R285, R304; log entry 26). -/
opaque Config.pmsmIq : List Int → Int

/-- REC after a successful reception from a value above 127: ISO 11898-1 allows 119 to 127, and the controller's choice
is `119 + recDrop % 9` (R316; log entry 27). -/
opaque Config.recDrop : Nat

/-- The delay a_p, in ns, that the ring engine of a lane measures for a station at discovery (R248): lane, ring, station,
TIME64 of the answer. It is the wiring's (log entry 154). -/
opaque Config.stationDelay : Nat → Nat → Nat → Nat → Nat

/-- What a precision channel held at an instant whose input no command gives: lane, channel, TIME64, in converter LSB
(log entry 159). -/
opaque Config.heldCode : Nat → Nat → Nat → Int

/-- What a servo update adds to the frequency correction to slew an offset, from the correction in force and the measured
offset, before the bounds of R47 and R57: the manual states the bounds and no servo law (log entry 42). -/
opaque Config.servoDelta : Nat → Int → Int

/-- The frequency correction itself after a servo update, in units of TIME_INC.FRAC: the same law, from the same two (log
entry 42). -/
opaque Config.servoFreq : Nat → Int → Nat

/-- What a follower adds to its frequency correction for an offset from the leader in 1/256 ns (R60; log entry 42). -/
opaque Config.followDelta : Nat → Int → Int

/-- The residence time in ns that a lane adds to the correctionField of an HSR frame it forwards: lane, source, sequence
number (R55; log entry 164). -/
opaque Config.residence : Nat → Nat → Nat → Nat

/-- Whether an engine of a lane fails the test vectors of its image in the two cycles after a mismatch: lane, cycle of the
mismatch. What the vectors find is the hardware's (R115; log entry 169). -/
opaque Config.vectorsFail : Nat → Nat → Bool

/-- Whether the host has enabled ERR_NONFATAL on the PCIe function of a lane: a bit of PCI configuration space, which no command
writes (R40; log entry 179). -/
opaque Config.errNonfatal : Nat → Bool

/-- The snapshot slot that a DRAM codeword belongs to, if any: the manual keeps the slots in the warm store and names no address
(R80; log entry 172). -/
opaque Config.slotOf : Nat → Option Nat

/-- Whether the forwarding of a one-sided record to the other lane has completed by the ring cut: cycle, ring, station
(R134; log entry 167). -/
opaque Config.forwarded : Nat → Nat → Nat → Bool

/-- The word a scaling MOVE node writes for a source word, by node and position: the manual names the scaling and states
no law (R140; log entry 47). -/
opaque Config.moveScale : Nat → Nat → BitVec 32 → BitVec 32

end Sys2Proof
end

