-- ==== Sys2Proof/Machine/RegTable.lean ====
section
/-! DEFINITION. The register table of a lane: for every block of R21 the registers of its pages, each
with its place, the access code of its bits (R6), the bits that are mirrored (R33) or profile-bound (R26),
its reset word and the bits each reset kind restores (R7). Taken from the register tables of chapters 02–19. -/

namespace Sys2Proof.Machine

/-- One register, or an array of them, of a block's pages (R4, R6, R7). Each mask has one bit per register bit. -/
structure RegRow where
  /-- first page index of the block that holds the register -/
  p0 : Nat := 0
  /-- number of consecutive pages that hold it -/
  pn : Nat := 1
  /-- offset of element 0 in its page -/
  off : Nat
  /-- number of elements in a page -/
  n : Nat := 1
  /-- distance of two elements -/
  stride : Nat := 4
  /-- RW bits -/
  rw : Nat := 0
  /-- WO bits -/
  wo : Nat := 0
  /-- W1C bits -/
  w1c : Nat := 0
  /-- W1S bits -/
  w1s : Nat := 0
  /-- RWK bits -/
  rwk : Nat := 0
  /-- bits the owning chapter marks as mirrored (R33) -/
  mir : Nat := 0
  /-- bits the owning chapter marks as profile-bound (R26) -/
  pb : Nat := 0
  /-- the word after reset -/
  reset : Nat := 0
  /-- bits that a reset of kind P restores -/
  kp : Nat := 0
  /-- bits that a reset of kind L restores -/
  kl : Nat := 0
  /-- bits that a reset of kind B restores -/
  kb : Nat := 0
  deriving DecidableEq, Repr

/-- The common page header (R24) -/
def RegTable.hdr : List RegRow := [
  -- BLK_ID (02)
  { off := 0x000 },
  -- BLK_VER (02)
  { off := 0x004 },
  -- BLK_CTRL (02)
  { off := 0x008, rw := 0x3, wo := 0x4, kp := 0xB, kl := 0xB, kb := 0x2 },
  -- BLK_STAT (02)
  { off := 0x00C, kp := 0xFFFF001F, kl := 0xFFFF001F, kb := 0xFFFF001F },
  -- EV_PEND (02)
  { off := 0x010, w1c := 0xC0FFFFFF, kp := 0xC0FFFFFF, kl := 0xC0FFFFFF, kb := 0xC0FFFFFF },
  -- EV_MASK (02)
  { off := 0x014, rw := 0xC0FFFFFF, reset := 0xC0FFFFFF, kp := 0xC0FFFFFF, kl := 0xC0FFFFFF, kb := 0xC0FFFFFF },
  -- EV_SET (02)
  { off := 0x018, w1s := 0xC0FFFFFF },
  -- EV_ROUTE (02)
  { off := 0x01C, rw := 0x103FF, reset := 0x10000, kp := 0x103FF, kl := 0x103FF, kb := 0x103FF },
  -- ERR_CODE (02)
  { off := 0x020, wo := 0x80000000, kp := 0x7F80FFFF, kl := 0x7F80FFFF, kb := 0x7F80FFFF },
  -- ERR_ADDR (02)
  { off := 0x024, kp := 0xFFFFFFFF, kl := 0xFFFFFFFF, kb := 0xFFFFFFFF },
  -- LOCK_KEY (02)
  { off := 0x028, wo := 0xFFFF } ]

/-- Registers of the SYS block -/
def RegTable.sys : List RegRow := [
  -- SYS_ROLE (04)
  { off := 0x040 },
  -- SYS_STATE (04)
  { off := 0x044, reset := 0x2, kp := 0xF037F, kl := 0xF037F },
  -- SYS_CTRL (04)
  { off := 0x048, rw := 0xFF04, rwk := 0x3, reset := 0x100, kp := 0xFF07, kl := 0x3 },
  -- SYS_RESET_CAUSE (04)
  { off := 0x04C, w1c := 0x1F, reset := 0x1, kp := 0x1F },
  -- SYS_RESET_COUNT (04)
  { off := 0x050, kp := 0xFFFFFFFF },
  -- SYS_SUPPLY (04)
  { off := 0x054 },
  -- SYS_STAGE_T01 (04)
  { off := 0x058, kp := 0xFFFFFFFF, kl := 0xFFFF0000 },
  -- SYS_STAGE_T23 (04)
  { off := 0x05C, kp := 0xFFFFFFFF, kl := 0xFFFFFFFF },
  -- SYS_WARM (04)
  { p0 := 1, off := 0x040, reset := 0x2, kp := 0xF, kl := 0xF },
  -- SYS_WARM_CYC_LO (04)
  { p0 := 1, off := 0x044, kp := 0xFFFFFFFF },
  -- SYS_WARM_CYC_HI (04)
  { p0 := 1, off := 0x048, kp := 0xFFFFFFFF } ]

/-- Registers of the TIME block -/
def RegTable.time : List RegRow := [
  -- TIME_CTRL (03)
  { off := 0x040, rw := 0xFFFF, mir := 0xFFFF, kp := 0xFFFF },
  -- TIME_STAT (03)
  { off := 0x044, kp := 0xF3F },
  -- TIME_NOW_LO (03)
  { off := 0x048, kp := 0xFFFFFFFF },
  -- TIME_NOW_HI (03)
  { off := 0x04C, kp := 0xFFFFFFFF },
  -- TIME_INC (03)
  { off := 0x050, reset := 0x80000000, kp := 0xFFFFFFFF },
  -- TIME_OFFSET (03)
  { off := 0x054, kp := 0xFFFFFFFF },
  -- TIME_ALIGN (03)
  { off := 0x058, kp := 0xFFFF },
  -- TIME_SET_LO (03)
  { off := 0x05C, rwk := 0xFFFFFFFF, mir := 0xFFFFFFFF, kp := 0xFFFFFFFF },
  -- TIME_SET_HI (03)
  { off := 0x060, rwk := 0xFFFFFFFF, mir := 0xFFFFFFFF, kp := 0xFFFFFFFF },
  -- TIME_STEP_LIMIT (03)
  { off := 0x064, rw := 0xFFFFF, mir := 0xFFFFF, reset := 0x3E8, kp := 0xFFFFF },
  -- TIME_UTC (03)
  { off := 0x068, kp := 0xE000FFFF },
  -- TIME_PPSIN_LO (03)
  { p0 := 1, off := 0x040, kp := 0xFFFFFFFF },
  -- TIME_PPSIN_HI (03)
  { p0 := 1, off := 0x044, kp := 0xFFFFFFFF },
  -- TIME_SYNC_CFG (03)
  { p0 := 1, off := 0x048, rw := 0x80FFFFFF, mir := 0x80FFFFFF, reset := 0x10001, kp := 0x80FFFFFF },
  -- TT_FIRED (03)
  { p0 := 1, off := 0x04C, w1c := 0xFFFFFFFF, kp := 0xFFFFFFFF },
  -- TT_CTRL (03)
  { p0 := 1, off := 0x100, n := 32, stride := 0x10, rw := 0x13, w1c := 0x100, mir := 0x113, kp := 0xFFFF0113 },
  -- TT_TGT_LO (03)
  { p0 := 1, off := 0x104, n := 32, stride := 0x10, rw := 0xFFFFFFFF, mir := 0xFFFFFFFF, kp := 0xFFFFFFFF },
  -- TT_TGT_HI (03)
  { p0 := 1, off := 0x108, n := 32, stride := 0x10, rw := 0xFFFFFFFF, mir := 0xFFFFFFFF, kp := 0xFFFFFFFF },
  -- TT_PERIOD (03)
  { p0 := 1, off := 0x10C, n := 32, stride := 0x10, rw := 0xFFFFFFFF, mir := 0xFFFFFFFF, kp := 0xFFFFFFFF } ]

/-- Registers of the LEDGER block -/
def RegTable.ledger : List RegRow := [
  -- LEDGER_STAT (04)
  { off := 0x040, kp := 0xFF, kl := 0xFF },
  -- LEDGER_BOOK (04)
  { off := 0x044, kp := 0xFFFF, kl := 0xFFFF },
  -- LEDGER_MEAS (04)
  { off := 0x048 },
  -- LEDGER_CLASS (04)
  { off := 0x100, n := 8, stride := 0x4, kp := 0xFFFF00FF, kl := 0xFFFF00FF },
  -- LEDGER_WAIT (04)
  { off := 0x140, n := 8, stride := 0x4, rw := 0xFFFF, kp := 0xFFFF } ]

/-- Registers of the PAIR block, part 1 -/
def RegTable.pair1 : List RegRow := [
  -- PAIR_CTRL (05)
  { off := 0x040, rw := 0x18, rwk := 0x27, mir := 0x3, reset := 0x8, kp := 0x3F, kl := 0x27 },
  -- PAIR_STAT (05)
  { off := 0x044, kp := 0xAEF, kl := 0x2EF },
  -- PAIR_CYC_LO (05)
  { off := 0x048, kp := 0xFFFFFFFF, kl := 0xFFFFFFFF },
  -- PAIR_CYC_HI (05)
  { off := 0x04C, kp := 0xFFFFFFFF, kl := 0xFFFFFFFF },
  -- PAIR_PRIM (05)
  { off := 0x050, kp := 0xFFFF000F },
  -- PAIR_COMPAT (05)
  { off := 0x054, kp := 0xFFFF0000, kl := 0xFFFF0000 },
  -- PAIR_DIG_CYC_LO (05)
  { p0 := 1, off := 0x040, kp := 0xFFFFFFFF, kl := 0xFFFFFFFF },
  -- PAIR_DIG_CYC_HI (05)
  { p0 := 1, off := 0x044, kp := 0xFFFFFFFF, kl := 0xFFFFFFFF },
  -- PAIR_DIG_OWN_LO (05)
  { p0 := 1, off := 0x048, kp := 0xFFFFFFFF, kl := 0xFFFFFFFF },
  -- PAIR_DIG_OWN_HI (05)
  { p0 := 1, off := 0x04C, kp := 0xFFFFFFFF, kl := 0xFFFFFFFF },
  -- PAIR_DIG_OTHER_LO (05)
  { p0 := 1, off := 0x050, kp := 0xFFFFFFFF, kl := 0xFFFFFFFF },
  -- PAIR_DIG_OTHER_HI (05)
  { p0 := 1, off := 0x054, kp := 0xFFFFFFFF, kl := 0xFFFFFFFF },
  -- PAIR_DIV (05)
  { p0 := 1, off := 0x058, w1c := 0x8, kp := 0xFFFF1F0F },
  -- PAIR_DIV_CYC_LO (05)
  { p0 := 1, off := 0x05C, kp := 0xFFFFFFFF },
  -- PAIR_DIV_CYC_HI (05)
  { p0 := 1, off := 0x060, kp := 0xFFFFFFFF },
  -- PAIR_MIR_PEAK (05)
  { p0 := 2, off := 0x040, w1c := 0xFFFFFFFF, kp := 0xFFFFFFFF, kl := 0xFFFFFFFF },
  -- PAIR_MIR_LIMIT (05)
  { p0 := 2, off := 0x044, kp := 0xFFFFFFFF, kl := 0xFFFFFFFF },
  -- PAIR_MIR_COUNT (05)
  { p0 := 2, off := 0x048, kp := 0xFFFFFFFF, kl := 0xFFFFFFFF },
  -- PAIR_MIR_DUP (05)
  { p0 := 2, off := 0x04C, kp := 0xFFFFFFFF, kl := 0xFFFFFFFF },
  -- PAIR_MIR_UNCONF (05)
  { p0 := 2, off := 0x050, kp := 0xFFFFFFFF, kl := 0xFFFFFFFF },
  -- PAIR_DIFF (05)
  { p0 := 2, off := 0x054, kp := 0xFFFFFFFF, kl := 0xFFFFFFFF },
  -- PAIR_RJ_CTRL (05)
  { p0 := 3, off := 0x040, rw := 0xFFFF00, wo := 0x3, reset := 0x3C00, kp := 0xFFFF00 },
  -- PAIR_RJ_STAT (05)
  { p0 := 3, off := 0x044, kp := 0x1FFFF0F, kl := 0x1FFFF0F },
  -- PAIR_RJ_SNAP_LO (05)
  { p0 := 3, off := 0x048, kp := 0xFFFFFFFF, kl := 0xFFFFFFFF } ]

/-- Registers of the PAIR block, part 2 -/
def RegTable.pair2 : List RegRow := [
  -- PAIR_RJ_SNAP_HI (05)
  { p0 := 3, off := 0x04C, kp := 0xFFFFFFFF, kl := 0xFFFFFFFF },
  -- PAIR_RJ_BACKLOG (05)
  { p0 := 3, off := 0x050, kp := 0xFFFFFFFF, kl := 0xFFFFFFFF },
  -- PAIR_RJ_KIB (05)
  { p0 := 3, off := 0x054, kp := 0xFFFFFFFF, kl := 0xFFFFFFFF } ]

/-- Registers of the PAIR block. -/
def RegTable.pair : List RegRow := RegTable.pair1 ++ RegTable.pair2

/-- Registers of the SEAT block -/
def RegTable.seat : List RegRow := [
  -- SEAT_STAT (02)
  { pn := 8, off := 0x040, kp := 0x3F0018, kl := 0x3F0018 },
  -- SEAT_VIOL_ADDR (02)
  { pn := 8, off := 0x044, kp := 0xFFFFFFFF, kl := 0xFFFFFFFF },
  -- SEAT_VIOL_INFO (02)
  { pn := 8, off := 0x048, w1c := 0x80000000, kp := 0xCFFF0FF0, kl := 0xCFFF0FF0 },
  -- SEAT_VIOL_COUNT (02)
  { pn := 8, off := 0x04C, kp := 0xFFFFFFFF, kl := 0xFFFFFFFF },
  -- SEAT_CLAIM (02)
  { pn := 8, off := 0x050, wo := 0x87FFFFFF, mir := 0x87FFFFFF },
  -- SEAT_CLAIM_STAT (02)
  { pn := 8, off := 0x054, kp := 0xC7FFFFFF, kl := 0xC7FFFFFF },
  -- SEAT_TOKEN_QUERY (02)
  { pn := 8, off := 0x058, rw := 0xFFFFFF, kp := 0x87FFFFFF, kl := 0x87FFFFFF },
  -- SEAT_RIGHTS_PAGE (02)
  { pn := 8, off := 0x400, n := 256, stride := 0x4, rwk := 0xFFFFFFFF, mir := 0xFFFFFFFF, kp := 0xFFFFFFFF },
  -- SEAT_RIGHTS_TABLE (02)
  { pn := 8, off := 0x800, n := 15, stride := 0x4, rwk := 0xFFFFFFFF, mir := 0xFFFFFFFF, kp := 0xFFFFFFFF },
  -- SEAT_RIGHTS_DRAM (02)
  { pn := 8, off := 0x840, n := 8, stride := 0x4, rwk := 0xFFFFFFFF, mir := 0xFFFFFFFF, kp := 0xFFFFFFFF } ]

/-- Registers of the CYCLE block, part 1 -/
def RegTable.cycle1 : List RegRow := [
  -- CYCLE_STAT (06)
  { off := 0x040, pb := 0x300, reset := 0x4000, kp := 0x7301, kl := 0x7301 },
  -- CYCLE_PERIOD (06)
  { off := 0x044, pb := 0xFFFFF, kp := 0xFFFFF, kl := 0xFFFFF },
  -- CYCLE_NUM_LO (06)
  { off := 0x048, kp := 0xFFFFFFFF, kl := 0xFFFFFFFF },
  -- CYCLE_NUM_HI (06)
  { off := 0x04C, kp := 0xFFFFFFFF, kl := 0xFFFFFFFF },
  -- CYCLE_ORG_NUM_LO (06)
  { off := 0x050, kp := 0xFFFFFFFF },
  -- CYCLE_ORG_NUM_HI (06)
  { off := 0x054, kp := 0xFFFFFFFF },
  -- CYCLE_ORG_T_LO (06)
  { off := 0x058, kp := 0xFFFFFFFF },
  -- CYCLE_ORG_T_HI (06)
  { off := 0x05C, kp := 0xFFFFFFFF },
  -- CYCLE_PHASE_CFG (06)
  { off := 0x060, rw := 0xFFFFF, mir := 0xFFFFF, kp := 0xFFFFF },
  -- CYCLE_TRING (06)
  { off := 0x064, pb := 0xFFFFF, kp := 0xFFFFF, kl := 0xFFFFF },
  -- CYCLE_MERGE (06)
  { off := 0x068, pb := 0xFFFF, kp := 0xFFFF, kl := 0xFFFF },
  -- CYCLE_WINDOW (06)
  { off := 0x06C, pb := 0xFFFFF, kp := 0xFFFFF, kl := 0xFFFFF },
  -- CYCLE_LOAD (06)
  { off := 0x070, pb := 0xFFFFFFFF, kp := 0xFFFFFFFF, kl := 0xFFFFFFFF },
  -- CYCLE_DONE_LAST (06)
  { p0 := 1, off := 0x040, kp := 0xFFFFFF, kl := 0xFFFFFF },
  -- CYCLE_DONE_MAX (06)
  { p0 := 1, off := 0x044, w1c := 0xFFFFFF, kp := 0xFFFFFF, kl := 0xFFFFFF },
  -- CYCLE_RING_LAST (06)
  { p0 := 1, off := 0x048, kp := 0xFFFFF, kl := 0xFFFFF },
  -- CYCLE_RING_MAX (06)
  { p0 := 1, off := 0x04C, w1c := 0xFFFFF, kp := 0xFFFFF, kl := 0xFFFFF },
  -- CYCLE_OVR_COUNT (06)
  { p0 := 1, off := 0x050, kp := 0xFFFFFFFF, kl := 0xFFFF },
  -- CYCLE_OVR_NODE (06)
  { p0 := 1, off := 0x054, w1c := 0x80000000, kp := 0xFFF0FFFF },
  -- CYCLE_OVR_CYC_LO (06)
  { p0 := 1, off := 0x058, kp := 0xFFFFFFFF },
  -- CYCLE_OVR_CYC_HI (06)
  { p0 := 1, off := 0x05C, kp := 0xFFFFFFFF },
  -- CYCLE_MARGIN_CFG (06)
  { p0 := 1, off := 0x060, rw := 0xFFFF, reset := 0x384, kp := 0xFFFF },
  -- CYCLE_TRC_CTRL (06)
  { p0 := 2, off := 0x040, rw := 0xFFFF00C3, reset := 0x10000, kp := 0xFFFF00C3, kl := 0xFFFF00C3 },
  -- CYCLE_TRC_BASE_LO (06)
  { p0 := 2, off := 0x044, rw := 0xFFFFF000, kp := 0xFFFFF000, kl := 0xFFFFF000 } ]

/-- Registers of the CYCLE block, part 2 -/
def RegTable.cycle2 : List RegRow := [
  -- CYCLE_TRC_BASE_HI (06)
  { p0 := 2, off := 0x048, rw := 0xFF, kp := 0xFF, kl := 0xFF },
  -- CYCLE_TRC_SIZE (06)
  { p0 := 2, off := 0x04C, rw := 0x7FFFF, kp := 0x7FFFF, kl := 0x7FFFF },
  -- CYCLE_TRC_START_LO (06)
  { p0 := 2, off := 0x050, rw := 0xFFFFFFFF, kp := 0xFFFFFFFF, kl := 0xFFFFFFFF },
  -- CYCLE_TRC_START_HI (06)
  { p0 := 2, off := 0x054, rw := 0xFFFFFFFF, kp := 0xFFFFFFFF, kl := 0xFFFFFFFF },
  -- CYCLE_TRC_COUNT (06)
  { p0 := 2, off := 0x058, rw := 0xFFFFFFFF, kp := 0xFFFFFFFF, kl := 0xFFFFFFFF },
  -- CYCLE_TRC_WPTR (06)
  { p0 := 2, off := 0x05C, kp := 0xFFFFFFFF, kl := 0xFFFFFFFF },
  -- CYCLE_TRC_STAT (06)
  { p0 := 2, off := 0x060, kp := 0xFFFF0001, kl := 0xFFFF0001 },
  -- CYCLE_GRAPH_SEAL_LO (06)
  { p0 := 3, off := 0x040, pb := 0xFFFFFFFF, kp := 0xFFFFFFFF, kl := 0xFFFFFFFF },
  -- CYCLE_GRAPH_SEAL_HI (06)
  { p0 := 3, off := 0x044, pb := 0xFFFFFFFF, kp := 0xFFFFFFFF, kl := 0xFFFFFFFF },
  -- CYCLE_GRAPH_SIZE (06)
  { p0 := 3, off := 0x048, pb := 0xFFFFFFF, kp := 0xFFFFFFF, kl := 0xFFFFFFF },
  -- CYCLE_NODE_WIN (06)
  { p0 := 3, off := 0x04C, reset := 0x1100000 } ]

/-- Registers of the CYCLE block. -/
def RegTable.cycle : List RegRow := RegTable.cycle1 ++ RegTable.cycle2

/-- Registers of the LOOP block -/
def RegTable.loop : List RegRow := [
  -- LOOP_EXEC_COUNT (07)
  { pn := 64, off := 0x040, kp := 0xFFFFFFFF, kl := 0xFFFFFFFF },
  -- LOOP_FAULT_COUNT (07)
  { pn := 64, off := 0x044, kp := 0xFFFFFFFF, kl := 0xFFFFFFFF },
  -- LOOP_REGION_COUNT (07)
  { pn := 64, off := 0x048, kp := 0xFFFFFFFF, kl := 0xFFFFFFFF },
  -- LOOP_SEL_COUNT (07)
  { pn := 64, off := 0x04C, kp := 0xFFFFFFFF, kl := 0xFFFFFFFF },
  -- LOOP_FLT_LATCH (07)
  { pn := 64, off := 0x050, w1c := 0x80000000, kp := 0xF0000FFF, kl := 0xF0000FFF },
  -- LOOP_FLT_CYC_LO (07)
  { pn := 64, off := 0x054, kp := 0xFFFFFFFF, kl := 0xFFFFFFFF },
  -- LOOP_FLT_CYC_HI (07)
  { pn := 64, off := 0x058, kp := 0xFFFFFFFF, kl := 0xFFFFFFFF },
  -- LOOP_WIN (07)
  { pn := 64, off := 0x060, n := 4, stride := 0x4 } ]

/-- Registers of the LOGIC block, part 1 -/
def RegTable.logic1 : List RegRow := [
  -- LOGIC_MEM (08)
  { pn := 8, off := 0x040, kp := 0x3FF03FF, kl := 0x3FF03FF },
  -- LOGIC_ACT_COUNT (08)
  { pn := 8, off := 0x044, kp := 0xFFFFFFFF, kl := 0xFFFFFFFF },
  -- LOGIC_OVR_COUNT (08)
  { pn := 8, off := 0x048, kp := 0xFFFFFFFF, kl := 0xFFFFFFFF },
  -- LOGIC_OVR_LATCH (08)
  { pn := 8, off := 0x04C, w1c := 0x80000000, kp := 0xF000000F, kl := 0xF000000F },
  -- LOGIC_OVR_CYC_LO (08)
  { pn := 8, off := 0x050, kp := 0xFFFFFFFF, kl := 0xFFFFFFFF },
  -- LOGIC_OVR_CYC_HI (08)
  { pn := 8, off := 0x054, kp := 0xFFFFFFFF, kl := 0xFFFFFFFF },
  -- LOGIC_TRAP_LATCH (08)
  { pn := 8, off := 0x058, w1c := 0x80000000, kp := 0xF000FF0F, kl := 0xF000FF0F },
  -- LOGIC_TRAP_CYC_LO (08)
  { pn := 8, off := 0x05C, kp := 0xFFFFFFFF, kl := 0xFFFFFFFF },
  -- LOGIC_TRAP_CYC_HI (08)
  { pn := 8, off := 0x060, kp := 0xFFFFFFFF, kl := 0xFFFFFFFF },
  -- LOGIC_PCTL (08)
  { pn := 8, off := 0x080, n := 16, stride := 0x8, rw := 0xFF000000, wo := 0x7, mir := 0xFF000007, kp := 0xFF000000 },
  -- LOGIC_PSTAT (08)
  { pn := 8, off := 0x084, n := 16, stride := 0x8, kp := 0xFFFF00FB, kl := 0xFFFF00FB },
  -- LOGIC_EXCH_CTRL (08)
  { off := 0x100, rwk := 0x7, mir := 0x5, kp := 0x7, kl := 0x7 },
  -- LOGIC_EXCH_STAT (08)
  { off := 0x104, kp := 0xF0F0F, kl := 0xF0F0F },
  -- LOGIC_EXCH_SEAL_LO (08)
  { off := 0x108, kp := 0xFFFFFFFF, kl := 0xFFFFFFFF },
  -- LOGIC_EXCH_SEAL_HI (08)
  { off := 0x10C, kp := 0xFFFFFFFF, kl := 0xFFFFFFFF },
  -- LOGIC_EXCH_EFF_LO (08)
  { off := 0x110, kp := 0xFFFFFFFF, kl := 0xFFFFFFFF },
  -- LOGIC_EXCH_EFF_HI (08)
  { off := 0x114, kp := 0xFFFFFFFF, kl := 0xFFFFFFFF },
  -- LOGIC_EXCH_MAP_A (08)
  { off := 0x118, kp := 0xFFFFFFFF, kl := 0xFFFFFFFF },
  -- LOGIC_EXCH_MAP_B (08)
  { off := 0x11C, kp := 0xFFFFFFFF, kl := 0xFFFFFFFF },
  -- LOGIC_TRIAL_CTRL (08)
  { off := 0x140, rw := 0x7F, wo := 0xC000, kp := 0x7F, kl := 0x7F },
  -- LOGIC_TRIAL_STAT (08)
  { off := 0x144, kp := 0x3, kl := 0x3 },
  -- LOGIC_TRIAL_ACT (08)
  { off := 0x148, kp := 0xFFFFFFFF, kl := 0xFFFFFFFF },
  -- LOGIC_TRIAL_DIFF (08)
  { off := 0x14C, kp := 0xFFFFFFFF, kl := 0xFFFFFFFF },
  -- LOGIC_TRIAL_FIRST (08)
  { off := 0x150, w1c := 0x80000000, kp := 0x8000FFFF, kl := 0x8000FFFF } ]

/-- Registers of the LOGIC block, part 2 -/
def RegTable.logic2 : List RegRow := [
  -- LOGIC_TRIAL_FIRST_CYC_LO (08)
  { off := 0x154, kp := 0xFFFFFFFF, kl := 0xFFFFFFFF },
  -- LOGIC_TRIAL_FIRST_CYC_HI (08)
  { off := 0x158, kp := 0xFFFFFFFF, kl := 0xFFFFFFFF } ]

/-- Registers of the LOGIC block. -/
def RegTable.logic : List RegRow := RegTable.logic1 ++ RegTable.logic2

/-- Registers of the RECIPE block -/
def RegTable.recipe : List RegRow := [
  -- RECIPE_SEQ_STAT (09)
  { off := 0x040, kp := 0x3F3F0000, kl := 0x3F3F0000 },
  -- RECIPE_WIN (09)
  { off := 0x044, n := 4, stride := 0x4 },
  -- RECIPE_CH_CMD (09)
  { p0 := 1, pn := 32, off := 0x040, wo := 0xFFF0007, mir := 0xFFF0007 },
  -- RECIPE_CH_STAT (09)
  { p0 := 1, pn := 32, off := 0x044, reset := 0xFFFF0000, kp := 0xFFFFF37F, kl := 0xFFFFF37F },
  -- RECIPE_CH_CTX (09)
  { p0 := 1, pn := 32, off := 0x048, n := 4, stride := 0x4, rw := 0xFFFFFFFF, mir := 0xFFFFFFFF, kp := 0xFFFFFFFF, kl := 0xFFFFFFFF },
  -- RECIPE_CH_ACYC_LO (09)
  { p0 := 1, pn := 32, off := 0x058, kp := 0xFFFFFFFF, kl := 0xFFFFFFFF },
  -- RECIPE_CH_ACYC_HI (09)
  { p0 := 1, pn := 32, off := 0x05C, kp := 0xFFFFFFFF, kl := 0xFFFFFFFF },
  -- RECIPE_CH_TA_LO (09)
  { p0 := 1, pn := 32, off := 0x060, kp := 0xFFFFFFFF, kl := 0xFFFFFFFF },
  -- RECIPE_CH_TA_HI (09)
  { p0 := 1, pn := 32, off := 0x064, kp := 0xFFFFFFFF, kl := 0xFFFFFFFF },
  -- RECIPE_CH_REM_LO (09)
  { p0 := 1, pn := 32, off := 0x068, kp := 0xFFFFFFFF, kl := 0xFFFFFFFF },
  -- RECIPE_CH_REM_HI (09)
  { p0 := 1, pn := 32, off := 0x06C, kp := 0xFFFF, kl := 0xFFFF },
  -- RECIPE_CH_EDGES (09)
  { p0 := 1, pn := 32, off := 0x070, kp := 0xFFFFFFFF, kl := 0xFFFFFFFF },
  -- RECIPE_CH_COUNT (09)
  { p0 := 1, pn := 32, off := 0x074, kp := 0xFFFFFFFF, kl := 0xFFFFFFFF } ]

/-- Registers of the RING block -/
def RegTable.ring : List RegRow := [
  -- RING_CTRL (10)
  { pn := 24, off := 0x040, rw := 0x1FF00, mir := 0x1FF00, reset := 0x10800, kp := 0x1FF00 },
  -- RING_MISS (10)
  { pn := 24, off := 0x044, rw := 0x7, mir := 0x7, reset := 0x2, kp := 0x7 },
  -- RING_CFG (10)
  { pn := 24, off := 0x048, pb := 0x80000000, kp := 0xFFFFFFFF, kl := 0xFFFFFFFF },
  -- RING_ETYPE (10)
  { pn := 24, off := 0x04C, kp := 0xFFFF, kl := 0xFFFF },
  -- RING_CFG_ID (10)
  { pn := 24, off := 0x050, kp := 0xFFFFFFFF, kl := 0xFFFFFFFF },
  -- RING_STAT (10)
  { pn := 24, off := 0x054, reset := 0xFFFF0000, kp := 0xFFFFFF0F, kl := 0xFFFFFF0F },
  -- RING_TRING (10)
  { pn := 24, off := 0x058, kp := 0xFFFFF, kl := 0xFFFFF },
  -- RING_LOOP (10)
  { pn := 24, off := 0x05C, kp := 0xFFFFF, kl := 0xFFFFF },
  -- RING_RET_LAST (10)
  { pn := 24, off := 0x060, kp := 0xFFFFF, kl := 0xFFFFF },
  -- RING_RET_MAX (10)
  { pn := 24, off := 0x064, w1c := 0xFFFFF, kp := 0xFFFFF, kl := 0xFFFFF },
  -- RING_ERR_COUNT (10)
  { pn := 24, off := 0x068, kp := 0xFFFFFFFF, kl := 0xFFFFFFFF },
  -- RING_REC_COUNT (10)
  { pn := 24, off := 0x06C, kp := 0xFFFFFFFF, kl := 0xFFFFFFFF },
  -- RING_FOLDS (10)
  { pn := 24, off := 0x070, kp := 0xFFFFFFFF, kl := 0xFFFFFFFF },
  -- RING_ABSENT_LO (10)
  { pn := 24, off := 0x074 },
  -- RING_ABSENT_HI (10)
  { pn := 24, off := 0x078 },
  -- RING_ALERT_LO (10)
  { pn := 24, off := 0x07C, kp := 0xFFFFFFFF, kl := 0xFFFFFFFF },
  -- RING_ALERT_HI (10)
  { pn := 24, off := 0x080, kp := 0xFFFFFFFF, kl := 0xFFFFFFFF } ]

/-- Registers of the STA block -/
def RegTable.sta : List RegRow := [
  -- RING_STA_ID (10)
  { pn := 384, off := 0x100, n := 4, stride := 0x100, kp := 0xFFFFFFFF, kl := 0xFFFFFFFF },
  -- RING_STA_LAYOUT (10)
  { pn := 384, off := 0x104, n := 4, stride := 0x100, kp := 0x1FFF1FFF, kl := 0x1FFF1FFF },
  -- RING_STA_IO (10)
  { pn := 384, off := 0x108, n := 4, stride := 0x100, kp := 0x1FFF1FFF, kl := 0x1FFF1FFF },
  -- RING_STA_TIMING (10)
  { pn := 384, off := 0x10C, n := 4, stride := 0x100, kp := 0xFFFFFFFF, kl := 0xFFFFFFFF },
  -- RING_STA_STAT (10)
  { pn := 384, off := 0x110, n := 4, stride := 0x100, kp := 0xF030000, kl := 0xF030000 },
  -- RING_STA_DISC (10)
  { pn := 384, off := 0x114, n := 4, stride := 0x100, kp := 0xFFFFFFFF, kl := 0xFFFFFFFF },
  -- RING_STA_ABSENCES (10)
  { pn := 384, off := 0x118, n := 4, stride := 0x100, kp := 0xFFFFFFFF, kl := 0xFFFFFFFF },
  -- RING_STA_CMD (10)
  { pn := 384, off := 0x11C, n := 4, stride := 0x100, wo := 0x3, mir := 0x3 },
  -- RING_STA_ABS_CYC_LO (10)
  { pn := 384, off := 0x120, n := 4, stride := 0x100 },
  -- RING_STA_ABS_CYC_HI (10)
  { pn := 384, off := 0x124, n := 4, stride := 0x100 } ]

/-- Registers of the AIN block -/
def RegTable.ain : List RegRow := [
  -- AIN_CTRL (11)
  { off := 0x040, rw := 0xFF0001, wo := 0xBF00, mir := 0xFFBF01, reset := 0x100000, kp := 0xFF0001, kl := 0x1 },
  -- AIN_STAT (11)
  { off := 0x044, w1c := 0x4, kp := 0xFFFF0006, kl := 0xFFFF0006 },
  -- AIN_OW_CFG (11)
  { off := 0x048, rw := 0xFFFFFFFF, mir := 0xFFFFFFFF, reset := 0x14324E20, kp := 0xFFFFFFFF },
  -- AIN_OW_LAST (11)
  { off := 0x04C, w1c := 0x80000000, kp := 0xE000003F, kl := 0xE000003F },
  -- AIN_FAULT_LO (11)
  { off := 0x050 },
  -- AIN_FAULT_HI (11)
  { off := 0x054 },
  -- AIN_BAND_OUT_LO (11)
  { off := 0x058, w1c := 0xFFFFFFFF, kp := 0xFFFFFFFF, kl := 0xFFFFFFFF },
  -- AIN_BAND_OUT_HI (11)
  { off := 0x05C, w1c := 0xFFFFFFFF, kp := 0xFFFFFFFF, kl := 0xFFFFFFFF },
  -- AIN_DIS_COUNT (11)
  { off := 0x060, kp := 0xFFFFFFFF, kl := 0xFFFFFFFF },
  -- FI_CTRL (11)
  { off := 0x064, rw := 0xFF00, kp := 0xFF00FF03, kl := 0xFF000003 },
  -- AIN_CH_CFG (11)
  { p0 := 1, off := 0x100, n := 64, stride := 0x4, rw := 0x3FFCFF00, mir := 0x3FFCFF00, pb := 0xC0000000, reset := 0x4000, kp := 0xFFFCFF00, kl := 0xC0000000 },
  -- AIN_BAND_LO (11)
  { p0 := 1, off := 0x200, n := 64, stride := 0x4, rw := 0xFFFFFFFF, mir := 0xFFFFFFFF, kp := 0xFFFFFFFF },
  -- AIN_BAND_HI (11)
  { p0 := 1, off := 0x300, n := 64, stride := 0x4, rw := 0xFFFFFF, mir := 0xFFFFFF, kp := 0xFFFFFF },
  -- AIN_VAL (11)
  { p0 := 2, off := 0x100, n := 64, stride := 0x4, kp := 0xFFFFFFFF, kl := 0xFFFFFFFF },
  -- AIN_RAW (11)
  { p0 := 2, off := 0x200, n := 64, stride := 0x4, kp := 0xFFFFFFFF, kl := 0xFFFFFFFF },
  -- AOUT_CFG (11)
  { p0 := 3, off := 0x100, n := 32, stride := 0x4, pb := 0xC0000000, kp := 0xC000FFFF, kl := 0xC000FFFF },
  -- AOUT_STAT (11)
  { p0 := 3, off := 0x200, n := 32, stride := 0x4, w1c := 0x80000000, kp := 0xC000FFFF, kl := 0xC000FFFF } ]

/-- Registers of the AXIS block -/
def RegTable.axis : List RegRow := [
  -- AXIS_SUMMARY (12)
  { off := 0x040, kp := 0xFFFF00FF, kl := 0xFFFF00FF },
  -- AXIS_WIN (12)
  { off := 0x044 },
  -- AXIS_CMD (12)
  { p0 := 1, pn := 16, off := 0x080, wo := 0xF, mir := 0xF },
  -- AXIS_CMD (12)
  { p0 := 17, pn := 15, off := 0x080, n := 16, stride := 0x80, wo := 0xF, mir := 0xF },
  -- AXIS_TGT_LO (12)
  { p0 := 1, pn := 16, off := 0x084, rw := 0xFFFFFFFF, mir := 0xFFFFFFFF, kp := 0xFFFFFFFF, kl := 0xFFFFFFFF },
  -- AXIS_TGT_LO (12)
  { p0 := 17, pn := 15, off := 0x084, n := 16, stride := 0x80, rw := 0xFFFFFFFF, mir := 0xFFFFFFFF, kp := 0xFFFFFFFF, kl := 0xFFFFFFFF },
  -- AXIS_TGT_HI (12)
  { p0 := 1, pn := 16, off := 0x088, rw := 0xFFFFFFFF, mir := 0xFFFFFFFF, kp := 0xFFFFFFFF, kl := 0xFFFFFFFF },
  -- AXIS_TGT_HI (12)
  { p0 := 17, pn := 15, off := 0x088, n := 16, stride := 0x80, rw := 0xFFFFFFFF, mir := 0xFFFFFFFF, kp := 0xFFFFFFFF, kl := 0xFFFFFFFF },
  -- AXIS_STAT (12)
  { p0 := 1, pn := 16, off := 0x08C, kp := 0xFDCF, kl := 0xFDCF },
  -- AXIS_STAT (12)
  { p0 := 17, pn := 15, off := 0x08C, n := 16, stride := 0x80, kp := 0xFDCF, kl := 0xFDCF },
  -- AXIS_POS_LO (12)
  { p0 := 1, pn := 16, off := 0x090, kp := 0xFFFFFFFF, kl := 0xFFFFFFFF },
  -- AXIS_POS_LO (12)
  { p0 := 17, pn := 15, off := 0x090, n := 16, stride := 0x80, kp := 0xFFFFFFFF, kl := 0xFFFFFFFF },
  -- AXIS_POS_HI (12)
  { p0 := 1, pn := 16, off := 0x094, kp := 0xFFFFFFFF, kl := 0xFFFFFFFF },
  -- AXIS_POS_HI (12)
  { p0 := 17, pn := 15, off := 0x094, n := 16, stride := 0x80, kp := 0xFFFFFFFF, kl := 0xFFFFFFFF },
  -- AXIS_FAULT (12)
  { p0 := 1, pn := 16, off := 0x098, kp := 0x800000FF, kl := 0x800000FF },
  -- AXIS_FAULT (12)
  { p0 := 17, pn := 15, off := 0x098, n := 16, stride := 0x80, kp := 0x800000FF, kl := 0x800000FF },
  -- AXIS_LOAD (12)
  { p0 := 1, pn := 16, off := 0x09C, kp := 0xFFFFFFFF, kl := 0xFFFFFFFF },
  -- AXIS_LOAD (12)
  { p0 := 17, pn := 15, off := 0x09C, n := 16, stride := 0x80, kp := 0xFFFFFFFF, kl := 0xFFFFFFFF },
  -- AXIS_HW_CFG (12)
  { p0 := 1, pn := 16, off := 0x400, kp := 0xFFFFFFFF, kl := 0xFFFFFFFF },
  -- AXIS_DUTY_DIFF (12)
  { p0 := 1, pn := 16, off := 0x404, kp := 0xFFFFFFFF, kl := 0xFFFFFFFF } ]

/-- Registers of the PBUS block -/
def RegTable.pbus : List RegRow := [
  -- PBUS_CTRL (13)
  { pn := 12, off := 0x040, rw := 0xFFFF07, wo := 0x8, mir := 0xFFFF0F, reset := 0x600304, kp := 0xFFFF07 },
  -- PBUS_STAT (13)
  { pn := 12, off := 0x044, kp := 0xFFFF00CF, kl := 0xFFFF00CF },
  -- PBUS_NOM (13)
  { pn := 12, off := 0x048, pb := 0xFFFFFFFF, kp := 0xFFFFFFFF, kl := 0xFFFFFFFF },
  -- PBUS_DATA (13)
  { pn := 12, off := 0x04C, pb := 0xFFFFFFFF, kp := 0xFFFFFFFF, kl := 0xFFFFFFFF },
  -- PBUS_OBJ_CMD (13)
  { pn := 12, off := 0x050, wo := 0x37F, mir := 0x37F },
  -- PBUS_COUNT_TX (13)
  { pn := 12, off := 0x054, kp := 0xFFFFFFFF, kl := 0xFFFFFFFF },
  -- PBUS_COUNT_RX (13)
  { pn := 12, off := 0x058, kp := 0xFFFFFFFF, kl := 0xFFFFFFFF },
  -- PBUS_ERR (13)
  { pn := 12, off := 0x05C, kp := 0xFFFFFFFF, kl := 0xFFFFFFFF },
  -- PBUS_WIN (13)
  { pn := 12, off := 0x060 } ]

/-- Registers of the SAFE block, part 1 -/
def RegTable.safe1 : List RegRow := [
  -- SAFE_STAT (14)
  { off := 0x040, kp := 0xFFFF000F },
  -- SAFE_VER (14)
  { off := 0x044, kp := 0xFFFF },
  -- SAFE_MATRIX_ID (14)
  { off := 0x048, kp := 0xFFFFFFFF },
  -- SAFE_SEAL_X (14)
  { off := 0x04C, kp := 0xFFFFFFFF },
  -- SAFE_SEAL_Y (14)
  { off := 0x050, kp := 0xFFFFFFFF },
  -- SAFE_BASE (14)
  { off := 0x054 },
  -- SAFE_FAULT (14)
  { off := 0x058, w1c := 0x80000000, kp := 0x80FFFFFF },
  -- SAFE_TRIP_COUNT (14)
  { off := 0x05C, kp := 0xFFFFFFFF },
  -- SAFE_TEST_CFG (14)
  { off := 0x060, kp := 0xFFF },
  -- SAFE_DI (14)
  { p0 := 1, off := 0x040, n := 4, stride := 0x4, kp := 0xFFFFFFFF },
  -- SAFE_SO_CMD_LO (14)
  { p0 := 1, off := 0x050, kp := 0xFFFFFFFF },
  -- SAFE_SO_CMD_HI (14)
  { p0 := 1, off := 0x054, kp := 0xFFFFFFFF },
  -- SAFE_SO_OUT_LO (14)
  { p0 := 1, off := 0x058 },
  -- SAFE_SO_OUT_HI (14)
  { p0 := 1, off := 0x05C },
  -- SAFE_TO (14)
  { p0 := 1, off := 0x060, kp := 0xFFFF },
  -- SAFE_PAIR_LO (14)
  { p0 := 1, off := 0x064, kp := 0xFFFFFFFF },
  -- SAFE_PAIR_HI (14)
  { p0 := 1, off := 0x068, kp := 0xFFFFFFFF },
  -- SAFE_SO (14)
  { p0 := 1, off := 0x100, n := 64, stride := 0x4, kp := 0xFF00FFFF },
  -- SAFE_SKS_IN (14)
  { p0 := 2, off := 0x100, n := 64, stride := 0x8, kp := 0xF8FFFFFF },
  -- SAFE_SKS_IN_ERR (14)
  { p0 := 2, off := 0x104, n := 64, stride := 0x8, kp := 0xFFFFFFFF },
  -- SAFE_SKS_OUT (14)
  { p0 := 2, off := 0x400, n := 32, stride := 0x4, kp := 0xFF00FFFF },
  -- SAFE_LOAD_CTRL (14)
  { p0 := 3, off := 0x040, rwk := 0x3, mir := 0x3, kp := 0x3, kl := 0x3 },
  -- SAFE_LOAD_STAT (14)
  { p0 := 3, off := 0x044, kp := 0xFF },
  -- SAFE_LOAD_ID (14)
  { p0 := 3, off := 0x048, kp := 0xFFFFFFFF } ]

/-- Registers of the SAFE block, part 2 -/
def RegTable.safe2 : List RegRow := [
  -- SAFE_LOAD_SEAL_X (14)
  { p0 := 3, off := 0x04C, kp := 0xFFFFFFFF },
  -- SAFE_LOAD_SEAL_Y (14)
  { p0 := 3, off := 0x050, kp := 0xFFFFFFFF },
  -- SAFE_ACT_SX (14)
  { p0 := 3, off := 0x054, rw := 0xFFFFFFFF, mir := 0xFFFFFFFF, kp := 0xFFFFFFFF, kl := 0xFFFFFFFF },
  -- SAFE_ACT_SY (14)
  { p0 := 3, off := 0x058, rw := 0xFFFFFFFF, mir := 0xFFFFFFFF, kp := 0xFFFFFFFF, kl := 0xFFFFFFFF },
  -- SAFE_ACT_CYC_LO (14)
  { p0 := 3, off := 0x05C, kp := 0xFFFFFFFF },
  -- SAFE_ACT_CYC_HI (14)
  { p0 := 3, off := 0x060, kp := 0xFFFFFFFF },
  -- SAFE_WIN (14)
  { p0 := 3, off := 0x064 } ]

/-- Registers of the SAFE block. -/
def RegTable.safe : List RegRow := RegTable.safe1 ++ RegTable.safe2

/-- Registers of the CAPT block -/
def RegTable.capt : List RegRow := [
  -- CAPT_CTRL (15)
  { off := 0x040, wo := 0x3, mir := 0x3 },
  -- CAPT_CFG (15)
  { off := 0x044, rw := 0x1F00FF, mir := 0x1F00FF, reset := 0xC1001, kp := 0x1FF0FF, kl := 0xF000 },
  -- CAPT_PRE (15)
  { off := 0x048, rw := 0xFFFFFFFF, mir := 0xFFFFFFFF, kp := 0xFFFFFFFF },
  -- CAPT_POST (15)
  { off := 0x04C, rw := 0xFFFFFFFF, mir := 0xFFFFFFFF, kp := 0xFFFFFFFF },
  -- CAPT_ARM_MAX (15)
  { off := 0x050, rw := 0xFFFFFFFF, mir := 0xFFFFFFFF, reset := 0xEA60, kp := 0xFFFFFFFF },
  -- CAPT_STAT (15)
  { off := 0x054, kp := 0xFF000707, kl := 0xFF000707 },
  -- CAPT_TRIG_LO (15)
  { off := 0x058, kp := 0xFFFFFFFF, kl := 0xFFFFFFFF },
  -- CAPT_TRIG_HI (15)
  { off := 0x05C, kp := 0xFFFFFFFF, kl := 0xFFFFFFFF },
  -- CAPT_TRIG_FINE (15)
  { off := 0x060, kp := 0xFF003FFF, kl := 0xFF003FFF },
  -- CAPT_AREA (15)
  { off := 0x064 },
  -- CAPT_TU_CFG (15)
  { p0 := 1, off := 0x100, n := 64, stride := 0x8, rw := 0xFCFF00FF, mir := 0xFCFF00FF, kp := 0xFCFF00FF },
  -- CAPT_TU_ARG (15)
  { p0 := 1, off := 0x104, n := 64, stride := 0x8, rw := 0xFFFFFFFF, mir := 0xFFFFFFFF, kp := 0xFFFFFFFF },
  -- CAPT_TU_REF (15)
  { p0 := 1, off := 0x400, n := 16, stride := 0x4, rw := 0xFFFFFFFF, mir := 0xFFFFFFFF, kp := 0xFFFFFFFF },
  -- CAPT_ST_W0 (15)
  { p0 := 2, off := 0x100, n := 8, stride := 0x10, rw := 0xFFFFFF00, mir := 0xFFFFFF00, reset := 0xFFFF0000, kp := 0xFFFFFF00 },
  -- CAPT_ST_COUNT (15)
  { p0 := 2, off := 0x104, n := 8, stride := 0x10, rw := 0xFFFF, mir := 0xFFFF, reset := 0x1, kp := 0xFFFF },
  -- CAPT_ST_HOLDOFF (15)
  { p0 := 2, off := 0x108, n := 8, stride := 0x10, rw := 0xFFFFFFFF, mir := 0xFFFFFFFF, kp := 0xFFFFFFFF },
  -- CAPT_ST_TIMEOUT (15)
  { p0 := 2, off := 0x10C, n := 8, stride := 0x10, rw := 0xFFFFFFFF, mir := 0xFFFFFFFF, kp := 0xFFFFFFFF } ]

/-- Registers of the REC block, part 1 -/
def RegTable.rec1 : List RegRow := [
  -- REC_CTRL (16)
  { off := 0x040, rw := 0xFFFF0001, mir := 0xFFFF0001, reset := 0x640001, kp := 0xFFFF0001 },
  -- REC_STAT (16)
  { off := 0x044, kp := 0xFFFFFFF8, kl := 0xFFFFFFF8 },
  -- REC_PSEQ_LO (16)
  { off := 0x048 },
  -- REC_PSEQ_HI (16)
  { off := 0x04C },
  -- REC_HOLD_OLD_LO (16)
  { off := 0x050, kp := 0xFFFFFFFF, kl := 0xFFFFFFFF },
  -- REC_HOLD_OLD_HI (16)
  { off := 0x054, kp := 0xFFFFFFFF, kl := 0xFFFFFFFF },
  -- REC_WF_ROWS (16)
  { off := 0x058, kp := 0xFFFFFFFF, kl := 0xFFFFFFFF },
  -- REC_PORT_CTRL (16)
  { p0 := 1, off := 0x040, rw := 0x8000FFFF, reset := 0xBA19, kp := 0xC000FFFF, kl := 0x40000000 },
  -- REC_PORT_IP (16)
  { p0 := 1, off := 0x044, rw := 0xFFFFFFFF, kp := 0xFFFFFFFF },
  -- REC_PORT_DST (16)
  { p0 := 1, off := 0x048, rw := 0xFFFFFFFF, kp := 0xFFFFFFFF },
  -- REC_PORT_SENT (16)
  { p0 := 1, off := 0x04C, kp := 0xFFFFFFFF, kl := 0xFFFFFFFF },
  -- REC_PORT_SKIP (16)
  { p0 := 1, off := 0x050, kp := 0xFFFFFFFF, kl := 0xFFFFFFFF },
  -- REC_FLASH_STAT (16)
  { p0 := 1, off := 0x054, kp := 0xFFFF0001, kl := 0xFFFF0001 },
  -- REC_FLASH_OLD_LO (16)
  { p0 := 1, off := 0x058 },
  -- REC_FLASH_OLD_HI (16)
  { p0 := 1, off := 0x05C },
  -- REC_FLASH_SKIP (16)
  { p0 := 1, off := 0x060, kp := 0xFFFFFFFF, kl := 0xFFFFFFFF },
  -- LOG_HEAD_LO (16)
  { p0 := 2, off := 0x040 },
  -- LOG_HEAD_HI (16)
  { p0 := 2, off := 0x044 },
  -- LOG_RIND_OLD_LO (16)
  { p0 := 2, off := 0x048 },
  -- LOG_RIND_OLD_HI (16)
  { p0 := 2, off := 0x04C },
  -- LOG_OPMS_LO (16)
  { p0 := 2, off := 0x050 },
  -- LOG_OPMS_HI (16)
  { p0 := 2, off := 0x054 },
  -- LOG_PCYC (16)
  { p0 := 2, off := 0x058 },
  -- LOG_RD_SEQ_LO (16)
  { p0 := 3, off := 0x040, rw := 0xFFFFFFFF, kp := 0xFFFFFFFF, kl := 0xFFFFFFFF } ]

/-- Registers of the REC block, part 2 -/
def RegTable.rec2 : List RegRow := [
  -- LOG_RD_SEQ_HI (16)
  { p0 := 3, off := 0x044, rw := 0xFFFFFFFF, kp := 0xFFFFFFFF, kl := 0xFFFFFFFF },
  -- LOG_RD_CTRL (16)
  { p0 := 3, off := 0x048, rw := 0xFFC, wo := 0x3, reset := 0x4, kp := 0xFFC, kl := 0xFFC },
  -- LOG_RD_DST_LO (16)
  { p0 := 3, off := 0x04C, rw := 0xFFFFFFC0, kp := 0xFFFFFFC0, kl := 0xFFFFFFC0 },
  -- LOG_RD_DST_HI (16)
  { p0 := 3, off := 0x050, rw := 0xFF, kp := 0xFF, kl := 0xFF },
  -- LOG_RD_STAT (16)
  { p0 := 3, off := 0x054, kp := 0xFFF, kl := 0xFFF },
  -- LOG_RD_DATA (16)
  { p0 := 3, off := 0x100, n := 16, stride := 0x4, kp := 0xFFFFFFFF, kl := 0xFFFFFFFF } ]

/-- Registers of the REC block. -/
def RegTable.rec : List RegRow := RegTable.rec1 ++ RegTable.rec2

/-- Registers of the WORK block -/
def RegTable.work : List RegRow := [
  -- WORK_SUB (17)
  { off := 0x040, n := 8, stride := 0x4, rw := 0xFFFFFFFF, kp := 0xFFFFFFFF, kl := 0xFFFFFFFF },
  -- WORK_SUB_RES (17)
  { off := 0x060, kp := 0xF0FFFFFF, kl := 0xF0FFFFFF },
  -- WORK_CANCEL_LO (17)
  { off := 0x064, wo := 0xFFFFFFFF, mir := 0xFFFFFFFF },
  -- WORK_CANCEL_HI (17)
  { off := 0x068, wo := 0xFFFFFFFF, mir := 0xFFFFFFFF },
  -- WORK_STAT (17)
  { off := 0x06C, kp := 0xFFFF009F, kl := 0xFFFF009F },
  -- WORK_BOOST (17)
  { off := 0x070, rw := 0xFFFFFFFF, reset := 0x6403E8, kp := 0xFFFFFFFF },
  -- WORK_COUNT (17)
  { off := 0x074, kp := 0xFFFFFFFF, kl := 0xFFFFFFFF },
  -- WORK_TRC_CTRL (17)
  { off := 0x078, rw := 0xFFF00041, kp := 0xFFF00041, kl := 0xFFF00041 },
  -- WORK_TRC_BASE_LO (17)
  { off := 0x07C, rw := 0xFFFFFFFF, kp := 0xFFFFFFFF, kl := 0xFFFFFFFF },
  -- WORK_TRC_BASE_HI (17)
  { off := 0x080, rw := 0xFFFFFFFF, kp := 0xFFFFFFFF, kl := 0xFFFFFFFF },
  -- WORK_TRC_SIZE (17)
  { off := 0x084, rw := 0xFFFFFFFF, kp := 0xFFFFFFFF, kl := 0xFFFFFFFF },
  -- WORK_TRC_WPTR (17)
  { off := 0x088, kp := 0xFFFFFFFF, kl := 0xFFFFFFFF },
  -- WORK_CORE_STAT (17)
  { p0 := 1, pn := 16, off := 0x040, kp := 0xFFFFFFF3, kl := 0xFFFFFFF3 },
  -- WORK_CORE_ID_LO (17)
  { p0 := 1, pn := 16, off := 0x044, kp := 0xFFFFFFFF, kl := 0xFFFFFFFF },
  -- WORK_CORE_ID_HI (17)
  { p0 := 1, pn := 16, off := 0x048, kp := 0xFFFFFFFF, kl := 0xFFFFFFFF } ]

/-- Registers of the FIFO block -/
def RegTable.fifo : List RegRow := [
  -- FIFO_CFG (17)
  { pn := 16, off := 0x100, n := 16, stride := 0x40, rw := 0xFCFFFFFF, kp := 0xFCFFFFFF, kl := 0xFCFFFFFF, kb := 0xFCFFFFFF },
  -- FIFO_STAT (17)
  { pn := 16, off := 0x104, n := 16, stride := 0x40, reset := 0x1, kp := 0xFFFF9E07, kl := 0xFFFF9E07, kb := 0xFFFF9E07 },
  -- FIFO_WR (17)
  { pn := 16, off := 0x108, n := 16, stride := 0x40, wo := 0xFFFFFFFF },
  -- FIFO_WR_TAIL (17)
  { pn := 16, off := 0x10C, n := 16, stride := 0x40, rw := 0x7, reset := 0x4, kp := 0x7, kl := 0x7, kb := 0x7 },
  -- FIFO_WR_END (17)
  { pn := 16, off := 0x110, n := 16, stride := 0x40, wo := 0xFFFFFFFF },
  -- FIFO_DROP (17)
  { pn := 16, off := 0x114, n := 16, stride := 0x40, kp := 0xFFFFFFFF, kl := 0xFFFFFFFF, kb := 0xFFFFFFFF },
  -- FIFO_WM (17)
  { pn := 16, off := 0x118, n := 16, stride := 0x40, rw := 0x1FFFF, reset := 0x1, kp := 0x1FFFF, kl := 0x1FFFF, kb := 0x1FFFF },
  -- FIFO_RD_0 (17)
  { pn := 16, off := 0x120, n := 16, stride := 0x40, kp := 0xFFFFFFFF, kl := 0xFFFFFFFF, kb := 0xFFFFFFFF },
  -- FIFO_RD_1 (17)
  { pn := 16, off := 0x124, n := 16, stride := 0x40, kp := 0xFFFFFFFF, kl := 0xFFFFFFFF, kb := 0xFFFFFFFF },
  -- FIFO_RD_2 (17)
  { pn := 16, off := 0x128, n := 16, stride := 0x40, kp := 0xFFFFFFFF, kl := 0xFFFFFFFF, kb := 0xFFFFFFFF },
  -- FIFO_RD_3 (17)
  { pn := 16, off := 0x12C, n := 16, stride := 0x40, kp := 0xFFFFFFFF, kl := 0xFFFFFFFF, kb := 0xFFFFFFFF } ]

/-- Registers of the IRQ block -/
def RegTable.irq : List RegRow := [
  -- IRQ_STAT (18)
  { off := 0x040, kp := 0xFFFFFFFF, kl := 0xFFFFFFFF },
  -- IRQ_TGT_STAT (18)
  { off := 0x100, n := 32, stride := 0x4, kp := 0x2, kl := 0x2 },
  -- IRQ_PEND (18)
  { p0 := 1, off := 0x100, n := 32, stride := 0x4, w1c := 0xFFFFFFFF, kp := 0xFFFFFFFF, kl := 0xFFFFFFFF },
  -- IRQ_SET (18)
  { p0 := 1, off := 0x200, n := 32, stride := 0x4, w1s := 0xFFFFFFFF },
  -- IRQ_LOST (18)
  { p0 := 1, off := 0x300, n := 32, stride := 0x4, w1c := 0xFFFFFFFF, kp := 0xFFFFFFFF, kl := 0xFFFFFFFF },
  -- IRQ_LEVEL (18)
  { p0 := 1, off := 0x400, n := 32, stride := 0x4 },
  -- IRQ_MASK (18)
  { p0 := 2, off := 0x100, n := 32, stride := 0x4, rw := 0xFFFFFFFF, reset := 0xFFFFFFFF, kp := 0xFFFFFFFF, kl := 0xFFFFFFFF },
  -- IRQ_ROUTE (18)
  { p0 := 3, pn := 4, off := 0x400, n := 256, stride := 0x4, rw := 0x1F1F1F, reset := 0x101000, kp := 0x1F1F1F, kl := 0x1F1F1F },
  -- IRQ_TGT_SUM (18)
  { p0 := 7, off := 0x100, n := 32, stride := 0x4 } ]

/-- Registers of the DMA block -/
def RegTable.dma : List RegRow := [
  -- DMA_ENG_STAT (18)
  { off := 0x040, kp := 0xFF0000FF, kl := 0xFF0000FF },
  -- DMA_CH_CFG (18)
  { p0 := 1, pn := 64, off := 0x040, rw := 0xFFFF0001, reset := 0x1000000, kp := 0xFFFF0001, kl := 0xFFFF0001, kb := 0xFFFF0001 },
  -- DMA_CH_CTRL (18)
  { p0 := 1, pn := 64, off := 0x044, rw := 0x2, wo := 0xD, kp := 0x2, kl := 0x2, kb := 0x2 },
  -- DMA_CH_STAT (18)
  { p0 := 1, pn := 64, off := 0x048, kp := 0x7000107, kl := 0x7000107, kb := 0x7000107 },
  -- DMA_CH_HALT (18)
  { p0 := 1, pn := 64, off := 0x04C, kp := 0x7FF, kl := 0x7FF, kb := 0x7FF },
  -- DMA_CH_FAIL_LO (18)
  { p0 := 1, pn := 64, off := 0x050, kp := 0xFFFFFFFF, kl := 0xFFFFFFFF, kb := 0xFFFFFFFF },
  -- DMA_CH_FAIL_HI (18)
  { p0 := 1, pn := 64, off := 0x054, kp := 0xFFFFFFFF, kl := 0xFFFFFFFF, kb := 0xFFFFFFFF },
  -- DMA_CH_SH_W (18)
  { p0 := 1, pn := 64, off := 0x060, n := 8, stride := 0x4, rw := 0xFFFFFFFF, kp := 0xFFFFFFFF, kl := 0xFFFFFFFF, kb := 0xFFFFFFFF },
  -- DMA_CH_CUR_SRC_LO (18)
  { p0 := 1, pn := 64, off := 0x080, kp := 0xFFFFFFFF, kl := 0xFFFFFFFF, kb := 0xFFFFFFFF },
  -- DMA_CH_CUR_SRC_HI (18)
  { p0 := 1, pn := 64, off := 0x084, kp := 0xFFFFFFFF, kl := 0xFFFFFFFF, kb := 0xFFFFFFFF },
  -- DMA_CH_CUR_DST_LO (18)
  { p0 := 1, pn := 64, off := 0x088, kp := 0xFFFFFFFF, kl := 0xFFFFFFFF, kb := 0xFFFFFFFF },
  -- DMA_CH_CUR_DST_HI (18)
  { p0 := 1, pn := 64, off := 0x08C, kp := 0xFFFFFFFF, kl := 0xFFFFFFFF, kb := 0xFFFFFFFF },
  -- DMA_CH_CUR_DESC_LO (18)
  { p0 := 1, pn := 64, off := 0x094, kp := 0xFFFFFFFF, kl := 0xFFFFFFFF, kb := 0xFFFFFFFF },
  -- DMA_CH_CUR_DESC_HI (18)
  { p0 := 1, pn := 64, off := 0x098, kp := 0xFFFFFFFF, kl := 0xFFFFFFFF, kb := 0xFFFFFFFF },
  -- DMA_CH_REMAIN (18)
  { p0 := 1, pn := 64, off := 0x090, kp := 0xFFFFFFFF, kl := 0xFFFFFFFF, kb := 0xFFFFFFFF },
  -- DMA_CH_RUN (18)
  { p0 := 1, pn := 64, off := 0x09C, kp := 0xFFFF007F, kl := 0xFFFF007F, kb := 0xFFFF007F } ]

/-- Registers of the HOST block -/
def RegTable.host : List RegRow := [
  -- HOST_PCIE_STAT (19)
  { off := 0x040, kp := 0x2, kl := 0x2 },
  -- HOST_PCIE_CFG (19)
  { off := 0x044, kp := 0x7 },
  -- HOST_PCIE_ID (19)
  { off := 0x048 },
  -- HOST_MIR_PCIE_A (19)
  { off := 0x04C },
  -- HOST_MIR_PCIE_B (19)
  { off := 0x050 },
  -- HOST_HALT (19)
  { off := 0x054, rw := 0x1, mir := 0x1, kp := 0xFFFF0005, kl := 0xFFFF0005 },
  -- HOST_HAP_IP (19)
  { p0 := 1, off := 0x040, kp := 0xFFFFFFFF },
  -- HOST_HAP_CFG (19)
  { p0 := 1, off := 0x044, kp := 0xFFFF0FFF },
  -- HOST_HAP_COUNT (19)
  { p0 := 1, off := 0x048, kp := 0xFFFFFFFF, kl := 0xFFFFFFFF },
  -- HOST_HAP_SESS (19)
  { p0 := 1, off := 0x080, n := 8, stride := 0x4 },
  -- HOST_TR_STAT (19)
  { p0 := 2, off := 0x040, kp := 0xFFFF0000, kl := 0xFFFF0000 },
  -- HOST_TR_DUP (19)
  { p0 := 2, off := 0x044, kp := 0xFFFFFFFF, kl := 0xFFFFFFFF },
  -- HOST_SEC_STAT (19)
  { p0 := 3, off := 0x040, kp := 0xFFFF0002 },
  -- HOST_SEC_IMGVER (19)
  { p0 := 3, off := 0x044 },
  -- HOST_SEC_CTRL (19)
  { p0 := 3, off := 0x048, rwk := 0x3, kp := 0x3, kl := 0x3 } ]

/-- Registers of the MEMI block -/
def RegTable.memi : List RegRow := [
  -- MEMI_SCRUB (19)
  { off := 0x040, kp := 0xFFFF03FF, kl := 0xFFFF03FF },
  -- MEMI_CORR (19)
  { off := 0x044, kp := 0xFFFFFFFF, kl := 0xFFFFFFFF },
  -- MEMI_UNCORR (19)
  { off := 0x048, kp := 0xFFFFFFFF, kl := 0xFFFFFFFF },
  -- MEMI_LAST (19)
  { off := 0x04C, w1c := 0x80000000, kp := 0xF80000FF, kl := 0xF80000FF },
  -- MEMI_LAST_ADDR (19)
  { off := 0x050, kp := 0xFFFFFFFF, kl := 0xFFFFFFFF },
  -- MEMI_INJ (19)
  { off := 0x054, rwk := 0xFF, kp := 0xFF, kl := 0xFF },
  -- MEMI_DIE_CORR (19)
  { p0 := 1, off := 0x040, kp := 0xFFFFFFFF, kl := 0xFFFFFFFF } ]

/-- The LO registers of 64-bit pairs whose read captures the HI register, which stands at the next address (R70 and the
chapters that apply it): first page, pages, offset, registers in a page, their distance. -/
def RegTable.loPairs : List (Nat × Nat × Nat × Nat × Nat) := [
  -- TIME_NOW_LO
  (0x010, 1, 0x048, 1, 4),
  -- TIME_PPSIN_LO
  (0x011, 1, 0x040, 1, 4),
  -- SYS_WARM_CYC_LO
  (0x001, 1, 0x044, 1, 4),
  -- PAIR_CYC_LO
  (0x030, 1, 0x048, 1, 4),
  -- PAIR_DIG_CYC_LO
  (0x031, 1, 0x040, 1, 4),
  -- PAIR_DIG_OWN_LO
  (0x031, 1, 0x048, 1, 4),
  -- PAIR_DIG_OTHER_LO
  (0x031, 1, 0x050, 1, 4),
  -- PAIR_DIV_CYC_LO
  (0x031, 1, 0x05C, 1, 4),
  -- PAIR_RJ_SNAP_LO
  (0x033, 1, 0x048, 1, 4),
  -- CYCLE_NUM_LO
  (0x100, 1, 0x048, 1, 4),
  -- CYCLE_ORG_NUM_LO
  (0x100, 1, 0x050, 1, 4),
  -- CYCLE_ORG_T_LO
  (0x100, 1, 0x058, 1, 4),
  -- CYCLE_OVR_CYC_LO
  (0x101, 1, 0x058, 1, 4),
  -- CYCLE_TRC_BASE_LO
  (0x102, 1, 0x044, 1, 4),
  -- CYCLE_TRC_START_LO
  (0x102, 1, 0x050, 1, 4),
  -- CYCLE_GRAPH_SEAL_LO
  (0x103, 1, 0x040, 1, 4),
  -- LOOP_FLT_CYC_LO
  (0x200, 64, 0x054, 1, 4),
  -- LOGIC_OVR_CYC_LO
  (0x300, 8, 0x050, 1, 4),
  -- LOGIC_TRAP_CYC_LO
  (0x300, 8, 0x05C, 1, 4),
  -- LOGIC_EXCH_SEAL_LO
  (0x300, 1, 0x108, 1, 4),
  -- LOGIC_EXCH_EFF_LO
  (0x300, 1, 0x110, 1, 4),
  -- LOGIC_TRIAL_FIRST_CYC_LO
  (0x300, 1, 0x154, 1, 4),
  -- RECIPE_CH_ACYC_LO
  (0x381, 32, 0x058, 1, 4),
  -- RECIPE_CH_TA_LO
  (0x381, 32, 0x060, 1, 4),
  -- RECIPE_CH_REM_LO
  (0x381, 32, 0x068, 1, 4),
  -- RING_ABSENT_LO
  (0x400, 24, 0x074, 1, 4),
  -- RING_ALERT_LO
  (0x400, 24, 0x07C, 1, 4),
  -- RING_STA_ABS_CYC_LO
  (0x440, 384, 0x120, 4, 256),
  -- AXIS_POS_LO
  (0x681, 16, 0x090, 1, 128),
  -- AXIS_POS_LO
  (0x691, 15, 0x090, 16, 128),
  -- SAFE_ACT_CYC_LO
  (0x783, 1, 0x05C, 1, 4),
  -- CAPT_TRIG_LO
  (0x800, 1, 0x058, 1, 4),
  -- REC_PSEQ_LO
  (0x880, 1, 0x048, 1, 4),
  -- REC_HOLD_OLD_LO
  (0x880, 1, 0x050, 1, 4),
  -- REC_FLASH_OLD_LO
  (0x881, 1, 0x058, 1, 4),
  -- LOG_HEAD_LO
  (0x882, 1, 0x040, 1, 4),
  -- LOG_RIND_OLD_LO
  (0x882, 1, 0x048, 1, 4),
  -- LOG_OPMS_LO
  (0x882, 1, 0x050, 1, 4),
  -- LOG_RD_SEQ_LO
  (0x883, 1, 0x040, 1, 4),
  -- LOG_RD_DST_LO
  (0x883, 1, 0x04C, 1, 4),
  -- DMA_CH_FAIL_LO
  (0xA81, 64, 0x050, 1, 4),
  -- DMA_CH_CUR_SRC_LO
  (0xA81, 64, 0x080, 1, 4),
  -- DMA_CH_CUR_DST_LO
  (0xA81, 64, 0x088, 1, 4),
  -- DMA_CH_CUR_DESC_LO
  (0xA81, 64, 0x094, 1, 4) ]

end Sys2Proof.Machine
end

