-- ==== Sys2Proof/Machine/Regs.lean ====
section
/-! DEFINITION. The lane address of every register and the bits of every field, by the names of the
register tables of chapters 02–19 and the page placement of R21. -/

namespace Sys2Proof.Machine

/-- A field of a register: the lane address of the register and the highest and lowest bit. -/
structure Fld where
  addr : Nat
  hi : Nat
  lo : Nat
  deriving DecidableEq, Repr

/-- Address of SEAT_STAT (chapter 02). -/
def Reg.SEAT_STAT (i : Nat) : Nat := 0x40040 + 0x1000 * i
def F.SEAT_STAT.TOKENS (i : Nat) : Fld := ⟨Reg.SEAT_STAT i, 21, 16⟩
def F.SEAT_STAT.BOUND (i : Nat) : Fld := ⟨Reg.SEAT_STAT i, 4, 4⟩
def F.SEAT_STAT.AUTH (i : Nat) : Fld := ⟨Reg.SEAT_STAT i, 3, 3⟩
def F.SEAT_STAT.SEAT (i : Nat) : Fld := ⟨Reg.SEAT_STAT i, 2, 0⟩
/-- Address of SEAT_VIOL_ADDR (chapter 02). -/
def Reg.SEAT_VIOL_ADDR (i : Nat) : Nat := 0x40044 + 0x1000 * i
def F.SEAT_VIOL_ADDR.ADDR (i : Nat) : Fld := ⟨Reg.SEAT_VIOL_ADDR i, 31, 0⟩
/-- Address of SEAT_VIOL_INFO (chapter 02). -/
def Reg.SEAT_VIOL_INFO (i : Nat) : Nat := 0x40048 + 0x1000 * i
def F.SEAT_VIOL_INFO.VALID (i : Nat) : Fld := ⟨Reg.SEAT_VIOL_INFO i, 31, 31⟩
def F.SEAT_VIOL_INFO.MORE (i : Nat) : Fld := ⟨Reg.SEAT_VIOL_INFO i, 30, 30⟩
def F.SEAT_VIOL_INFO.KIND (i : Nat) : Fld := ⟨Reg.SEAT_VIOL_INFO i, 27, 24⟩
def F.SEAT_VIOL_INFO.ADDR_HI (i : Nat) : Fld := ⟨Reg.SEAT_VIOL_INFO i, 23, 16⟩
def F.SEAT_VIOL_INFO.SIZE (i : Nat) : Fld := ⟨Reg.SEAT_VIOL_INFO i, 11, 8⟩
def F.SEAT_VIOL_INFO.DIR (i : Nat) : Fld := ⟨Reg.SEAT_VIOL_INFO i, 7, 7⟩
def F.SEAT_VIOL_INFO.PATH (i : Nat) : Fld := ⟨Reg.SEAT_VIOL_INFO i, 6, 4⟩
/-- Address of SEAT_VIOL_COUNT (chapter 02). -/
def Reg.SEAT_VIOL_COUNT (i : Nat) : Nat := 0x4004C + 0x1000 * i
def F.SEAT_VIOL_COUNT.COUNT (i : Nat) : Fld := ⟨Reg.SEAT_VIOL_COUNT i, 31, 0⟩
/-- Address of SEAT_CLAIM (chapter 02). -/
def Reg.SEAT_CLAIM (i : Nat) : Nat := 0x40050 + 0x1000 * i
def F.SEAT_CLAIM.RELEASE (i : Nat) : Fld := ⟨Reg.SEAT_CLAIM i, 31, 31⟩
def F.SEAT_CLAIM.FOR_SEAT (i : Nat) : Fld := ⟨Reg.SEAT_CLAIM i, 26, 24⟩
def F.SEAT_CLAIM.TOKEN (i : Nat) : Fld := ⟨Reg.SEAT_CLAIM i, 23, 0⟩
/-- Address of SEAT_CLAIM_STAT (chapter 02). -/
def Reg.SEAT_CLAIM_STAT (i : Nat) : Nat := 0x40054 + 0x1000 * i
def F.SEAT_CLAIM_STAT.STATE (i : Nat) : Fld := ⟨Reg.SEAT_CLAIM_STAT i, 31, 30⟩
def F.SEAT_CLAIM_STAT.HOLDER (i : Nat) : Fld := ⟨Reg.SEAT_CLAIM_STAT i, 26, 24⟩
def F.SEAT_CLAIM_STAT.TOKEN (i : Nat) : Fld := ⟨Reg.SEAT_CLAIM_STAT i, 23, 0⟩
/-- Address of SEAT_TOKEN_QUERY (chapter 02). -/
def Reg.SEAT_TOKEN_QUERY (i : Nat) : Nat := 0x40058 + 0x1000 * i
def F.SEAT_TOKEN_QUERY.HELD (i : Nat) : Fld := ⟨Reg.SEAT_TOKEN_QUERY i, 31, 31⟩
def F.SEAT_TOKEN_QUERY.HOLDER (i : Nat) : Fld := ⟨Reg.SEAT_TOKEN_QUERY i, 26, 24⟩
def F.SEAT_TOKEN_QUERY.TOKEN (i : Nat) : Fld := ⟨Reg.SEAT_TOKEN_QUERY i, 23, 0⟩
/-- Address of SEAT_RIGHTS_PAGE (chapter 02). -/
def Reg.SEAT_RIGHTS_PAGE (i : Nat) (k : Nat) : Nat := 0x40400 + 0x1000 * i + 0x4 * k
def F.SEAT_RIGHTS_PAGE.CODE (i : Nat) (k : Nat) : Fld := ⟨Reg.SEAT_RIGHTS_PAGE i k, 31, 0⟩
/-- Address of SEAT_RIGHTS_TABLE (chapter 02). -/
def Reg.SEAT_RIGHTS_TABLE (i : Nat) (k : Nat) : Nat := 0x40800 + 0x1000 * i + 0x4 * k
def F.SEAT_RIGHTS_TABLE.CODE (i : Nat) (k : Nat) : Fld := ⟨Reg.SEAT_RIGHTS_TABLE i k, 31, 0⟩
/-- Address of SEAT_RIGHTS_DRAM (chapter 02). -/
def Reg.SEAT_RIGHTS_DRAM (i : Nat) (k : Nat) : Nat := 0x40840 + 0x1000 * i + 0x4 * k
def F.SEAT_RIGHTS_DRAM.CODE (i : Nat) (k : Nat) : Fld := ⟨Reg.SEAT_RIGHTS_DRAM i k, 31, 0⟩
/-- Address of TIME_CTRL (chapter 03). -/
def Reg.TIME_CTRL : Nat := 0x10040
def F.TIME_CTRL.DOMAIN : Fld := ⟨Reg.TIME_CTRL, 15, 8⟩
def F.TIME_CTRL.SET_AT_PPS : Fld := ⟨Reg.TIME_CTRL, 7, 7⟩
def F.TIME_CTRL.STEP_EN : Fld := ⟨Reg.TIME_CTRL, 6, 6⟩
def F.TIME_CTRL.PTP_PORT : Fld := ⟨Reg.TIME_CTRL, 5, 3⟩
def F.TIME_CTRL.SOURCE : Fld := ⟨Reg.TIME_CTRL, 2, 0⟩
/-- Address of TIME_STAT (chapter 03). -/
def Reg.TIME_STAT : Nat := 0x10044
def F.TIME_STAT.PPS_PRESENT : Fld := ⟨Reg.TIME_STAT, 11, 11⟩
def F.TIME_STAT.REF10_PRESENT : Fld := ⟨Reg.TIME_STAT, 10, 10⟩
def F.TIME_STAT.ALIGN_OK : Fld := ⟨Reg.TIME_STAT, 9, 9⟩
def F.TIME_STAT.LEADER : Fld := ⟨Reg.TIME_STAT, 8, 8⟩
def F.TIME_STAT.SOURCE_ACT : Fld := ⟨Reg.TIME_STAT, 5, 3⟩
def F.TIME_STAT.STATE : Fld := ⟨Reg.TIME_STAT, 2, 0⟩
/-- Address of TIME_NOW_LO (chapter 03). -/
def Reg.TIME_NOW_LO : Nat := 0x10048
def F.TIME_NOW_LO.NS : Fld := ⟨Reg.TIME_NOW_LO, 31, 0⟩
/-- Address of TIME_NOW_HI (chapter 03). -/
def Reg.TIME_NOW_HI : Nat := 0x1004C
def F.TIME_NOW_HI.NS : Fld := ⟨Reg.TIME_NOW_HI, 31, 0⟩
/-- Address of TIME_INC (chapter 03). -/
def Reg.TIME_INC : Nat := 0x10050
def F.TIME_INC.FRAC : Fld := ⟨Reg.TIME_INC, 31, 0⟩
/-- Address of TIME_OFFSET (chapter 03). -/
def Reg.TIME_OFFSET : Nat := 0x10054
def F.TIME_OFFSET.NS : Fld := ⟨Reg.TIME_OFFSET, 31, 0⟩
/-- Address of TIME_ALIGN (chapter 03). -/
def Reg.TIME_ALIGN : Nat := 0x10058
def F.TIME_ALIGN.OFS : Fld := ⟨Reg.TIME_ALIGN, 15, 0⟩
/-- Address of TIME_SET_LO (chapter 03). -/
def Reg.TIME_SET_LO : Nat := 0x1005C
def F.TIME_SET_LO.NS : Fld := ⟨Reg.TIME_SET_LO, 31, 0⟩
/-- Address of TIME_SET_HI (chapter 03). -/
def Reg.TIME_SET_HI : Nat := 0x10060
def F.TIME_SET_HI.NS : Fld := ⟨Reg.TIME_SET_HI, 31, 0⟩
/-- Address of TIME_STEP_LIMIT (chapter 03). -/
def Reg.TIME_STEP_LIMIT : Nat := 0x10064
def F.TIME_STEP_LIMIT.US : Fld := ⟨Reg.TIME_STEP_LIMIT, 19, 0⟩
/-- Address of TIME_UTC (chapter 03). -/
def Reg.TIME_UTC : Nat := 0x10068
def F.TIME_UTC.VALID : Fld := ⟨Reg.TIME_UTC, 31, 31⟩
def F.TIME_UTC.LI_61 : Fld := ⟨Reg.TIME_UTC, 30, 30⟩
def F.TIME_UTC.LI_59 : Fld := ⟨Reg.TIME_UTC, 29, 29⟩
def F.TIME_UTC.TAI_UTC : Fld := ⟨Reg.TIME_UTC, 15, 0⟩
/-- Address of TIME_PPSIN_LO (chapter 03). -/
def Reg.TIME_PPSIN_LO : Nat := 0x11040
def F.TIME_PPSIN_LO.NS : Fld := ⟨Reg.TIME_PPSIN_LO, 31, 0⟩
/-- Address of TIME_PPSIN_HI (chapter 03). -/
def Reg.TIME_PPSIN_HI : Nat := 0x11044
def F.TIME_PPSIN_HI.NS : Fld := ⟨Reg.TIME_PPSIN_HI, 31, 0⟩
/-- Address of TIME_SYNC_CFG (chapter 03). -/
def Reg.TIME_SYNC_CFG : Nat := 0x11048
def F.TIME_SYNC_CFG.EN : Fld := ⟨Reg.TIME_SYNC_CFG, 31, 31⟩
def F.TIME_SYNC_CFG.WIDTH : Fld := ⟨Reg.TIME_SYNC_CFG, 23, 16⟩
def F.TIME_SYNC_CFG.DIV : Fld := ⟨Reg.TIME_SYNC_CFG, 15, 0⟩
/-- Address of TT_FIRED (chapter 03). -/
def Reg.TT_FIRED : Nat := 0x1104C
def F.TT_FIRED.FIRED : Fld := ⟨Reg.TT_FIRED, 31, 0⟩
/-- Address of TT_CTRL (chapter 03). -/
def Reg.TT_CTRL (k : Nat) : Nat := 0x11100 + 0x10 * k
def F.TT_CTRL.MISSED (k : Nat) : Fld := ⟨Reg.TT_CTRL k, 31, 16⟩
def F.TT_CTRL.LATE (k : Nat) : Fld := ⟨Reg.TT_CTRL k, 8, 8⟩
def F.TT_CTRL.IRQ (k : Nat) : Fld := ⟨Reg.TT_CTRL k, 4, 4⟩
def F.TT_CTRL.PERIODIC (k : Nat) : Fld := ⟨Reg.TT_CTRL k, 1, 1⟩
def F.TT_CTRL.ARM (k : Nat) : Fld := ⟨Reg.TT_CTRL k, 0, 0⟩
/-- Address of TT_TGT_LO (chapter 03). -/
def Reg.TT_TGT_LO (k : Nat) : Nat := 0x11104 + 0x10 * k
def F.TT_TGT_LO.NS (k : Nat) : Fld := ⟨Reg.TT_TGT_LO k, 31, 0⟩
/-- Address of TT_TGT_HI (chapter 03). -/
def Reg.TT_TGT_HI (k : Nat) : Nat := 0x11108 + 0x10 * k
def F.TT_TGT_HI.NS (k : Nat) : Fld := ⟨Reg.TT_TGT_HI k, 31, 0⟩
/-- Address of TT_PERIOD (chapter 03). -/
def Reg.TT_PERIOD (k : Nat) : Nat := 0x1110C + 0x10 * k
def F.TT_PERIOD.NS (k : Nat) : Fld := ⟨Reg.TT_PERIOD k, 31, 0⟩
/-- Address of SYS_ROLE (chapter 04). -/
def Reg.SYS_ROLE : Nat := 0x40
def F.SYS_ROLE.HW_REV : Fld := ⟨Reg.SYS_ROLE, 15, 8⟩
def F.SYS_ROLE.OTHER_SEATED : Fld := ⟨Reg.SYS_ROLE, 1, 1⟩
def F.SYS_ROLE.ROLE : Fld := ⟨Reg.SYS_ROLE, 0, 0⟩
/-- Address of SYS_STATE (chapter 04). -/
def Reg.SYS_STATE : Nat := 0x44
def F.SYS_STATE.OTHER_STATE : Fld := ⟨Reg.SYS_STATE, 19, 16⟩
def F.SYS_STATE.PRIMACY : Fld := ⟨Reg.SYS_STATE, 9, 9⟩
def F.SYS_STATE.WARM : Fld := ⟨Reg.SYS_STATE, 8, 8⟩
def F.SYS_STATE.STAGE : Fld := ⟨Reg.SYS_STATE, 6, 4⟩
def F.SYS_STATE.LANE_STATE : Fld := ⟨Reg.SYS_STATE, 3, 0⟩
/-- Address of SYS_CTRL (chapter 04). -/
def Reg.SYS_CTRL : Nat := 0x48
def F.SYS_CTRL.FAULT_DWELL : Fld := ⟨Reg.SYS_CTRL, 15, 8⟩
def F.SYS_CTRL.HOLD_FAULTED : Fld := ⟨Reg.SYS_CTRL, 2, 2⟩
def F.SYS_CTRL.FORCE : Fld := ⟨Reg.SYS_CTRL, 1, 1⟩
def F.SYS_CTRL.LANE_RESET : Fld := ⟨Reg.SYS_CTRL, 0, 0⟩
/-- Address of SYS_RESET_CAUSE (chapter 04). -/
def Reg.SYS_RESET_CAUSE : Nat := 0x4C
def F.SYS_RESET_CAUSE.UPDATE : Fld := ⟨Reg.SYS_RESET_CAUSE, 4, 4⟩
def F.SYS_RESET_CAUSE.FAULT : Fld := ⟨Reg.SYS_RESET_CAUSE, 3, 3⟩
def F.SYS_RESET_CAUSE.SW : Fld := ⟨Reg.SYS_RESET_CAUSE, 2, 2⟩
def F.SYS_RESET_CAUSE.BROWNOUT : Fld := ⟨Reg.SYS_RESET_CAUSE, 1, 1⟩
def F.SYS_RESET_CAUSE.POR : Fld := ⟨Reg.SYS_RESET_CAUSE, 0, 0⟩
/-- Address of SYS_RESET_COUNT (chapter 04). -/
def Reg.SYS_RESET_COUNT : Nat := 0x50
def F.SYS_RESET_COUNT.COUNT : Fld := ⟨Reg.SYS_RESET_COUNT, 31, 0⟩
/-- Address of SYS_SUPPLY (chapter 04). -/
def Reg.SYS_SUPPLY : Nat := 0x54
def F.SYS_SUPPLY.PWR2_V : Fld := ⟨Reg.SYS_SUPPLY, 23, 16⟩
def F.SYS_SUPPLY.PWR1_V : Fld := ⟨Reg.SYS_SUPPLY, 15, 8⟩
def F.SYS_SUPPLY.RIDE : Fld := ⟨Reg.SYS_SUPPLY, 2, 2⟩
def F.SYS_SUPPLY.PWR2_OK : Fld := ⟨Reg.SYS_SUPPLY, 1, 1⟩
def F.SYS_SUPPLY.PWR1_OK : Fld := ⟨Reg.SYS_SUPPLY, 0, 0⟩
/-- Address of SYS_STAGE_T01 (chapter 04). -/
def Reg.SYS_STAGE_T01 : Nat := 0x58
def F.SYS_STAGE_T01.S1 : Fld := ⟨Reg.SYS_STAGE_T01, 31, 16⟩
def F.SYS_STAGE_T01.S0 : Fld := ⟨Reg.SYS_STAGE_T01, 15, 0⟩
/-- Address of SYS_STAGE_T23 (chapter 04). -/
def Reg.SYS_STAGE_T23 : Nat := 0x5C
def F.SYS_STAGE_T23.S3 : Fld := ⟨Reg.SYS_STAGE_T23, 31, 16⟩
def F.SYS_STAGE_T23.S2 : Fld := ⟨Reg.SYS_STAGE_T23, 15, 0⟩
/-- Address of SYS_WARM (chapter 04). -/
def Reg.SYS_WARM : Nat := 0x1040
def F.SYS_WARM.REASON : Fld := ⟨Reg.SYS_WARM, 3, 1⟩
def F.SYS_WARM.VALID : Fld := ⟨Reg.SYS_WARM, 0, 0⟩
/-- Address of SYS_WARM_CYC_LO (chapter 04). -/
def Reg.SYS_WARM_CYC_LO : Nat := 0x1044
def F.SYS_WARM_CYC_LO.CYC : Fld := ⟨Reg.SYS_WARM_CYC_LO, 31, 0⟩
/-- Address of SYS_WARM_CYC_HI (chapter 04). -/
def Reg.SYS_WARM_CYC_HI : Nat := 0x1048
def F.SYS_WARM_CYC_HI.CYC : Fld := ⟨Reg.SYS_WARM_CYC_HI, 31, 0⟩
/-- Address of LEDGER_STAT (chapter 04). -/
def Reg.LEDGER_STAT : Nat := 0x20040
def F.LEDGER_STAT.FREE : Fld := ⟨Reg.LEDGER_STAT, 23, 16⟩
def F.LEDGER_STAT.BUDGET : Fld := ⟨Reg.LEDGER_STAT, 7, 0⟩
/-- Address of LEDGER_BOOK (chapter 04). -/
def Reg.LEDGER_BOOK : Nat := 0x20044
def F.LEDGER_BOOK.GRANTED : Fld := ⟨Reg.LEDGER_BOOK, 15, 8⟩
def F.LEDGER_BOOK.STANDING : Fld := ⟨Reg.LEDGER_BOOK, 7, 0⟩
/-- Address of LEDGER_MEAS (chapter 04). -/
def Reg.LEDGER_MEAS : Nat := 0x20048
def F.LEDGER_MEAS.MW : Fld := ⟨Reg.LEDGER_MEAS, 15, 0⟩
/-- Address of LEDGER_CLASS (chapter 04). -/
def Reg.LEDGER_CLASS (k : Nat) : Nat := 0x20100 + 0x4 * k
def F.LEDGER_CLASS.REFUSED (k : Nat) : Fld := ⟨Reg.LEDGER_CLASS k, 31, 24⟩
def F.LEDGER_CLASS.WAITING (k : Nat) : Fld := ⟨Reg.LEDGER_CLASS k, 23, 16⟩
def F.LEDGER_CLASS.GRANTED (k : Nat) : Fld := ⟨Reg.LEDGER_CLASS k, 7, 0⟩
/-- Address of LEDGER_WAIT (chapter 04). -/
def Reg.LEDGER_WAIT (k : Nat) : Nat := 0x20140 + 0x4 * k
def F.LEDGER_WAIT.MS (k : Nat) : Fld := ⟨Reg.LEDGER_WAIT k, 15, 0⟩
/-- Address of PAIR_CTRL (chapter 05). -/
def Reg.PAIR_CTRL : Nat := 0x30040
def F.PAIR_CTRL.FW_START : Fld := ⟨Reg.PAIR_CTRL, 5, 5⟩
def F.PAIR_CTRL.RJ_ON_ONE : Fld := ⟨Reg.PAIR_CTRL, 4, 4⟩
def F.PAIR_CTRL.AUTO_REJOIN : Fld := ⟨Reg.PAIR_CTRL, 3, 3⟩
def F.PAIR_CTRL.FORCE : Fld := ⟨Reg.PAIR_CTRL, 2, 2⟩
def F.PAIR_CTRL.TRANSFER : Fld := ⟨Reg.PAIR_CTRL, 1, 1⟩
def F.PAIR_CTRL.LEAVE : Fld := ⟨Reg.PAIR_CTRL, 0, 0⟩
/-- Address of PAIR_STAT (chapter 05). -/
def Reg.PAIR_STAT : Nat := 0x30044
def F.PAIR_STAT.REPLACE : Fld := ⟨Reg.PAIR_STAT, 11, 11⟩
def F.PAIR_STAT.EJECT_SAFE : Fld := ⟨Reg.PAIR_STAT, 10, 10⟩
def F.PAIR_STAT.LIVE : Fld := ⟨Reg.PAIR_STAT, 9, 9⟩
def F.PAIR_STAT.OTHER_PRESENT : Fld := ⟨Reg.PAIR_STAT, 8, 8⟩
def F.PAIR_STAT.PRESENT : Fld := ⟨Reg.PAIR_STAT, 7, 7⟩
def F.PAIR_STAT.PRIM_REQ : Fld := ⟨Reg.PAIR_STAT, 6, 6⟩
def F.PAIR_STAT.PRIMACY : Fld := ⟨Reg.PAIR_STAT, 5, 5⟩
def F.PAIR_STAT.LINK : Fld := ⟨Reg.PAIR_STAT, 3, 0⟩
/-- Address of PAIR_CYC_LO (chapter 05). -/
def Reg.PAIR_CYC_LO : Nat := 0x30048
def F.PAIR_CYC_LO.CYC : Fld := ⟨Reg.PAIR_CYC_LO, 31, 0⟩
/-- Address of PAIR_CYC_HI (chapter 05). -/
def Reg.PAIR_CYC_HI : Nat := 0x3004C
def F.PAIR_CYC_HI.CYC : Fld := ⟨Reg.PAIR_CYC_HI, 31, 0⟩
/-- Address of PAIR_PRIM (chapter 05). -/
def Reg.PAIR_PRIM : Nat := 0x30050
def F.PAIR_PRIM.HANDOVERS : Fld := ⟨Reg.PAIR_PRIM, 31, 16⟩
def F.PAIR_PRIM.CAUSE : Fld := ⟨Reg.PAIR_PRIM, 3, 0⟩
/-- Address of PAIR_COMPAT (chapter 05). -/
def Reg.PAIR_COMPAT : Nat := 0x30054
def F.PAIR_COMPAT.OTHER : Fld := ⟨Reg.PAIR_COMPAT, 31, 16⟩
def F.PAIR_COMPAT.OWN : Fld := ⟨Reg.PAIR_COMPAT, 15, 0⟩
/-- Address of PAIR_DIG_CYC_LO (chapter 05). -/
def Reg.PAIR_DIG_CYC_LO : Nat := 0x31040
def F.PAIR_DIG_CYC_LO.CYC : Fld := ⟨Reg.PAIR_DIG_CYC_LO, 31, 0⟩
/-- Address of PAIR_DIG_CYC_HI (chapter 05). -/
def Reg.PAIR_DIG_CYC_HI : Nat := 0x31044
def F.PAIR_DIG_CYC_HI.CYC : Fld := ⟨Reg.PAIR_DIG_CYC_HI, 31, 0⟩
/-- Address of PAIR_DIG_OWN_LO (chapter 05). -/
def Reg.PAIR_DIG_OWN_LO : Nat := 0x31048
def F.PAIR_DIG_OWN_LO.DIG : Fld := ⟨Reg.PAIR_DIG_OWN_LO, 31, 0⟩
/-- Address of PAIR_DIG_OWN_HI (chapter 05). -/
def Reg.PAIR_DIG_OWN_HI : Nat := 0x3104C
def F.PAIR_DIG_OWN_HI.DIG : Fld := ⟨Reg.PAIR_DIG_OWN_HI, 31, 0⟩
/-- Address of PAIR_DIG_OTHER_LO (chapter 05). -/
def Reg.PAIR_DIG_OTHER_LO : Nat := 0x31050
def F.PAIR_DIG_OTHER_LO.DIG : Fld := ⟨Reg.PAIR_DIG_OTHER_LO, 31, 0⟩
/-- Address of PAIR_DIG_OTHER_HI (chapter 05). -/
def Reg.PAIR_DIG_OTHER_HI : Nat := 0x31054
def F.PAIR_DIG_OTHER_HI.DIG : Fld := ⟨Reg.PAIR_DIG_OTHER_HI, 31, 0⟩
/-- Address of PAIR_DIV (chapter 05). -/
def Reg.PAIR_DIV : Nat := 0x31058
def F.PAIR_DIV.TOTAL : Fld := ⟨Reg.PAIR_DIV, 31, 16⟩
def F.PAIR_DIV.REPL_SLOT : Fld := ⟨Reg.PAIR_DIV, 12, 12⟩
def F.PAIR_DIV.CHARGED_24H : Fld := ⟨Reg.PAIR_DIV, 11, 8⟩
def F.PAIR_DIV.BOTH : Fld := ⟨Reg.PAIR_DIV, 3, 3⟩
def F.PAIR_DIV.CHARGED : Fld := ⟨Reg.PAIR_DIV, 2, 2⟩
def F.PAIR_DIV.CHECK : Fld := ⟨Reg.PAIR_DIV, 1, 0⟩
/-- Address of PAIR_DIV_CYC_LO (chapter 05). -/
def Reg.PAIR_DIV_CYC_LO : Nat := 0x3105C
def F.PAIR_DIV_CYC_LO.CYC : Fld := ⟨Reg.PAIR_DIV_CYC_LO, 31, 0⟩
/-- Address of PAIR_DIV_CYC_HI (chapter 05). -/
def Reg.PAIR_DIV_CYC_HI : Nat := 0x31060
def F.PAIR_DIV_CYC_HI.CYC : Fld := ⟨Reg.PAIR_DIV_CYC_HI, 31, 0⟩
/-- Address of PAIR_MIR_PEAK (chapter 05). -/
def Reg.PAIR_MIR_PEAK : Nat := 0x32040
def F.PAIR_MIR_PEAK.BYTES : Fld := ⟨Reg.PAIR_MIR_PEAK, 31, 0⟩
/-- Address of PAIR_MIR_LIMIT (chapter 05). -/
def Reg.PAIR_MIR_LIMIT : Nat := 0x32044
def F.PAIR_MIR_LIMIT.BYTES : Fld := ⟨Reg.PAIR_MIR_LIMIT, 31, 0⟩
/-- Address of PAIR_MIR_COUNT (chapter 05). -/
def Reg.PAIR_MIR_COUNT : Nat := 0x32048
def F.PAIR_MIR_COUNT.ENTRIES : Fld := ⟨Reg.PAIR_MIR_COUNT, 31, 0⟩
/-- Address of PAIR_MIR_DUP (chapter 05). -/
def Reg.PAIR_MIR_DUP : Nat := 0x3204C
def F.PAIR_MIR_DUP.ENTRIES : Fld := ⟨Reg.PAIR_MIR_DUP, 31, 0⟩
/-- Address of PAIR_MIR_UNCONF (chapter 05). -/
def Reg.PAIR_MIR_UNCONF : Nat := 0x32050
def F.PAIR_MIR_UNCONF.ENTRIES : Fld := ⟨Reg.PAIR_MIR_UNCONF, 31, 0⟩
/-- Address of PAIR_DIFF (chapter 05). -/
def Reg.PAIR_DIFF : Nat := 0x32054
def F.PAIR_DIFF.SVC : Fld := ⟨Reg.PAIR_DIFF, 31, 16⟩
def F.PAIR_DIFF.PBUS : Fld := ⟨Reg.PAIR_DIFF, 15, 0⟩
/-- Address of PAIR_RJ_CTRL (chapter 05). -/
def Reg.PAIR_RJ_CTRL : Nat := 0x33040
def F.PAIR_RJ_CTRL.TIMEOUT : Fld := ⟨Reg.PAIR_RJ_CTRL, 23, 8⟩
def F.PAIR_RJ_CTRL.ABORT : Fld := ⟨Reg.PAIR_RJ_CTRL, 1, 1⟩
def F.PAIR_RJ_CTRL.START : Fld := ⟨Reg.PAIR_RJ_CTRL, 0, 0⟩
/-- Address of PAIR_RJ_STAT (chapter 05). -/
def Reg.PAIR_RJ_STAT : Nat := 0x33044
def F.PAIR_RJ_STAT.IMAGES : Fld := ⟨Reg.PAIR_RJ_STAT, 24, 24⟩
def F.PAIR_RJ_STAT.FAILS : Fld := ⟨Reg.PAIR_RJ_STAT, 23, 16⟩
def F.PAIR_RJ_STAT.MATCHED : Fld := ⟨Reg.PAIR_RJ_STAT, 15, 8⟩
def F.PAIR_RJ_STAT.PHASE : Fld := ⟨Reg.PAIR_RJ_STAT, 3, 0⟩
/-- Address of PAIR_RJ_SNAP_LO (chapter 05). -/
def Reg.PAIR_RJ_SNAP_LO : Nat := 0x33048
def F.PAIR_RJ_SNAP_LO.CYC : Fld := ⟨Reg.PAIR_RJ_SNAP_LO, 31, 0⟩
/-- Address of PAIR_RJ_SNAP_HI (chapter 05). -/
def Reg.PAIR_RJ_SNAP_HI : Nat := 0x3304C
def F.PAIR_RJ_SNAP_HI.CYC : Fld := ⟨Reg.PAIR_RJ_SNAP_HI, 31, 0⟩
/-- Address of PAIR_RJ_BACKLOG (chapter 05). -/
def Reg.PAIR_RJ_BACKLOG : Nat := 0x33050
def F.PAIR_RJ_BACKLOG.CYCLES : Fld := ⟨Reg.PAIR_RJ_BACKLOG, 31, 0⟩
/-- Address of PAIR_RJ_KIB (chapter 05). -/
def Reg.PAIR_RJ_KIB : Nat := 0x33054
def F.PAIR_RJ_KIB.KIB : Fld := ⟨Reg.PAIR_RJ_KIB, 31, 0⟩
/-- Address of CYCLE_STAT (chapter 06). -/
def Reg.CYCLE_STAT : Nat := 0x100040
def F.CYCLE_STAT.PHASE : Fld := ⟨Reg.CYCLE_STAT, 14, 12⟩
def F.CYCLE_STAT.PROFILE : Fld := ⟨Reg.CYCLE_STAT, 9, 8⟩
def F.CYCLE_STAT.RUN : Fld := ⟨Reg.CYCLE_STAT, 0, 0⟩
/-- Address of CYCLE_PERIOD (chapter 06). -/
def Reg.CYCLE_PERIOD : Nat := 0x100044
def F.CYCLE_PERIOD.NS : Fld := ⟨Reg.CYCLE_PERIOD, 19, 0⟩
/-- Address of CYCLE_NUM_LO (chapter 06). -/
def Reg.CYCLE_NUM_LO : Nat := 0x100048
def F.CYCLE_NUM_LO.CYC : Fld := ⟨Reg.CYCLE_NUM_LO, 31, 0⟩
/-- Address of CYCLE_NUM_HI (chapter 06). -/
def Reg.CYCLE_NUM_HI : Nat := 0x10004C
def F.CYCLE_NUM_HI.CYC : Fld := ⟨Reg.CYCLE_NUM_HI, 31, 0⟩
/-- Address of CYCLE_ORG_NUM_LO (chapter 06). -/
def Reg.CYCLE_ORG_NUM_LO : Nat := 0x100050
def F.CYCLE_ORG_NUM_LO.CYC : Fld := ⟨Reg.CYCLE_ORG_NUM_LO, 31, 0⟩
/-- Address of CYCLE_ORG_NUM_HI (chapter 06). -/
def Reg.CYCLE_ORG_NUM_HI : Nat := 0x100054
def F.CYCLE_ORG_NUM_HI.CYC : Fld := ⟨Reg.CYCLE_ORG_NUM_HI, 31, 0⟩
/-- Address of CYCLE_ORG_T_LO (chapter 06). -/
def Reg.CYCLE_ORG_T_LO : Nat := 0x100058
def F.CYCLE_ORG_T_LO.NS : Fld := ⟨Reg.CYCLE_ORG_T_LO, 31, 0⟩
/-- Address of CYCLE_ORG_T_HI (chapter 06). -/
def Reg.CYCLE_ORG_T_HI : Nat := 0x10005C
def F.CYCLE_ORG_T_HI.NS : Fld := ⟨Reg.CYCLE_ORG_T_HI, 31, 0⟩
/-- Address of CYCLE_PHASE_CFG (chapter 06). -/
def Reg.CYCLE_PHASE_CFG : Nat := 0x100060
def F.CYCLE_PHASE_CFG.NS : Fld := ⟨Reg.CYCLE_PHASE_CFG, 19, 0⟩
/-- Address of CYCLE_TRING (chapter 06). -/
def Reg.CYCLE_TRING : Nat := 0x100064
def F.CYCLE_TRING.NS : Fld := ⟨Reg.CYCLE_TRING, 19, 0⟩
/-- Address of CYCLE_MERGE (chapter 06). -/
def Reg.CYCLE_MERGE : Nat := 0x100068
def F.CYCLE_MERGE.NS : Fld := ⟨Reg.CYCLE_MERGE, 15, 0⟩
/-- Address of CYCLE_WINDOW (chapter 06). -/
def Reg.CYCLE_WINDOW : Nat := 0x10006C
def F.CYCLE_WINDOW.NS : Fld := ⟨Reg.CYCLE_WINDOW, 19, 0⟩
/-- Address of CYCLE_LOAD (chapter 06). -/
def Reg.CYCLE_LOAD : Nat := 0x100070
def F.CYCLE_LOAD.MAKESPAN : Fld := ⟨Reg.CYCLE_LOAD, 31, 16⟩
def F.CYCLE_LOAD.LOAD : Fld := ⟨Reg.CYCLE_LOAD, 15, 0⟩
/-- Address of CYCLE_DONE_LAST (chapter 06). -/
def Reg.CYCLE_DONE_LAST : Nat := 0x101040
def F.CYCLE_DONE_LAST.FAB : Fld := ⟨Reg.CYCLE_DONE_LAST, 23, 0⟩
/-- Address of CYCLE_DONE_MAX (chapter 06). -/
def Reg.CYCLE_DONE_MAX : Nat := 0x101044
def F.CYCLE_DONE_MAX.FAB : Fld := ⟨Reg.CYCLE_DONE_MAX, 23, 0⟩
/-- Address of CYCLE_RING_LAST (chapter 06). -/
def Reg.CYCLE_RING_LAST : Nat := 0x101048
def F.CYCLE_RING_LAST.NS : Fld := ⟨Reg.CYCLE_RING_LAST, 19, 0⟩
/-- Address of CYCLE_RING_MAX (chapter 06). -/
def Reg.CYCLE_RING_MAX : Nat := 0x10104C
def F.CYCLE_RING_MAX.NS : Fld := ⟨Reg.CYCLE_RING_MAX, 19, 0⟩
/-- Address of CYCLE_OVR_COUNT (chapter 06). -/
def Reg.CYCLE_OVR_COUNT : Nat := 0x101050
def F.CYCLE_OVR_COUNT.CUT : Fld := ⟨Reg.CYCLE_OVR_COUNT, 31, 16⟩
def F.CYCLE_OVR_COUNT.LATE_REC : Fld := ⟨Reg.CYCLE_OVR_COUNT, 15, 0⟩
/-- Address of CYCLE_OVR_NODE (chapter 06). -/
def Reg.CYCLE_OVR_NODE : Nat := 0x101054
def F.CYCLE_OVR_NODE.VALID : Fld := ⟨Reg.CYCLE_OVR_NODE, 31, 31⟩
def F.CYCLE_OVR_NODE.KIND : Fld := ⟨Reg.CYCLE_OVR_NODE, 30, 28⟩
def F.CYCLE_OVR_NODE.ECLASS : Fld := ⟨Reg.CYCLE_OVR_NODE, 27, 26⟩
def F.CYCLE_OVR_NODE.ENGINE : Fld := ⟨Reg.CYCLE_OVR_NODE, 25, 20⟩
def F.CYCLE_OVR_NODE.NODE : Fld := ⟨Reg.CYCLE_OVR_NODE, 15, 0⟩
/-- Address of CYCLE_OVR_CYC_LO (chapter 06). -/
def Reg.CYCLE_OVR_CYC_LO : Nat := 0x101058
def F.CYCLE_OVR_CYC_LO.CYC : Fld := ⟨Reg.CYCLE_OVR_CYC_LO, 31, 0⟩
/-- Address of CYCLE_OVR_CYC_HI (chapter 06). -/
def Reg.CYCLE_OVR_CYC_HI : Nat := 0x10105C
def F.CYCLE_OVR_CYC_HI.CYC : Fld := ⟨Reg.CYCLE_OVR_CYC_HI, 31, 0⟩
/-- Address of CYCLE_MARGIN_CFG (chapter 06). -/
def Reg.CYCLE_MARGIN_CFG : Nat := 0x101060
def F.CYCLE_MARGIN_CFG.PM : Fld := ⟨Reg.CYCLE_MARGIN_CFG, 15, 0⟩
/-- Address of CYCLE_TRC_CTRL (chapter 06). -/
def Reg.CYCLE_TRC_CTRL : Nat := 0x102040
def F.CYCLE_TRC_CTRL.DIV : Fld := ⟨Reg.CYCLE_TRC_CTRL, 31, 16⟩
def F.CYCLE_TRC_CTRL.ALL : Fld := ⟨Reg.CYCLE_TRC_CTRL, 7, 7⟩
def F.CYCLE_TRC_CTRL.WRAP : Fld := ⟨Reg.CYCLE_TRC_CTRL, 6, 6⟩
def F.CYCLE_TRC_CTRL.MODE : Fld := ⟨Reg.CYCLE_TRC_CTRL, 1, 0⟩
/-- Address of CYCLE_TRC_BASE_LO (chapter 06). -/
def Reg.CYCLE_TRC_BASE_LO : Nat := 0x102044
def F.CYCLE_TRC_BASE_LO.ADDR : Fld := ⟨Reg.CYCLE_TRC_BASE_LO, 31, 12⟩
/-- Address of CYCLE_TRC_BASE_HI (chapter 06). -/
def Reg.CYCLE_TRC_BASE_HI : Nat := 0x102048
def F.CYCLE_TRC_BASE_HI.ADDR : Fld := ⟨Reg.CYCLE_TRC_BASE_HI, 7, 0⟩
/-- Address of CYCLE_TRC_SIZE (chapter 06). -/
def Reg.CYCLE_TRC_SIZE : Nat := 0x10204C
def F.CYCLE_TRC_SIZE.PAGES : Fld := ⟨Reg.CYCLE_TRC_SIZE, 18, 0⟩
/-- Address of CYCLE_TRC_START_LO (chapter 06). -/
def Reg.CYCLE_TRC_START_LO : Nat := 0x102050
def F.CYCLE_TRC_START_LO.CYC : Fld := ⟨Reg.CYCLE_TRC_START_LO, 31, 0⟩
/-- Address of CYCLE_TRC_START_HI (chapter 06). -/
def Reg.CYCLE_TRC_START_HI : Nat := 0x102054
def F.CYCLE_TRC_START_HI.CYC : Fld := ⟨Reg.CYCLE_TRC_START_HI, 31, 0⟩
/-- Address of CYCLE_TRC_COUNT (chapter 06). -/
def Reg.CYCLE_TRC_COUNT : Nat := 0x102058
def F.CYCLE_TRC_COUNT.CYCLES : Fld := ⟨Reg.CYCLE_TRC_COUNT, 31, 0⟩
/-- Address of CYCLE_TRC_WPTR (chapter 06). -/
def Reg.CYCLE_TRC_WPTR : Nat := 0x10205C
def F.CYCLE_TRC_WPTR.OFS : Fld := ⟨Reg.CYCLE_TRC_WPTR, 31, 0⟩
/-- Address of CYCLE_TRC_STAT (chapter 06). -/
def Reg.CYCLE_TRC_STAT : Nat := 0x102060
def F.CYCLE_TRC_STAT.DROPPED : Fld := ⟨Reg.CYCLE_TRC_STAT, 31, 16⟩
def F.CYCLE_TRC_STAT.ACTIVE : Fld := ⟨Reg.CYCLE_TRC_STAT, 0, 0⟩
/-- Address of CYCLE_GRAPH_SEAL_LO (chapter 06). -/
def Reg.CYCLE_GRAPH_SEAL_LO : Nat := 0x103040
def F.CYCLE_GRAPH_SEAL_LO.SEAL : Fld := ⟨Reg.CYCLE_GRAPH_SEAL_LO, 31, 0⟩
/-- Address of CYCLE_GRAPH_SEAL_HI (chapter 06). -/
def Reg.CYCLE_GRAPH_SEAL_HI : Nat := 0x103044
def F.CYCLE_GRAPH_SEAL_HI.SEAL : Fld := ⟨Reg.CYCLE_GRAPH_SEAL_HI, 31, 0⟩
/-- Address of CYCLE_GRAPH_SIZE (chapter 06). -/
def Reg.CYCLE_GRAPH_SIZE : Nat := 0x103048
def F.CYCLE_GRAPH_SIZE.FLOWS : Fld := ⟨Reg.CYCLE_GRAPH_SIZE, 27, 16⟩
def F.CYCLE_GRAPH_SIZE.NODES : Fld := ⟨Reg.CYCLE_GRAPH_SIZE, 15, 0⟩
/-- Address of CYCLE_NODE_WIN (chapter 06). -/
def Reg.CYCLE_NODE_WIN : Nat := 0x10304C
def F.CYCLE_NODE_WIN.ADDR : Fld := ⟨Reg.CYCLE_NODE_WIN, 31, 0⟩
/-- Address of LOOP_EXEC_COUNT (chapter 07). -/
def Reg.LOOP_EXEC_COUNT (i : Nat) : Nat := 0x200040 + 0x1000 * i
def F.LOOP_EXEC_COUNT.COUNT (i : Nat) : Fld := ⟨Reg.LOOP_EXEC_COUNT i, 31, 0⟩
/-- Address of LOOP_FAULT_COUNT (chapter 07). -/
def Reg.LOOP_FAULT_COUNT (i : Nat) : Nat := 0x200044 + 0x1000 * i
def F.LOOP_FAULT_COUNT.ACTIVE (i : Nat) : Fld := ⟨Reg.LOOP_FAULT_COUNT i, 31, 16⟩
def F.LOOP_FAULT_COUNT.ENTRIES (i : Nat) : Fld := ⟨Reg.LOOP_FAULT_COUNT i, 15, 0⟩
/-- Address of LOOP_REGION_COUNT (chapter 07). -/
def Reg.LOOP_REGION_COUNT (i : Nat) : Nat := 0x200048 + 0x1000 * i
def F.LOOP_REGION_COUNT.COUNT (i : Nat) : Fld := ⟨Reg.LOOP_REGION_COUNT i, 31, 0⟩
/-- Address of LOOP_SEL_COUNT (chapter 07). -/
def Reg.LOOP_SEL_COUNT (i : Nat) : Nat := 0x20004C + 0x1000 * i
def F.LOOP_SEL_COUNT.COUNT (i : Nat) : Fld := ⟨Reg.LOOP_SEL_COUNT i, 31, 0⟩
/-- Address of LOOP_FLT_LATCH (chapter 07). -/
def Reg.LOOP_FLT_LATCH (i : Nat) : Nat := 0x200050 + 0x1000 * i
def F.LOOP_FLT_LATCH.VALID (i : Nat) : Fld := ⟨Reg.LOOP_FLT_LATCH i, 31, 31⟩
def F.LOOP_FLT_LATCH.CAUSE (i : Nat) : Fld := ⟨Reg.LOOP_FLT_LATCH i, 30, 28⟩
def F.LOOP_FLT_LATCH.INST (i : Nat) : Fld := ⟨Reg.LOOP_FLT_LATCH i, 11, 0⟩
/-- Address of LOOP_FLT_CYC_LO (chapter 07). -/
def Reg.LOOP_FLT_CYC_LO (i : Nat) : Nat := 0x200054 + 0x1000 * i
def F.LOOP_FLT_CYC_LO.CYC (i : Nat) : Fld := ⟨Reg.LOOP_FLT_CYC_LO i, 31, 0⟩
/-- Address of LOOP_FLT_CYC_HI (chapter 07). -/
def Reg.LOOP_FLT_CYC_HI (i : Nat) : Nat := 0x200058 + 0x1000 * i
def F.LOOP_FLT_CYC_HI.CYC (i : Nat) : Fld := ⟨Reg.LOOP_FLT_CYC_HI i, 31, 0⟩
/-- Address of LOOP_WIN (chapter 07). -/
def Reg.LOOP_WIN (i : Nat) (k : Nat) : Nat := 0x200060 + 0x1000 * i + 0x4 * k
def F.LOOP_WIN.ADDR (i : Nat) (k : Nat) : Fld := ⟨Reg.LOOP_WIN i k, 31, 0⟩
/-- Address of LOGIC_MEM (chapter 08). -/
def Reg.LOGIC_MEM (i : Nat) : Nat := 0x300040 + 0x1000 * i
def F.LOGIC_MEM.DATA_KIB (i : Nat) : Fld := ⟨Reg.LOGIC_MEM i, 25, 16⟩
def F.LOGIC_MEM.CODE_KIB (i : Nat) : Fld := ⟨Reg.LOGIC_MEM i, 9, 0⟩
/-- Address of LOGIC_ACT_COUNT (chapter 08). -/
def Reg.LOGIC_ACT_COUNT (i : Nat) : Nat := 0x300044 + 0x1000 * i
def F.LOGIC_ACT_COUNT.COUNT (i : Nat) : Fld := ⟨Reg.LOGIC_ACT_COUNT i, 31, 0⟩
/-- Address of LOGIC_OVR_COUNT (chapter 08). -/
def Reg.LOGIC_OVR_COUNT (i : Nat) : Nat := 0x300048 + 0x1000 * i
def F.LOGIC_OVR_COUNT.TRAPS (i : Nat) : Fld := ⟨Reg.LOGIC_OVR_COUNT i, 31, 16⟩
def F.LOGIC_OVR_COUNT.WITHDRAWN (i : Nat) : Fld := ⟨Reg.LOGIC_OVR_COUNT i, 15, 0⟩
/-- Address of LOGIC_OVR_LATCH (chapter 08). -/
def Reg.LOGIC_OVR_LATCH (i : Nat) : Nat := 0x30004C + 0x1000 * i
def F.LOGIC_OVR_LATCH.VALID (i : Nat) : Fld := ⟨Reg.LOGIC_OVR_LATCH i, 31, 31⟩
def F.LOGIC_OVR_LATCH.TASK (i : Nat) : Fld := ⟨Reg.LOGIC_OVR_LATCH i, 30, 28⟩
def F.LOGIC_OVR_LATCH.SLOT (i : Nat) : Fld := ⟨Reg.LOGIC_OVR_LATCH i, 3, 0⟩
/-- Address of LOGIC_OVR_CYC_LO (chapter 08). -/
def Reg.LOGIC_OVR_CYC_LO (i : Nat) : Nat := 0x300050 + 0x1000 * i
def F.LOGIC_OVR_CYC_LO.CYC (i : Nat) : Fld := ⟨Reg.LOGIC_OVR_CYC_LO i, 31, 0⟩
/-- Address of LOGIC_OVR_CYC_HI (chapter 08). -/
def Reg.LOGIC_OVR_CYC_HI (i : Nat) : Nat := 0x300054 + 0x1000 * i
def F.LOGIC_OVR_CYC_HI.CYC (i : Nat) : Fld := ⟨Reg.LOGIC_OVR_CYC_HI i, 31, 0⟩
/-- Address of LOGIC_TRAP_LATCH (chapter 08). -/
def Reg.LOGIC_TRAP_LATCH (i : Nat) : Nat := 0x300058 + 0x1000 * i
def F.LOGIC_TRAP_LATCH.VALID (i : Nat) : Fld := ⟨Reg.LOGIC_TRAP_LATCH i, 31, 31⟩
def F.LOGIC_TRAP_LATCH.TASK (i : Nat) : Fld := ⟨Reg.LOGIC_TRAP_LATCH i, 30, 28⟩
def F.LOGIC_TRAP_LATCH.CODE (i : Nat) : Fld := ⟨Reg.LOGIC_TRAP_LATCH i, 15, 8⟩
def F.LOGIC_TRAP_LATCH.SLOT (i : Nat) : Fld := ⟨Reg.LOGIC_TRAP_LATCH i, 3, 0⟩
/-- Address of LOGIC_TRAP_CYC_LO (chapter 08). -/
def Reg.LOGIC_TRAP_CYC_LO (i : Nat) : Nat := 0x30005C + 0x1000 * i
def F.LOGIC_TRAP_CYC_LO.CYC (i : Nat) : Fld := ⟨Reg.LOGIC_TRAP_CYC_LO i, 31, 0⟩
/-- Address of LOGIC_TRAP_CYC_HI (chapter 08). -/
def Reg.LOGIC_TRAP_CYC_HI (i : Nat) : Nat := 0x300060 + 0x1000 * i
def F.LOGIC_TRAP_CYC_HI.CYC (i : Nat) : Fld := ⟨Reg.LOGIC_TRAP_CYC_HI i, 31, 0⟩
/-- Address of LOGIC_PCTL (chapter 08). -/
def Reg.LOGIC_PCTL (i : Nat) (k : Nat) : Nat := 0x300080 + 0x1000 * i + 0x8 * k
def F.LOGIC_PCTL.OVR_LIMIT (i : Nat) (k : Nat) : Fld := ⟨Reg.LOGIC_PCTL i k, 31, 24⟩
def F.LOGIC_PCTL.CMD (i : Nat) (k : Nat) : Fld := ⟨Reg.LOGIC_PCTL i k, 2, 0⟩
/-- Address of LOGIC_PSTAT (chapter 08). -/
def Reg.LOGIC_PSTAT (i : Nat) (k : Nat) : Nat := 0x300084 + 0x1000 * i + 0x8 * k
def F.LOGIC_PSTAT.CONSEC (i : Nat) (k : Nat) : Fld := ⟨Reg.LOGIC_PSTAT i k, 31, 24⟩
def F.LOGIC_PSTAT.TRAP (i : Nat) (k : Nat) : Fld := ⟨Reg.LOGIC_PSTAT i k, 23, 16⟩
def F.LOGIC_PSTAT.CAUSE (i : Nat) (k : Nat) : Fld := ⟨Reg.LOGIC_PSTAT i k, 7, 5⟩
def F.LOGIC_PSTAT.VALID (i : Nat) (k : Nat) : Fld := ⟨Reg.LOGIC_PSTAT i k, 4, 4⟩
def F.LOGIC_PSTAT.STEP_PEND (i : Nat) (k : Nat) : Fld := ⟨Reg.LOGIC_PSTAT i k, 3, 3⟩
def F.LOGIC_PSTAT.STATE (i : Nat) (k : Nat) : Fld := ⟨Reg.LOGIC_PSTAT i k, 1, 0⟩
/-- Address of LOGIC_EXCH_CTRL (chapter 08). -/
def Reg.LOGIC_EXCH_CTRL : Nat := 0x300100
def F.LOGIC_EXCH_CTRL.ABANDON : Fld := ⟨Reg.LOGIC_EXCH_CTRL, 2, 2⟩
def F.LOGIC_EXCH_CTRL.COMMIT : Fld := ⟨Reg.LOGIC_EXCH_CTRL, 1, 1⟩
def F.LOGIC_EXCH_CTRL.PREPARE : Fld := ⟨Reg.LOGIC_EXCH_CTRL, 0, 0⟩
/-- Address of LOGIC_EXCH_STAT (chapter 08). -/
def Reg.LOGIC_EXCH_STAT : Nat := 0x300104
def F.LOGIC_EXCH_STAT.OTHER : Fld := ⟨Reg.LOGIC_EXCH_STAT, 19, 16⟩
def F.LOGIC_EXCH_STAT.OWN : Fld := ⟨Reg.LOGIC_EXCH_STAT, 11, 8⟩
def F.LOGIC_EXCH_STAT.LAST : Fld := ⟨Reg.LOGIC_EXCH_STAT, 3, 0⟩
/-- Address of LOGIC_EXCH_SEAL_LO (chapter 08). -/
def Reg.LOGIC_EXCH_SEAL_LO : Nat := 0x300108
def F.LOGIC_EXCH_SEAL_LO.SEAL : Fld := ⟨Reg.LOGIC_EXCH_SEAL_LO, 31, 0⟩
/-- Address of LOGIC_EXCH_SEAL_HI (chapter 08). -/
def Reg.LOGIC_EXCH_SEAL_HI : Nat := 0x30010C
def F.LOGIC_EXCH_SEAL_HI.SEAL : Fld := ⟨Reg.LOGIC_EXCH_SEAL_HI, 31, 0⟩
/-- Address of LOGIC_EXCH_EFF_LO (chapter 08). -/
def Reg.LOGIC_EXCH_EFF_LO : Nat := 0x300110
def F.LOGIC_EXCH_EFF_LO.CYC : Fld := ⟨Reg.LOGIC_EXCH_EFF_LO, 31, 0⟩
/-- Address of LOGIC_EXCH_EFF_HI (chapter 08). -/
def Reg.LOGIC_EXCH_EFF_HI : Nat := 0x300114
def F.LOGIC_EXCH_EFF_HI.CYC : Fld := ⟨Reg.LOGIC_EXCH_EFF_HI, 31, 0⟩
/-- Address of LOGIC_EXCH_MAP_A (chapter 08). -/
def Reg.LOGIC_EXCH_MAP_A : Nat := 0x300118
def F.LOGIC_EXCH_MAP_A.CARRIED : Fld := ⟨Reg.LOGIC_EXCH_MAP_A, 31, 0⟩
/-- Address of LOGIC_EXCH_MAP_B (chapter 08). -/
def Reg.LOGIC_EXCH_MAP_B : Nat := 0x30011C
def F.LOGIC_EXCH_MAP_B.DROPPED : Fld := ⟨Reg.LOGIC_EXCH_MAP_B, 31, 16⟩
def F.LOGIC_EXCH_MAP_B.INITIALISED : Fld := ⟨Reg.LOGIC_EXCH_MAP_B, 15, 0⟩
/-- Address of LOGIC_TRIAL_CTRL (chapter 08). -/
def Reg.LOGIC_TRIAL_CTRL : Nat := 0x300140
def F.LOGIC_TRIAL_CTRL.STOP : Fld := ⟨Reg.LOGIC_TRIAL_CTRL, 15, 15⟩
def F.LOGIC_TRIAL_CTRL.START : Fld := ⟨Reg.LOGIC_TRIAL_CTRL, 14, 14⟩
def F.LOGIC_TRIAL_CTRL.PROG : Fld := ⟨Reg.LOGIC_TRIAL_CTRL, 6, 0⟩
/-- Address of LOGIC_TRIAL_STAT (chapter 08). -/
def Reg.LOGIC_TRIAL_STAT : Nat := 0x300144
def F.LOGIC_TRIAL_STAT.STATE : Fld := ⟨Reg.LOGIC_TRIAL_STAT, 1, 0⟩
/-- Address of LOGIC_TRIAL_ACT (chapter 08). -/
def Reg.LOGIC_TRIAL_ACT : Nat := 0x300148
def F.LOGIC_TRIAL_ACT.COUNT : Fld := ⟨Reg.LOGIC_TRIAL_ACT, 31, 0⟩
/-- Address of LOGIC_TRIAL_DIFF (chapter 08). -/
def Reg.LOGIC_TRIAL_DIFF : Nat := 0x30014C
def F.LOGIC_TRIAL_DIFF.MISSED : Fld := ⟨Reg.LOGIC_TRIAL_DIFF, 31, 16⟩
def F.LOGIC_TRIAL_DIFF.DIFFS : Fld := ⟨Reg.LOGIC_TRIAL_DIFF, 15, 0⟩
/-- Address of LOGIC_TRIAL_FIRST (chapter 08). -/
def Reg.LOGIC_TRIAL_FIRST : Nat := 0x300150
def F.LOGIC_TRIAL_FIRST.VALID : Fld := ⟨Reg.LOGIC_TRIAL_FIRST, 31, 31⟩
def F.LOGIC_TRIAL_FIRST.OUTPUT : Fld := ⟨Reg.LOGIC_TRIAL_FIRST, 15, 0⟩
/-- Address of LOGIC_TRIAL_FIRST_CYC_LO (chapter 08). -/
def Reg.LOGIC_TRIAL_FIRST_CYC_LO : Nat := 0x300154
def F.LOGIC_TRIAL_FIRST_CYC_LO.CYC : Fld := ⟨Reg.LOGIC_TRIAL_FIRST_CYC_LO, 31, 0⟩
/-- Address of LOGIC_TRIAL_FIRST_CYC_HI (chapter 08). -/
def Reg.LOGIC_TRIAL_FIRST_CYC_HI : Nat := 0x300158
def F.LOGIC_TRIAL_FIRST_CYC_HI.CYC : Fld := ⟨Reg.LOGIC_TRIAL_FIRST_CYC_HI, 31, 0⟩
/-- Address of RECIPE_SEQ_STAT (chapter 09). -/
def Reg.RECIPE_SEQ_STAT : Nat := 0x380040
def F.RECIPE_SEQ_STAT.HELD : Fld := ⟨Reg.RECIPE_SEQ_STAT, 29, 24⟩
def F.RECIPE_SEQ_STAT.RUNNING : Fld := ⟨Reg.RECIPE_SEQ_STAT, 21, 16⟩
/-- Address of RECIPE_WIN (chapter 09). -/
def Reg.RECIPE_WIN (k : Nat) : Nat := 0x380044 + 0x4 * k
def F.RECIPE_WIN.ADDR (k : Nat) : Fld := ⟨Reg.RECIPE_WIN k, 31, 0⟩
/-- Address of RECIPE_CH_CMD (chapter 09). -/
def Reg.RECIPE_CH_CMD (i : Nat) : Nat := 0x381040 + 0x1000 * i
def F.RECIPE_CH_CMD.START_STEP (i : Nat) : Fld := ⟨Reg.RECIPE_CH_CMD i, 27, 16⟩
def F.RECIPE_CH_CMD.CMD (i : Nat) : Fld := ⟨Reg.RECIPE_CH_CMD i, 2, 0⟩
/-- Address of RECIPE_CH_STAT (chapter 09). -/
def Reg.RECIPE_CH_STAT (i : Nat) : Nat := 0x381044 + 0x1000 * i
def F.RECIPE_CH_STAT.STEP (i : Nat) : Fld := ⟨Reg.RECIPE_CH_STAT i, 31, 16⟩
def F.RECIPE_CH_STAT.CAUSE (i : Nat) : Fld := ⟨Reg.RECIPE_CH_STAT i, 15, 12⟩
def F.RECIPE_CH_STAT.CMD_RES (i : Nat) : Fld := ⟨Reg.RECIPE_CH_STAT i, 9, 8⟩
def F.RECIPE_CH_STAT.HELD_WHY (i : Nat) : Fld := ⟨Reg.RECIPE_CH_STAT i, 6, 4⟩
def F.RECIPE_CH_STAT.STATE (i : Nat) : Fld := ⟨Reg.RECIPE_CH_STAT i, 3, 0⟩
/-- Address of RECIPE_CH_CTX (chapter 09). -/
def Reg.RECIPE_CH_CTX (i : Nat) (k : Nat) : Nat := 0x381048 + 0x1000 * i + 0x4 * k
def F.RECIPE_CH_CTX.CTX (i : Nat) (k : Nat) : Fld := ⟨Reg.RECIPE_CH_CTX i k, 31, 0⟩
/-- Address of RECIPE_CH_ACYC_LO (chapter 09). -/
def Reg.RECIPE_CH_ACYC_LO (i : Nat) : Nat := 0x381058 + 0x1000 * i
def F.RECIPE_CH_ACYC_LO.CYC (i : Nat) : Fld := ⟨Reg.RECIPE_CH_ACYC_LO i, 31, 0⟩
/-- Address of RECIPE_CH_ACYC_HI (chapter 09). -/
def Reg.RECIPE_CH_ACYC_HI (i : Nat) : Nat := 0x38105C + 0x1000 * i
def F.RECIPE_CH_ACYC_HI.CYC (i : Nat) : Fld := ⟨Reg.RECIPE_CH_ACYC_HI i, 31, 0⟩
/-- Address of RECIPE_CH_TA_LO (chapter 09). -/
def Reg.RECIPE_CH_TA_LO (i : Nat) : Nat := 0x381060 + 0x1000 * i
def F.RECIPE_CH_TA_LO.NS (i : Nat) : Fld := ⟨Reg.RECIPE_CH_TA_LO i, 31, 0⟩
/-- Address of RECIPE_CH_TA_HI (chapter 09). -/
def Reg.RECIPE_CH_TA_HI (i : Nat) : Nat := 0x381064 + 0x1000 * i
def F.RECIPE_CH_TA_HI.NS (i : Nat) : Fld := ⟨Reg.RECIPE_CH_TA_HI i, 31, 0⟩
/-- Address of RECIPE_CH_REM_LO (chapter 09). -/
def Reg.RECIPE_CH_REM_LO (i : Nat) : Nat := 0x381068 + 0x1000 * i
def F.RECIPE_CH_REM_LO.NS (i : Nat) : Fld := ⟨Reg.RECIPE_CH_REM_LO i, 31, 0⟩
/-- Address of RECIPE_CH_REM_HI (chapter 09). -/
def Reg.RECIPE_CH_REM_HI (i : Nat) : Nat := 0x38106C + 0x1000 * i
def F.RECIPE_CH_REM_HI.NS (i : Nat) : Fld := ⟨Reg.RECIPE_CH_REM_HI i, 15, 0⟩
/-- Address of RECIPE_CH_EDGES (chapter 09). -/
def Reg.RECIPE_CH_EDGES (i : Nat) : Nat := 0x381070 + 0x1000 * i
def F.RECIPE_CH_EDGES.COUNT (i : Nat) : Fld := ⟨Reg.RECIPE_CH_EDGES i, 31, 0⟩
/-- Address of RECIPE_CH_COUNT (chapter 09). -/
def Reg.RECIPE_CH_COUNT (i : Nat) : Nat := 0x381074 + 0x1000 * i
def F.RECIPE_CH_COUNT.REFUSED (i : Nat) : Fld := ⟨Reg.RECIPE_CH_COUNT i, 31, 16⟩
def F.RECIPE_CH_COUNT.BAD (i : Nat) : Fld := ⟨Reg.RECIPE_CH_COUNT i, 15, 0⟩
/-- Address of RING_CTRL (chapter 10). -/
def Reg.RING_CTRL (i : Nat) : Nat := 0x400040 + 0x1000 * i
def F.RING_CTRL.AUTO_RETURN (i : Nat) : Fld := ⟨Reg.RING_CTRL i, 16, 16⟩
def F.RING_CTRL.RETURN_CYCLES (i : Nat) : Fld := ⟨Reg.RING_CTRL i, 15, 8⟩
/-- Address of RING_MISS (chapter 10). -/
def Reg.RING_MISS (i : Nat) : Nat := 0x400044 + 0x1000 * i
def F.RING_MISS.LIMIT (i : Nat) : Fld := ⟨Reg.RING_MISS i, 2, 0⟩
/-- Address of RING_CFG (chapter 10). -/
def Reg.RING_CFG (i : Nat) : Nat := 0x400048 + 0x1000 * i
def F.RING_CFG.MODE (i : Nat) : Fld := ⟨Reg.RING_CFG i, 31, 31⟩
def F.RING_CFG.NSTA (i : Nat) : Fld := ⟨Reg.RING_CFG i, 30, 24⟩
def F.RING_CFG.ACYC_LEN (i : Nat) : Fld := ⟨Reg.RING_CFG i, 23, 14⟩
def F.RING_CFG.DATA_LEN (i : Nat) : Fld := ⟨Reg.RING_CFG i, 13, 0⟩
/-- Address of RING_ETYPE (chapter 10). -/
def Reg.RING_ETYPE (i : Nat) : Nat := 0x40004C + 0x1000 * i
def F.RING_ETYPE.ETYPE (i : Nat) : Fld := ⟨Reg.RING_ETYPE i, 15, 0⟩
/-- Address of RING_CFG_ID (chapter 10). -/
def Reg.RING_CFG_ID (i : Nat) : Nat := 0x400050 + 0x1000 * i
def F.RING_CFG_ID.ID (i : Nat) : Fld := ⟨Reg.RING_CFG_ID i, 31, 0⟩
/-- Address of RING_STAT (chapter 10). -/
def Reg.RING_STAT (i : Nat) : Nat := 0x400054 + 0x1000 * i
def F.RING_STAT.FOLD_POS_B (i : Nat) : Fld := ⟨Reg.RING_STAT i, 31, 24⟩
def F.RING_STAT.FOLD_POS_A (i : Nat) : Fld := ⟨Reg.RING_STAT i, 23, 16⟩
def F.RING_STAT.PRESENT (i : Nat) : Fld := ⟨Reg.RING_STAT i, 15, 8⟩
def F.RING_STAT.SENDING (i : Nat) : Fld := ⟨Reg.RING_STAT i, 3, 3⟩
def F.RING_STAT.XHOP_RX (i : Nat) : Fld := ⟨Reg.RING_STAT i, 2, 2⟩
def F.RING_STAT.XHOP_TX (i : Nat) : Fld := ⟨Reg.RING_STAT i, 1, 1⟩
def F.RING_STAT.LINK (i : Nat) : Fld := ⟨Reg.RING_STAT i, 0, 0⟩
/-- Address of RING_TRING (chapter 10). -/
def Reg.RING_TRING (i : Nat) : Nat := 0x400058 + 0x1000 * i
def F.RING_TRING.NS (i : Nat) : Fld := ⟨Reg.RING_TRING i, 19, 0⟩
/-- Address of RING_LOOP (chapter 10). -/
def Reg.RING_LOOP (i : Nat) : Nat := 0x40005C + 0x1000 * i
def F.RING_LOOP.NS (i : Nat) : Fld := ⟨Reg.RING_LOOP i, 19, 0⟩
/-- Address of RING_RET_LAST (chapter 10). -/
def Reg.RING_RET_LAST (i : Nat) : Nat := 0x400060 + 0x1000 * i
def F.RING_RET_LAST.NS (i : Nat) : Fld := ⟨Reg.RING_RET_LAST i, 19, 0⟩
/-- Address of RING_RET_MAX (chapter 10). -/
def Reg.RING_RET_MAX (i : Nat) : Nat := 0x400064 + 0x1000 * i
def F.RING_RET_MAX.NS (i : Nat) : Fld := ⟨Reg.RING_RET_MAX i, 19, 0⟩
/-- Address of RING_ERR_COUNT (chapter 10). -/
def Reg.RING_ERR_COUNT (i : Nat) : Nat := 0x400068 + 0x1000 * i
def F.RING_ERR_COUNT.XHOP_FCS (i : Nat) : Fld := ⟨Reg.RING_ERR_COUNT i, 31, 16⟩
def F.RING_ERR_COUNT.END_FCS (i : Nat) : Fld := ⟨Reg.RING_ERR_COUNT i, 15, 0⟩
/-- Address of RING_REC_COUNT (chapter 10). -/
def Reg.RING_REC_COUNT (i : Nat) : Nat := 0x40006C + 0x1000 * i
def F.RING_REC_COUNT.ONE_SIDED (i : Nat) : Fld := ⟨Reg.RING_REC_COUNT i, 31, 16⟩
def F.RING_REC_COUNT.DISCARDED (i : Nat) : Fld := ⟨Reg.RING_REC_COUNT i, 15, 0⟩
/-- Address of RING_FOLDS (chapter 10). -/
def Reg.RING_FOLDS (i : Nat) : Nat := 0x400070 + 0x1000 * i
def F.RING_FOLDS.COUNT (i : Nat) : Fld := ⟨Reg.RING_FOLDS i, 31, 0⟩
/-- Address of RING_ABSENT_LO (chapter 10). -/
def Reg.RING_ABSENT_LO (i : Nat) : Nat := 0x400074 + 0x1000 * i
def F.RING_ABSENT_LO.MAP (i : Nat) : Fld := ⟨Reg.RING_ABSENT_LO i, 31, 0⟩
/-- Address of RING_ABSENT_HI (chapter 10). -/
def Reg.RING_ABSENT_HI (i : Nat) : Nat := 0x400078 + 0x1000 * i
def F.RING_ABSENT_HI.MAP (i : Nat) : Fld := ⟨Reg.RING_ABSENT_HI i, 31, 0⟩
/-- Address of RING_ALERT_LO (chapter 10). -/
def Reg.RING_ALERT_LO (i : Nat) : Nat := 0x40007C + 0x1000 * i
def F.RING_ALERT_LO.MAP (i : Nat) : Fld := ⟨Reg.RING_ALERT_LO i, 31, 0⟩
/-- Address of RING_ALERT_HI (chapter 10). -/
def Reg.RING_ALERT_HI (i : Nat) : Nat := 0x400080 + 0x1000 * i
def F.RING_ALERT_HI.MAP (i : Nat) : Fld := ⟨Reg.RING_ALERT_HI i, 31, 0⟩
/-- Address of RING_STA_ID (chapter 10). -/
def Reg.RING_STA_ID (r s : Nat) : Nat := 0x440000 + 0x10000 * r + 0x1000 * (s / 4) + 0x100 * (s % 4) + 0x100
def F.RING_STA_ID.VENDOR (r s : Nat) : Fld := ⟨Reg.RING_STA_ID r s, 31, 16⟩
def F.RING_STA_ID.PRODUCT (r s : Nat) : Fld := ⟨Reg.RING_STA_ID r s, 15, 0⟩
/-- Address of RING_STA_LAYOUT (chapter 10). -/
def Reg.RING_STA_LAYOUT (r s : Nat) : Nat := 0x440000 + 0x10000 * r + 0x1000 * (s / 4) + 0x100 * (s % 4) + 0x104
def F.RING_STA_LAYOUT.OFFSET (r s : Nat) : Fld := ⟨Reg.RING_STA_LAYOUT r s, 28, 16⟩
def F.RING_STA_LAYOUT.LEN (r s : Nat) : Fld := ⟨Reg.RING_STA_LAYOUT r s, 12, 0⟩
/-- Address of RING_STA_IO (chapter 10). -/
def Reg.RING_STA_IO (r s : Nat) : Nat := 0x440000 + 0x10000 * r + 0x1000 * (s / 4) + 0x100 * (s % 4) + 0x108
def F.RING_STA_IO.OUT_LEN (r s : Nat) : Fld := ⟨Reg.RING_STA_IO r s, 28, 16⟩
def F.RING_STA_IO.IN_LEN (r s : Nat) : Fld := ⟨Reg.RING_STA_IO r s, 12, 0⟩
/-- Address of RING_STA_TIMING (chapter 10). -/
def Reg.RING_STA_TIMING (r s : Nat) : Nat := 0x440000 + 0x10000 * r + 0x1000 * (s / 4) + 0x100 * (s % 4) + 0x10C
def F.RING_STA_TIMING.T_RDY (r s : Nat) : Fld := ⟨Reg.RING_STA_TIMING r s, 31, 16⟩
def F.RING_STA_TIMING.HOP (r s : Nat) : Fld := ⟨Reg.RING_STA_TIMING r s, 15, 0⟩
/-- Address of RING_STA_STAT (chapter 10). -/
def Reg.RING_STA_STAT (r s : Nat) : Nat := 0x440000 + 0x10000 * r + 0x1000 * (s / 4) + 0x100 * (s % 4) + 0x110
def F.RING_STA_STAT.PRESENT (r s : Nat) : Fld := ⟨Reg.RING_STA_STAT r s, 31, 31⟩
def F.RING_STA_STAT.CAUSE (r s : Nat) : Fld := ⟨Reg.RING_STA_STAT r s, 30, 28⟩
def F.RING_STA_STAT.SSTATE (r s : Nat) : Fld := ⟨Reg.RING_STA_STAT r s, 27, 24⟩
def F.RING_STA_STAT.RX (r s : Nat) : Fld := ⟨Reg.RING_STA_STAT r s, 17, 16⟩
def F.RING_STA_STAT.OK_RUN (r s : Nat) : Fld := ⟨Reg.RING_STA_STAT r s, 15, 8⟩
def F.RING_STA_STAT.MISS (r s : Nat) : Fld := ⟨Reg.RING_STA_STAT r s, 2, 0⟩
/-- Address of RING_STA_DISC (chapter 10). -/
def Reg.RING_STA_DISC (r s : Nat) : Nat := 0x440000 + 0x10000 * r + 0x1000 * (s / 4) + 0x100 * (s % 4) + 0x114
def F.RING_STA_DISC.FRAMES (r s : Nat) : Fld := ⟨Reg.RING_STA_DISC r s, 31, 0⟩
/-- Address of RING_STA_ABSENCES (chapter 10). -/
def Reg.RING_STA_ABSENCES (r s : Nat) : Nat := 0x440000 + 0x10000 * r + 0x1000 * (s / 4) + 0x100 * (s % 4) + 0x118
def F.RING_STA_ABSENCES.RETURNS (r s : Nat) : Fld := ⟨Reg.RING_STA_ABSENCES r s, 31, 16⟩
def F.RING_STA_ABSENCES.ABSENCES (r s : Nat) : Fld := ⟨Reg.RING_STA_ABSENCES r s, 15, 0⟩
/-- Address of RING_STA_CMD (chapter 10). -/
def Reg.RING_STA_CMD (r s : Nat) : Nat := 0x440000 + 0x10000 * r + 0x1000 * (s / 4) + 0x100 * (s % 4) + 0x11C
def F.RING_STA_CMD.ABSENT (r s : Nat) : Fld := ⟨Reg.RING_STA_CMD r s, 1, 1⟩
def F.RING_STA_CMD.RETURN (r s : Nat) : Fld := ⟨Reg.RING_STA_CMD r s, 0, 0⟩
/-- Address of RING_STA_ABS_CYC_LO (chapter 10). -/
def Reg.RING_STA_ABS_CYC_LO (r s : Nat) : Nat := 0x440000 + 0x10000 * r + 0x1000 * (s / 4) + 0x100 * (s % 4) + 0x120
def F.RING_STA_ABS_CYC_LO.CYC (r s : Nat) : Fld := ⟨Reg.RING_STA_ABS_CYC_LO r s, 31, 0⟩
/-- Address of RING_STA_ABS_CYC_HI (chapter 10). -/
def Reg.RING_STA_ABS_CYC_HI (r s : Nat) : Nat := 0x440000 + 0x10000 * r + 0x1000 * (s / 4) + 0x100 * (s % 4) + 0x124
def F.RING_STA_ABS_CYC_HI.CYC (r s : Nat) : Fld := ⟨Reg.RING_STA_ABS_CYC_HI r s, 31, 0⟩
/-- Address of AIN_CTRL (chapter 11). -/
def Reg.AIN_CTRL : Nat := 0x600040
def F.AIN_CTRL.CLEAR_N : Fld := ⟨Reg.AIN_CTRL, 23, 16⟩
def F.AIN_CTRL.ACK : Fld := ⟨Reg.AIN_CTRL, 15, 15⟩
def F.AIN_CTRL.ACK_CH : Fld := ⟨Reg.AIN_CTRL, 13, 8⟩
def F.AIN_CTRL.FULL_REQ : Fld := ⟨Reg.AIN_CTRL, 0, 0⟩
/-- Address of AIN_STAT (chapter 11). -/
def Reg.AIN_STAT : Nat := 0x600044
def F.AIN_STAT.FAULTED : Fld := ⟨Reg.AIN_STAT, 31, 24⟩
def F.AIN_STAT.OPEN : Fld := ⟨Reg.AIN_STAT, 23, 16⟩
def F.AIN_STAT.FULL_REFUSED : Fld := ⟨Reg.AIN_STAT, 2, 2⟩
def F.AIN_STAT.LOWPOWER : Fld := ⟨Reg.AIN_STAT, 1, 1⟩
/-- Address of AIN_OW_CFG (chapter 11). -/
def Reg.AIN_OW_CFG : Nat := 0x600048
def F.AIN_OW_CFG.SLOT_US : Fld := ⟨Reg.AIN_OW_CFG, 31, 24⟩
def F.AIN_OW_CFG.THRESH : Fld := ⟨Reg.AIN_OW_CFG, 23, 16⟩
def F.AIN_OW_CFG.SPACING : Fld := ⟨Reg.AIN_OW_CFG, 15, 0⟩
/-- Address of AIN_OW_LAST (chapter 11). -/
def Reg.AIN_OW_LAST : Nat := 0x60004C
def F.AIN_OW_LAST.VALID : Fld := ⟨Reg.AIN_OW_LAST, 31, 31⟩
def F.AIN_OW_LAST.RESULT : Fld := ⟨Reg.AIN_OW_LAST, 30, 29⟩
def F.AIN_OW_LAST.CH : Fld := ⟨Reg.AIN_OW_LAST, 5, 0⟩
/-- Address of AIN_FAULT_LO (chapter 11). -/
def Reg.AIN_FAULT_LO : Nat := 0x600050
def F.AIN_FAULT_LO.MAP : Fld := ⟨Reg.AIN_FAULT_LO, 31, 0⟩
/-- Address of AIN_FAULT_HI (chapter 11). -/
def Reg.AIN_FAULT_HI : Nat := 0x600054
def F.AIN_FAULT_HI.MAP : Fld := ⟨Reg.AIN_FAULT_HI, 31, 0⟩
/-- Address of AIN_BAND_OUT_LO (chapter 11). -/
def Reg.AIN_BAND_OUT_LO : Nat := 0x600058
def F.AIN_BAND_OUT_LO.MAP : Fld := ⟨Reg.AIN_BAND_OUT_LO, 31, 0⟩
/-- Address of AIN_BAND_OUT_HI (chapter 11). -/
def Reg.AIN_BAND_OUT_HI : Nat := 0x60005C
def F.AIN_BAND_OUT_HI.MAP : Fld := ⟨Reg.AIN_BAND_OUT_HI, 31, 0⟩
/-- Address of AIN_DIS_COUNT (chapter 11). -/
def Reg.AIN_DIS_COUNT : Nat := 0x600060
def F.AIN_DIS_COUNT.COUNT : Fld := ⟨Reg.AIN_DIS_COUNT, 31, 0⟩
/-- Address of FI_CTRL (chapter 11). -/
def Reg.FI_CTRL : Nat := 0x600064
def F.FI_CTRL.OVR : Fld := ⟨Reg.FI_CTRL, 31, 24⟩
def F.FI_CTRL.EN : Fld := ⟨Reg.FI_CTRL, 15, 8⟩
def F.FI_CTRL.READY : Fld := ⟨Reg.FI_CTRL, 1, 1⟩
def F.FI_CTRL.RUNNING : Fld := ⟨Reg.FI_CTRL, 0, 0⟩
/-- Address of AIN_CH_CFG (chapter 11). -/
def Reg.AIN_CH_CFG (k : Nat) : Nat := 0x601100 + 0x4 * k
def F.AIN_CH_CFG.RANGE (k : Nat) : Fld := ⟨Reg.AIN_CH_CFG k, 31, 30⟩
def F.AIN_CH_CFG.SOURCE (k : Nat) : Fld := ⟨Reg.AIN_CH_CFG k, 29, 28⟩
def F.AIN_CH_CFG.GAIN (k : Nat) : Fld := ⟨Reg.AIN_CH_CFG k, 27, 26⟩
def F.AIN_CH_CFG.FILT_K (k : Nat) : Fld := ⟨Reg.AIN_CH_CFG k, 25, 24⟩
def F.AIN_CH_CFG.FILT_D (k : Nat) : Fld := ⟨Reg.AIN_CH_CFG k, 23, 20⟩
def F.AIN_CH_CFG.OW_EN (k : Nat) : Fld := ⟨Reg.AIN_CH_CFG k, 19, 19⟩
def F.AIN_CH_CFG.BAND_EN (k : Nat) : Fld := ⟨Reg.AIN_CH_CFG k, 18, 18⟩
def F.AIN_CH_CFG.TOL (k : Nat) : Fld := ⟨Reg.AIN_CH_CFG k, 15, 8⟩
/-- Address of AIN_BAND_LO (chapter 11). -/
def Reg.AIN_BAND_LO (k : Nat) : Nat := 0x601200 + 0x4 * k
def F.AIN_BAND_LO.HYS (k : Nat) : Fld := ⟨Reg.AIN_BAND_LO k, 31, 24⟩
def F.AIN_BAND_LO.BOUND (k : Nat) : Fld := ⟨Reg.AIN_BAND_LO k, 23, 0⟩
/-- Address of AIN_BAND_HI (chapter 11). -/
def Reg.AIN_BAND_HI (k : Nat) : Nat := 0x601300 + 0x4 * k
def F.AIN_BAND_HI.BOUND (k : Nat) : Fld := ⟨Reg.AIN_BAND_HI k, 23, 0⟩
/-- Address of AIN_VAL (chapter 11). -/
def Reg.AIN_VAL (k : Nat) : Nat := 0x602100 + 0x4 * k
def F.AIN_VAL.WORD (k : Nat) : Fld := ⟨Reg.AIN_VAL k, 31, 0⟩
/-- Address of AIN_RAW (chapter 11). -/
def Reg.AIN_RAW (k : Nat) : Nat := 0x602200 + 0x4 * k
def F.AIN_RAW.WORD (k : Nat) : Fld := ⟨Reg.AIN_RAW k, 31, 0⟩
/-- Address of AOUT_CFG (chapter 11). -/
def Reg.AOUT_CFG (k : Nat) : Nat := 0x603100 + 0x4 * k
def F.AOUT_CFG.RANGE (k : Nat) : Fld := ⟨Reg.AOUT_CFG k, 31, 30⟩
def F.AOUT_CFG.START (k : Nat) : Fld := ⟨Reg.AOUT_CFG k, 15, 0⟩
/-- Address of AOUT_STAT (chapter 11). -/
def Reg.AOUT_STAT (k : Nat) : Nat := 0x603200 + 0x4 * k
def F.AOUT_STAT.RB_FAULT (k : Nat) : Fld := ⟨Reg.AOUT_STAT k, 31, 31⟩
def F.AOUT_STAT.DRIVING (k : Nat) : Fld := ⟨Reg.AOUT_STAT k, 30, 30⟩
def F.AOUT_STAT.CODE (k : Nat) : Fld := ⟨Reg.AOUT_STAT k, 15, 0⟩
/-- Address of AXIS_SUMMARY (chapter 12). -/
def Reg.AXIS_SUMMARY : Nat := 0x680040
def F.AXIS_SUMMARY.FAULTED : Fld := ⟨Reg.AXIS_SUMMARY, 31, 24⟩
def F.AXIS_SUMMARY.RING : Fld := ⟨Reg.AXIS_SUMMARY, 23, 16⟩
def F.AXIS_SUMMARY.DIRECT : Fld := ⟨Reg.AXIS_SUMMARY, 7, 0⟩
/-- Address of AXIS_WIN (chapter 12). -/
def Reg.AXIS_WIN : Nat := 0x680044
def F.AXIS_WIN.ADDR : Fld := ⟨Reg.AXIS_WIN, 31, 0⟩
/-- Address of AXIS_CMD (chapter 12). -/
def Reg.AXIS_CMD (a : Nat) : Nat := if a < 16 then 0x681000 + 0x1000 * a + 0x80 else 0x690000 + 0x1000 * (a / 16) + 0x80 * (a % 16) + 0x80
def F.AXIS_CMD.CMD (a : Nat) : Fld := ⟨Reg.AXIS_CMD a, 3, 0⟩
/-- Address of AXIS_TGT_LO (chapter 12). -/
def Reg.AXIS_TGT_LO (a : Nat) : Nat := if a < 16 then 0x681000 + 0x1000 * a + 0x84 else 0x690000 + 0x1000 * (a / 16) + 0x80 * (a % 16) + 0x84
def F.AXIS_TGT_LO.TGT (a : Nat) : Fld := ⟨Reg.AXIS_TGT_LO a, 31, 0⟩
/-- Address of AXIS_TGT_HI (chapter 12). -/
def Reg.AXIS_TGT_HI (a : Nat) : Nat := if a < 16 then 0x681000 + 0x1000 * a + 0x88 else 0x690000 + 0x1000 * (a / 16) + 0x80 * (a % 16) + 0x88
def F.AXIS_TGT_HI.TGT (a : Nat) : Fld := ⟨Reg.AXIS_TGT_HI a, 31, 0⟩
/-- Address of AXIS_STAT (chapter 12). -/
def Reg.AXIS_STAT (a : Nat) : Nat := if a < 16 then 0x681000 + 0x1000 * a + 0x8C else 0x690000 + 0x1000 * (a / 16) + 0x80 * (a % 16) + 0x8C
def F.AXIS_STAT.HOME_RES (a : Nat) : Fld := ⟨Reg.AXIS_STAT a, 15, 14⟩
def F.AXIS_STAT.CMD_RES (a : Nat) : Fld := ⟨Reg.AXIS_STAT a, 13, 12⟩
def F.AXIS_STAT.LIM_STOP (a : Nat) : Fld := ⟨Reg.AXIS_STAT a, 11, 11⟩
def F.AXIS_STAT.DONE (a : Nat) : Fld := ⟨Reg.AXIS_STAT a, 10, 10⟩
def F.AXIS_STAT.HOMED (a : Nat) : Fld := ⟨Reg.AXIS_STAT a, 9, 9⟩
def F.AXIS_STAT.HOME_IN (a : Nat) : Fld := ⟨Reg.AXIS_STAT a, 8, 8⟩
def F.AXIS_STAT.LIM_POS (a : Nat) : Fld := ⟨Reg.AXIS_STAT a, 7, 7⟩
def F.AXIS_STAT.LIM_NEG (a : Nat) : Fld := ⟨Reg.AXIS_STAT a, 6, 6⟩
def F.AXIS_STAT.STATE (a : Nat) : Fld := ⟨Reg.AXIS_STAT a, 3, 0⟩
/-- Address of AXIS_POS_LO (chapter 12). -/
def Reg.AXIS_POS_LO (a : Nat) : Nat := if a < 16 then 0x681000 + 0x1000 * a + 0x90 else 0x690000 + 0x1000 * (a / 16) + 0x80 * (a % 16) + 0x90
def F.AXIS_POS_LO.POS (a : Nat) : Fld := ⟨Reg.AXIS_POS_LO a, 31, 0⟩
/-- Address of AXIS_POS_HI (chapter 12). -/
def Reg.AXIS_POS_HI (a : Nat) : Nat := if a < 16 then 0x681000 + 0x1000 * a + 0x94 else 0x690000 + 0x1000 * (a / 16) + 0x80 * (a % 16) + 0x94
def F.AXIS_POS_HI.POS (a : Nat) : Fld := ⟨Reg.AXIS_POS_HI a, 31, 0⟩
/-- Address of AXIS_FAULT (chapter 12). -/
def Reg.AXIS_FAULT (a : Nat) : Nat := if a < 16 then 0x681000 + 0x1000 * a + 0x98 else 0x690000 + 0x1000 * (a / 16) + 0x80 * (a % 16) + 0x98
def F.AXIS_FAULT.VALID (a : Nat) : Fld := ⟨Reg.AXIS_FAULT a, 31, 31⟩
def F.AXIS_FAULT.CAUSE (a : Nat) : Fld := ⟨Reg.AXIS_FAULT a, 7, 0⟩
/-- Address of AXIS_LOAD (chapter 12). -/
def Reg.AXIS_LOAD (a : Nat) : Nat := if a < 16 then 0x681000 + 0x1000 * a + 0x9C else 0x690000 + 0x1000 * (a / 16) + 0x80 * (a % 16) + 0x9C
def F.AXIS_LOAD.I_SET (a : Nat) : Fld := ⟨Reg.AXIS_LOAD a, 31, 16⟩
def F.AXIS_LOAD.LOAD (a : Nat) : Fld := ⟨Reg.AXIS_LOAD a, 15, 0⟩
/-- Address of AXIS_HW_CFG (chapter 12). -/
def Reg.AXIS_HW_CFG (i : Nat) : Nat := 0x681400 + 0x1000 * i
def F.AXIS_HW_CFG.FS_MA (i : Nat) : Fld := ⟨Reg.AXIS_HW_CFG i, 31, 16⟩
def F.AXIS_HW_CFG.I_TRIP (i : Nat) : Fld := ⟨Reg.AXIS_HW_CFG i, 15, 0⟩
/-- Address of AXIS_DUTY_DIFF (chapter 12). -/
def Reg.AXIS_DUTY_DIFF (i : Nat) : Nat := 0x681404 + 0x1000 * i
def F.AXIS_DUTY_DIFF.COUNT (i : Nat) : Fld := ⟨Reg.AXIS_DUTY_DIFF i, 31, 0⟩
/-- Address of PBUS_CTRL (chapter 13). -/
def Reg.PBUS_CTRL (i : Nat) : Nat := 0x700040 + 0x1000 * i
def F.PBUS_CTRL.EWL (i : Nat) : Fld := ⟨Reg.PBUS_CTRL i, 23, 16⟩
def F.PBUS_CTRL.RETRY_LIMIT (i : Nat) : Fld := ⟨Reg.PBUS_CTRL i, 15, 8⟩
def F.PBUS_CTRL.REC_REQ (i : Nat) : Fld := ⟨Reg.PBUS_CTRL i, 3, 3⟩
def F.PBUS_CTRL.AUTO_REC (i : Nat) : Fld := ⟨Reg.PBUS_CTRL i, 2, 2⟩
def F.PBUS_CTRL.MODE (i : Nat) : Fld := ⟨Reg.PBUS_CTRL i, 1, 0⟩
/-- Address of PBUS_STAT (chapter 13). -/
def Reg.PBUS_STAT (i : Nat) : Nat := 0x700044 + 0x1000 * i
def F.PBUS_STAT.TEC (i : Nat) : Fld := ⟨Reg.PBUS_STAT i, 31, 24⟩
def F.PBUS_STAT.REC (i : Nat) : Fld := ⟨Reg.PBUS_STAT i, 23, 16⟩
def F.PBUS_STAT.COUNTED (i : Nat) : Fld := ⟨Reg.PBUS_STAT i, 7, 7⟩
def F.PBUS_STAT.TRANSMITTER (i : Nat) : Fld := ⟨Reg.PBUS_STAT i, 6, 6⟩
def F.PBUS_STAT.WARN (i : Nat) : Fld := ⟨Reg.PBUS_STAT i, 3, 3⟩
def F.PBUS_STAT.STATE (i : Nat) : Fld := ⟨Reg.PBUS_STAT i, 2, 0⟩
/-- Address of PBUS_NOM (chapter 13). -/
def Reg.PBUS_NOM (i : Nat) : Nat := 0x700048 + 0x1000 * i
def F.PBUS_NOM.SJW (i : Nat) : Fld := ⟨Reg.PBUS_NOM i, 31, 24⟩
def F.PBUS_NOM.TSEG1 (i : Nat) : Fld := ⟨Reg.PBUS_NOM i, 23, 16⟩
def F.PBUS_NOM.TSEG2 (i : Nat) : Fld := ⟨Reg.PBUS_NOM i, 15, 8⟩
def F.PBUS_NOM.BRP (i : Nat) : Fld := ⟨Reg.PBUS_NOM i, 7, 0⟩
/-- Address of PBUS_DATA (chapter 13). -/
def Reg.PBUS_DATA (i : Nat) : Nat := 0x70004C + 0x1000 * i
def F.PBUS_DATA.SJW (i : Nat) : Fld := ⟨Reg.PBUS_DATA i, 31, 24⟩
def F.PBUS_DATA.TSEG1 (i : Nat) : Fld := ⟨Reg.PBUS_DATA i, 23, 16⟩
def F.PBUS_DATA.TSEG2 (i : Nat) : Fld := ⟨Reg.PBUS_DATA i, 15, 8⟩
def F.PBUS_DATA.BRP (i : Nat) : Fld := ⟨Reg.PBUS_DATA i, 7, 0⟩
/-- Address of PBUS_OBJ_CMD (chapter 13). -/
def Reg.PBUS_OBJ_CMD (i : Nat) : Nat := 0x700050 + 0x1000 * i
def F.PBUS_OBJ_CMD.CMD (i : Nat) : Fld := ⟨Reg.PBUS_OBJ_CMD i, 9, 8⟩
def F.PBUS_OBJ_CMD.OBJ (i : Nat) : Fld := ⟨Reg.PBUS_OBJ_CMD i, 6, 0⟩
/-- Address of PBUS_COUNT_TX (chapter 13). -/
def Reg.PBUS_COUNT_TX (i : Nat) : Nat := 0x700054 + 0x1000 * i
def F.PBUS_COUNT_TX.CANCELLED (i : Nat) : Fld := ⟨Reg.PBUS_COUNT_TX i, 31, 16⟩
def F.PBUS_COUNT_TX.SENT (i : Nat) : Fld := ⟨Reg.PBUS_COUNT_TX i, 15, 0⟩
/-- Address of PBUS_COUNT_RX (chapter 13). -/
def Reg.PBUS_COUNT_RX (i : Nat) : Nat := 0x700058 + 0x1000 * i
def F.PBUS_COUNT_RX.NO_MATCH (i : Nat) : Fld := ⟨Reg.PBUS_COUNT_RX i, 31, 16⟩
def F.PBUS_COUNT_RX.RECEIVED (i : Nat) : Fld := ⟨Reg.PBUS_COUNT_RX i, 15, 0⟩
/-- Address of PBUS_ERR (chapter 13). -/
def Reg.PBUS_ERR (i : Nat) : Nat := 0x70005C + 0x1000 * i
def F.PBUS_ERR.BUS_OFF (i : Nat) : Fld := ⟨Reg.PBUS_ERR i, 31, 16⟩
def F.PBUS_ERR.ERR_FRAMES (i : Nat) : Fld := ⟨Reg.PBUS_ERR i, 15, 0⟩
/-- Address of PBUS_WIN (chapter 13). -/
def Reg.PBUS_WIN (i : Nat) : Nat := 0x700060 + 0x1000 * i
def F.PBUS_WIN.ADDR (i : Nat) : Fld := ⟨Reg.PBUS_WIN i, 31, 0⟩
/-- Address of SAFE_STAT (chapter 14). -/
def Reg.SAFE_STAT : Nat := 0x780040
def F.SAFE_STAT.TRIPPED : Fld := ⟨Reg.SAFE_STAT, 31, 24⟩
def F.SAFE_STAT.SKS_SAFE : Fld := ⟨Reg.SAFE_STAT, 23, 16⟩
def F.SAFE_STAT.OTHER_RUN : Fld := ⟨Reg.SAFE_STAT, 4, 4⟩
def F.SAFE_STAT.TABLES_OK : Fld := ⟨Reg.SAFE_STAT, 3, 3⟩
def F.SAFE_STAT.Y_OK : Fld := ⟨Reg.SAFE_STAT, 2, 2⟩
def F.SAFE_STAT.X_OK : Fld := ⟨Reg.SAFE_STAT, 1, 1⟩
def F.SAFE_STAT.PIP_RUN : Fld := ⟨Reg.SAFE_STAT, 0, 0⟩
/-- Address of SAFE_VER (chapter 14). -/
def Reg.SAFE_VER : Nat := 0x780044
def F.SAFE_VER.STORED : Fld := ⟨Reg.SAFE_VER, 31, 16⟩
def F.SAFE_VER.RUNNING : Fld := ⟨Reg.SAFE_VER, 15, 0⟩
/-- Address of SAFE_MATRIX_ID (chapter 14). -/
def Reg.SAFE_MATRIX_ID : Nat := 0x780048
def F.SAFE_MATRIX_ID.VALUE : Fld := ⟨Reg.SAFE_MATRIX_ID, 31, 0⟩
/-- Address of SAFE_SEAL_X (chapter 14). -/
def Reg.SAFE_SEAL_X : Nat := 0x78004C
def F.SAFE_SEAL_X.VALUE : Fld := ⟨Reg.SAFE_SEAL_X, 31, 0⟩
/-- Address of SAFE_SEAL_Y (chapter 14). -/
def Reg.SAFE_SEAL_Y : Nat := 0x780050
def F.SAFE_SEAL_Y.VALUE : Fld := ⟨Reg.SAFE_SEAL_Y, 31, 0⟩
/-- Address of SAFE_BASE (chapter 14). -/
def Reg.SAFE_BASE : Nat := 0x780054
def F.SAFE_BASE.BRIDGE_B : Fld := ⟨Reg.SAFE_BASE, 3, 3⟩
def F.SAFE_BASE.BRIDGE_A : Fld := ⟨Reg.SAFE_BASE, 2, 2⟩
def F.SAFE_BASE.PRES_B : Fld := ⟨Reg.SAFE_BASE, 1, 1⟩
def F.SAFE_BASE.PRES_A : Fld := ⟨Reg.SAFE_BASE, 0, 0⟩
/-- Address of SAFE_FAULT (chapter 14). -/
def Reg.SAFE_FAULT : Nat := 0x780058
def F.SAFE_FAULT.VALID : Fld := ⟨Reg.SAFE_FAULT, 31, 31⟩
def F.SAFE_FAULT.CAUSE : Fld := ⟨Reg.SAFE_FAULT, 23, 16⟩
def F.SAFE_FAULT.INDEX : Fld := ⟨Reg.SAFE_FAULT, 15, 0⟩
/-- Address of SAFE_TRIP_COUNT (chapter 14). -/
def Reg.SAFE_TRIP_COUNT : Nat := 0x78005C
def F.SAFE_TRIP_COUNT.COUNT : Fld := ⟨Reg.SAFE_TRIP_COUNT, 31, 0⟩
/-- Address of SAFE_TEST_CFG (chapter 14). -/
def Reg.SAFE_TEST_CFG : Nat := 0x780060
def F.SAFE_TEST_CFG.INTERVAL : Fld := ⟨Reg.SAFE_TEST_CFG, 11, 0⟩
/-- Address of SAFE_DI (chapter 14). -/
def Reg.SAFE_DI (k : Nat) : Nat := 0x781040 + 0x4 * k
def F.SAFE_DI.PERMIT (k : Nat) : Fld := ⟨Reg.SAFE_DI k, 31, 0⟩
/-- Address of SAFE_SO_CMD_LO (chapter 14). -/
def Reg.SAFE_SO_CMD_LO : Nat := 0x781050
def F.SAFE_SO_CMD_LO.CMD : Fld := ⟨Reg.SAFE_SO_CMD_LO, 31, 0⟩
/-- Address of SAFE_SO_CMD_HI (chapter 14). -/
def Reg.SAFE_SO_CMD_HI : Nat := 0x781054
def F.SAFE_SO_CMD_HI.CMD : Fld := ⟨Reg.SAFE_SO_CMD_HI, 31, 0⟩
/-- Address of SAFE_SO_OUT_LO (chapter 14). -/
def Reg.SAFE_SO_OUT_LO : Nat := 0x781058
def F.SAFE_SO_OUT_LO.OUT : Fld := ⟨Reg.SAFE_SO_OUT_LO, 31, 0⟩
/-- Address of SAFE_SO_OUT_HI (chapter 14). -/
def Reg.SAFE_SO_OUT_HI : Nat := 0x78105C
def F.SAFE_SO_OUT_HI.OUT : Fld := ⟨Reg.SAFE_SO_OUT_HI, 31, 0⟩
/-- Address of SAFE_TO (chapter 14). -/
def Reg.SAFE_TO : Nat := 0x781060
def F.SAFE_TO.LINE : Fld := ⟨Reg.SAFE_TO, 31, 16⟩
def F.SAFE_TO.CMD : Fld := ⟨Reg.SAFE_TO, 15, 0⟩
/-- Address of SAFE_PAIR_LO (chapter 14). -/
def Reg.SAFE_PAIR_LO : Nat := 0x781064
def F.SAFE_PAIR_LO.FAULT : Fld := ⟨Reg.SAFE_PAIR_LO, 31, 0⟩
/-- Address of SAFE_PAIR_HI (chapter 14). -/
def Reg.SAFE_PAIR_HI : Nat := 0x781068
def F.SAFE_PAIR_HI.FAULT : Fld := ⟨Reg.SAFE_PAIR_HI, 31, 0⟩
/-- Address of SAFE_SO (chapter 14). -/
def Reg.SAFE_SO (k : Nat) : Nat := 0x781100 + 0x4 * k
def F.SAFE_SO.TRIPPED (k : Nat) : Fld := ⟨Reg.SAFE_SO k, 31, 31⟩
def F.SAFE_SO.EDM_FAULT (k : Nat) : Fld := ⟨Reg.SAFE_SO k, 30, 30⟩
def F.SAFE_SO.SW_FAULT (k : Nat) : Fld := ⟨Reg.SAFE_SO k, 29, 29⟩
def F.SAFE_SO.DELAY (k : Nat) : Fld := ⟨Reg.SAFE_SO k, 28, 28⟩
def F.SAFE_SO.SW_OK (k : Nat) : Fld := ⟨Reg.SAFE_SO k, 27, 24⟩
def F.SAFE_SO.TESTS (k : Nat) : Fld := ⟨Reg.SAFE_SO k, 15, 0⟩
/-- Address of SAFE_SKS_IN (chapter 14). -/
def Reg.SAFE_SKS_IN (k : Nat) : Nat := 0x782100 + 0x8 * k
def F.SAFE_SKS_IN.STATE (k : Nat) : Fld := ⟨Reg.SAFE_SKS_IN k, 31, 30⟩
def F.SAFE_SKS_IN.CAUSE (k : Nat) : Fld := ⟨Reg.SAFE_SKS_IN k, 29, 27⟩
def F.SAFE_SKS_IN.DATA (k : Nat) : Fld := ⟨Reg.SAFE_SKS_IN k, 23, 16⟩
def F.SAFE_SKS_IN.SEQ (k : Nat) : Fld := ⟨Reg.SAFE_SKS_IN k, 15, 0⟩
/-- Address of SAFE_SKS_IN_ERR (chapter 14). -/
def Reg.SAFE_SKS_IN_ERR (k : Nat) : Nat := 0x782104 + 0x8 * k
def F.SAFE_SKS_IN_ERR.RATE (k : Nat) : Fld := ⟨Reg.SAFE_SKS_IN_ERR k, 31, 24⟩
def F.SAFE_SKS_IN_ERR.EXPIRIES (k : Nat) : Fld := ⟨Reg.SAFE_SKS_IN_ERR k, 23, 16⟩
def F.SAFE_SKS_IN_ERR.REJECTS (k : Nat) : Fld := ⟨Reg.SAFE_SKS_IN_ERR k, 15, 0⟩
/-- Address of SAFE_SKS_OUT (chapter 14). -/
def Reg.SAFE_SKS_OUT (k : Nat) : Nat := 0x782400 + 0x4 * k
def F.SAFE_SKS_OUT.DATA (k : Nat) : Fld := ⟨Reg.SAFE_SKS_OUT k, 31, 24⟩
def F.SAFE_SKS_OUT.SEQ (k : Nat) : Fld := ⟨Reg.SAFE_SKS_OUT k, 15, 0⟩
/-- Address of SAFE_LOAD_CTRL (chapter 14). -/
def Reg.SAFE_LOAD_CTRL : Nat := 0x783040
def F.SAFE_LOAD_CTRL.ACTIVATE : Fld := ⟨Reg.SAFE_LOAD_CTRL, 1, 1⟩
def F.SAFE_LOAD_CTRL.LOAD : Fld := ⟨Reg.SAFE_LOAD_CTRL, 0, 0⟩
/-- Address of SAFE_LOAD_STAT (chapter 14). -/
def Reg.SAFE_LOAD_STAT : Nat := 0x783044
def F.SAFE_LOAD_STAT.OTHER : Fld := ⟨Reg.SAFE_LOAD_STAT, 7, 4⟩
def F.SAFE_LOAD_STAT.OWN : Fld := ⟨Reg.SAFE_LOAD_STAT, 3, 0⟩
/-- Address of SAFE_LOAD_ID (chapter 14). -/
def Reg.SAFE_LOAD_ID : Nat := 0x783048
def F.SAFE_LOAD_ID.VALUE : Fld := ⟨Reg.SAFE_LOAD_ID, 31, 0⟩
/-- Address of SAFE_LOAD_SEAL_X (chapter 14). -/
def Reg.SAFE_LOAD_SEAL_X : Nat := 0x78304C
def F.SAFE_LOAD_SEAL_X.VALUE : Fld := ⟨Reg.SAFE_LOAD_SEAL_X, 31, 0⟩
/-- Address of SAFE_LOAD_SEAL_Y (chapter 14). -/
def Reg.SAFE_LOAD_SEAL_Y : Nat := 0x783050
def F.SAFE_LOAD_SEAL_Y.VALUE : Fld := ⟨Reg.SAFE_LOAD_SEAL_Y, 31, 0⟩
/-- Address of SAFE_ACT_SX (chapter 14). -/
def Reg.SAFE_ACT_SX : Nat := 0x783054
def F.SAFE_ACT_SX.SEAL : Fld := ⟨Reg.SAFE_ACT_SX, 31, 0⟩
/-- Address of SAFE_ACT_SY (chapter 14). -/
def Reg.SAFE_ACT_SY : Nat := 0x783058
def F.SAFE_ACT_SY.SEAL : Fld := ⟨Reg.SAFE_ACT_SY, 31, 0⟩
/-- Address of SAFE_ACT_CYC_LO (chapter 14). -/
def Reg.SAFE_ACT_CYC_LO : Nat := 0x78305C
def F.SAFE_ACT_CYC_LO.CYC : Fld := ⟨Reg.SAFE_ACT_CYC_LO, 31, 0⟩
/-- Address of SAFE_ACT_CYC_HI (chapter 14). -/
def Reg.SAFE_ACT_CYC_HI : Nat := 0x783060
def F.SAFE_ACT_CYC_HI.CYC : Fld := ⟨Reg.SAFE_ACT_CYC_HI, 31, 0⟩
/-- Address of SAFE_WIN (chapter 14). -/
def Reg.SAFE_WIN : Nat := 0x783064
def F.SAFE_WIN.ADDR : Fld := ⟨Reg.SAFE_WIN, 31, 0⟩
/-- Address of CAPT_CTRL (chapter 15). -/
def Reg.CAPT_CTRL : Nat := 0x800040
def F.CAPT_CTRL.CMD : Fld := ⟨Reg.CAPT_CTRL, 1, 0⟩
/-- Address of CAPT_CFG (chapter 15). -/
def Reg.CAPT_CFG : Nat := 0x800044
def F.CAPT_CFG.RK : Fld := ⟨Reg.CAPT_CFG, 20, 16⟩
def F.CAPT_CFG.N : Fld := ⟨Reg.CAPT_CFG, 15, 12⟩
def F.CAPT_CFG.CH : Fld := ⟨Reg.CAPT_CFG, 7, 0⟩
/-- Address of CAPT_PRE (chapter 15). -/
def Reg.CAPT_PRE : Nat := 0x800048
def F.CAPT_PRE.FRAMES : Fld := ⟨Reg.CAPT_PRE, 31, 0⟩
/-- Address of CAPT_POST (chapter 15). -/
def Reg.CAPT_POST : Nat := 0x80004C
def F.CAPT_POST.FRAMES : Fld := ⟨Reg.CAPT_POST, 31, 0⟩
/-- Address of CAPT_ARM_MAX (chapter 15). -/
def Reg.CAPT_ARM_MAX : Nat := 0x800050
def F.CAPT_ARM_MAX.MS : Fld := ⟨Reg.CAPT_ARM_MAX, 31, 0⟩
/-- Address of CAPT_STAT (chapter 15). -/
def Reg.CAPT_STAT : Nat := 0x800054
def F.CAPT_STAT.END : Fld := ⟨Reg.CAPT_STAT, 31, 24⟩
def F.CAPT_STAT.SEQ : Fld := ⟨Reg.CAPT_STAT, 10, 8⟩
def F.CAPT_STAT.STATE : Fld := ⟨Reg.CAPT_STAT, 2, 0⟩
/-- Address of CAPT_TRIG_LO (chapter 15). -/
def Reg.CAPT_TRIG_LO : Nat := 0x800058
def F.CAPT_TRIG_LO.NS : Fld := ⟨Reg.CAPT_TRIG_LO, 31, 0⟩
/-- Address of CAPT_TRIG_HI (chapter 15). -/
def Reg.CAPT_TRIG_HI : Nat := 0x80005C
def F.CAPT_TRIG_HI.NS : Fld := ⟨Reg.CAPT_TRIG_HI, 31, 0⟩
/-- Address of CAPT_TRIG_FINE (chapter 15). -/
def Reg.CAPT_TRIG_FINE : Nat := 0x800060
def F.CAPT_TRIG_FINE.SUBNS : Fld := ⟨Reg.CAPT_TRIG_FINE, 31, 24⟩
def F.CAPT_TRIG_FINE.TRIG_OFS : Fld := ⟨Reg.CAPT_TRIG_FINE, 13, 0⟩
/-- Address of CAPT_AREA (chapter 15). -/
def Reg.CAPT_AREA : Nat := 0x800064
def F.CAPT_AREA.ADDR : Fld := ⟨Reg.CAPT_AREA, 31, 0⟩
/-- Address of CAPT_TU_CFG (chapter 15). -/
def Reg.CAPT_TU_CFG (k : Nat) : Nat := 0x801100 + 0x8 * k
def F.CAPT_TU_CFG.EN (k : Nat) : Fld := ⟨Reg.CAPT_TU_CFG k, 31, 31⟩
def F.CAPT_TU_CFG.MIRROR (k : Nat) : Fld := ⟨Reg.CAPT_TU_CFG k, 30, 30⟩
def F.CAPT_TU_CFG.KIND (k : Nat) : Fld := ⟨Reg.CAPT_TU_CFG k, 29, 28⟩
def F.CAPT_TU_CFG.EDGE (k : Nat) : Fld := ⟨Reg.CAPT_TU_CFG k, 27, 26⟩
def F.CAPT_TU_CFG.QUAL (k : Nat) : Fld := ⟨Reg.CAPT_TU_CFG k, 23, 16⟩
def F.CAPT_TU_CFG.CMP (k : Nat) : Fld := ⟨Reg.CAPT_TU_CFG k, 7, 7⟩
def F.CAPT_TU_CFG.SRC (k : Nat) : Fld := ⟨Reg.CAPT_TU_CFG k, 6, 0⟩
/-- Address of CAPT_TU_ARG (chapter 15). -/
def Reg.CAPT_TU_ARG (k : Nat) : Nat := 0x801104 + 0x8 * k
def F.CAPT_TU_ARG.ARG (k : Nat) : Fld := ⟨Reg.CAPT_TU_ARG k, 31, 0⟩
/-- Address of CAPT_TU_REF (chapter 15). -/
def Reg.CAPT_TU_REF (k : Nat) : Nat := 0x801400 + 0x4 * k
def F.CAPT_TU_REF.REF (k : Nat) : Fld := ⟨Reg.CAPT_TU_REF k, 31, 0⟩
/-- Address of CAPT_ST_W0 (chapter 15). -/
def Reg.CAPT_ST_W0 (k : Nat) : Nat := 0x802100 + 0x10 * k
def F.CAPT_ST_W0.A (k : Nat) : Fld := ⟨Reg.CAPT_ST_W0 k, 31, 24⟩
def F.CAPT_ST_W0.B (k : Nat) : Fld := ⟨Reg.CAPT_ST_W0 k, 23, 16⟩
def F.CAPT_ST_W0.ACTION (k : Nat) : Fld := ⟨Reg.CAPT_ST_W0 k, 15, 14⟩
def F.CAPT_ST_W0.NEXT (k : Nat) : Fld := ⟨Reg.CAPT_ST_W0 k, 13, 11⟩
def F.CAPT_ST_W0.TO_NEXT (k : Nat) : Fld := ⟨Reg.CAPT_ST_W0 k, 10, 8⟩
/-- Address of CAPT_ST_COUNT (chapter 15). -/
def Reg.CAPT_ST_COUNT (k : Nat) : Nat := 0x802104 + 0x10 * k
def F.CAPT_ST_COUNT.COUNT (k : Nat) : Fld := ⟨Reg.CAPT_ST_COUNT k, 15, 0⟩
/-- Address of CAPT_ST_HOLDOFF (chapter 15). -/
def Reg.CAPT_ST_HOLDOFF (k : Nat) : Nat := 0x802108 + 0x10 * k
def F.CAPT_ST_HOLDOFF.NS (k : Nat) : Fld := ⟨Reg.CAPT_ST_HOLDOFF k, 31, 0⟩
/-- Address of CAPT_ST_TIMEOUT (chapter 15). -/
def Reg.CAPT_ST_TIMEOUT (k : Nat) : Nat := 0x80210C + 0x10 * k
def F.CAPT_ST_TIMEOUT.US (k : Nat) : Fld := ⟨Reg.CAPT_ST_TIMEOUT k, 31, 0⟩
/-- Address of REC_CTRL (chapter 16). -/
def Reg.REC_CTRL : Nat := 0x880040
def F.REC_CTRL.CLOSE_MS : Fld := ⟨Reg.REC_CTRL, 31, 16⟩
def F.REC_CTRL.EN : Fld := ⟨Reg.REC_CTRL, 0, 0⟩
/-- Address of REC_STAT (chapter 16). -/
def Reg.REC_STAT : Nat := 0x880044
def F.REC_STAT.CODED_MBS : Fld := ⟨Reg.REC_STAT, 31, 16⟩
def F.REC_STAT.SETS : Fld := ⟨Reg.REC_STAT, 15, 4⟩
def F.REC_STAT.HALTED : Fld := ⟨Reg.REC_STAT, 3, 3⟩
/-- Address of REC_PSEQ_LO (chapter 16). -/
def Reg.REC_PSEQ_LO : Nat := 0x880048
def F.REC_PSEQ_LO.PSEQ : Fld := ⟨Reg.REC_PSEQ_LO, 31, 0⟩
/-- Address of REC_PSEQ_HI (chapter 16). -/
def Reg.REC_PSEQ_HI : Nat := 0x88004C
def F.REC_PSEQ_HI.PSEQ : Fld := ⟨Reg.REC_PSEQ_HI, 31, 0⟩
/-- Address of REC_HOLD_OLD_LO (chapter 16). -/
def Reg.REC_HOLD_OLD_LO : Nat := 0x880050
def F.REC_HOLD_OLD_LO.PSEQ : Fld := ⟨Reg.REC_HOLD_OLD_LO, 31, 0⟩
/-- Address of REC_HOLD_OLD_HI (chapter 16). -/
def Reg.REC_HOLD_OLD_HI : Nat := 0x880054
def F.REC_HOLD_OLD_HI.PSEQ : Fld := ⟨Reg.REC_HOLD_OLD_HI, 31, 0⟩
/-- Address of REC_WF_ROWS (chapter 16). -/
def Reg.REC_WF_ROWS : Nat := 0x880058
def F.REC_WF_ROWS.ROWS : Fld := ⟨Reg.REC_WF_ROWS, 31, 0⟩
/-- Address of REC_PORT_CTRL (chapter 16). -/
def Reg.REC_PORT_CTRL : Nat := 0x881040
def F.REC_PORT_CTRL.EN : Fld := ⟨Reg.REC_PORT_CTRL, 31, 31⟩
def F.REC_PORT_CTRL.LINK : Fld := ⟨Reg.REC_PORT_CTRL, 30, 30⟩
def F.REC_PORT_CTRL.UDP : Fld := ⟨Reg.REC_PORT_CTRL, 15, 0⟩
/-- Address of REC_PORT_IP (chapter 16). -/
def Reg.REC_PORT_IP : Nat := 0x881044
def F.REC_PORT_IP.ADDR : Fld := ⟨Reg.REC_PORT_IP, 31, 0⟩
/-- Address of REC_PORT_DST (chapter 16). -/
def Reg.REC_PORT_DST : Nat := 0x881048
def F.REC_PORT_DST.ADDR : Fld := ⟨Reg.REC_PORT_DST, 31, 0⟩
/-- Address of REC_PORT_SENT (chapter 16). -/
def Reg.REC_PORT_SENT : Nat := 0x88104C
def F.REC_PORT_SENT.COUNT : Fld := ⟨Reg.REC_PORT_SENT, 31, 0⟩
/-- Address of REC_PORT_SKIP (chapter 16). -/
def Reg.REC_PORT_SKIP : Nat := 0x881050
def F.REC_PORT_SKIP.COUNT : Fld := ⟨Reg.REC_PORT_SKIP, 31, 0⟩
/-- Address of REC_FLASH_STAT (chapter 16). -/
def Reg.REC_FLASH_STAT : Nat := 0x881054
def F.REC_FLASH_STAT.QUEUE_MIB : Fld := ⟨Reg.REC_FLASH_STAT, 31, 16⟩
def F.REC_FLASH_STAT.GRANTED : Fld := ⟨Reg.REC_FLASH_STAT, 0, 0⟩
/-- Address of REC_FLASH_OLD_LO (chapter 16). -/
def Reg.REC_FLASH_OLD_LO : Nat := 0x881058
def F.REC_FLASH_OLD_LO.PSEQ : Fld := ⟨Reg.REC_FLASH_OLD_LO, 31, 0⟩
/-- Address of REC_FLASH_OLD_HI (chapter 16). -/
def Reg.REC_FLASH_OLD_HI : Nat := 0x88105C
def F.REC_FLASH_OLD_HI.PSEQ : Fld := ⟨Reg.REC_FLASH_OLD_HI, 31, 0⟩
/-- Address of REC_FLASH_SKIP (chapter 16). -/
def Reg.REC_FLASH_SKIP : Nat := 0x881060
def F.REC_FLASH_SKIP.PUNNETS : Fld := ⟨Reg.REC_FLASH_SKIP, 31, 0⟩
/-- Address of LOG_HEAD_LO (chapter 16). -/
def Reg.LOG_HEAD_LO : Nat := 0x882040
def F.LOG_HEAD_LO.SEQ : Fld := ⟨Reg.LOG_HEAD_LO, 31, 0⟩
/-- Address of LOG_HEAD_HI (chapter 16). -/
def Reg.LOG_HEAD_HI : Nat := 0x882044
def F.LOG_HEAD_HI.SEQ : Fld := ⟨Reg.LOG_HEAD_HI, 31, 0⟩
/-- Address of LOG_RIND_OLD_LO (chapter 16). -/
def Reg.LOG_RIND_OLD_LO : Nat := 0x882048
def F.LOG_RIND_OLD_LO.SEQ : Fld := ⟨Reg.LOG_RIND_OLD_LO, 31, 0⟩
/-- Address of LOG_RIND_OLD_HI (chapter 16). -/
def Reg.LOG_RIND_OLD_HI : Nat := 0x88204C
def F.LOG_RIND_OLD_HI.SEQ : Fld := ⟨Reg.LOG_RIND_OLD_HI, 31, 0⟩
/-- Address of LOG_OPMS_LO (chapter 16). -/
def Reg.LOG_OPMS_LO : Nat := 0x882050
def F.LOG_OPMS_LO.MS : Fld := ⟨Reg.LOG_OPMS_LO, 31, 0⟩
/-- Address of LOG_OPMS_HI (chapter 16). -/
def Reg.LOG_OPMS_HI : Nat := 0x882054
def F.LOG_OPMS_HI.MS : Fld := ⟨Reg.LOG_OPMS_HI, 15, 0⟩
/-- Address of LOG_PCYC (chapter 16). -/
def Reg.LOG_PCYC : Nat := 0x882058
def F.LOG_PCYC.COUNT : Fld := ⟨Reg.LOG_PCYC, 31, 0⟩
/-- Address of LOG_RD_SEQ_LO (chapter 16). -/
def Reg.LOG_RD_SEQ_LO : Nat := 0x883040
def F.LOG_RD_SEQ_LO.SEQ : Fld := ⟨Reg.LOG_RD_SEQ_LO, 31, 0⟩
/-- Address of LOG_RD_SEQ_HI (chapter 16). -/
def Reg.LOG_RD_SEQ_HI : Nat := 0x883044
def F.LOG_RD_SEQ_HI.SEQ : Fld := ⟨Reg.LOG_RD_SEQ_HI, 31, 0⟩
/-- Address of LOG_RD_CTRL (chapter 16). -/
def Reg.LOG_RD_CTRL : Nat := 0x883048
def F.LOG_RD_CTRL.COUNT : Fld := ⟨Reg.LOG_RD_CTRL, 11, 2⟩
def F.LOG_RD_CTRL.COPY : Fld := ⟨Reg.LOG_RD_CTRL, 1, 1⟩
def F.LOG_RD_CTRL.GO : Fld := ⟨Reg.LOG_RD_CTRL, 0, 0⟩
/-- Address of LOG_RD_DST_LO (chapter 16). -/
def Reg.LOG_RD_DST_LO : Nat := 0x88304C
def F.LOG_RD_DST_LO.ADDR : Fld := ⟨Reg.LOG_RD_DST_LO, 31, 6⟩
/-- Address of LOG_RD_DST_HI (chapter 16). -/
def Reg.LOG_RD_DST_HI : Nat := 0x883050
def F.LOG_RD_DST_HI.ADDR : Fld := ⟨Reg.LOG_RD_DST_HI, 7, 0⟩
/-- Address of LOG_RD_STAT (chapter 16). -/
def Reg.LOG_RD_STAT : Nat := 0x883054
def F.LOG_RD_STAT.DONE_N : Fld := ⟨Reg.LOG_RD_STAT, 11, 2⟩
def F.LOG_RD_STAT.ERR : Fld := ⟨Reg.LOG_RD_STAT, 1, 1⟩
def F.LOG_RD_STAT.BUSY : Fld := ⟨Reg.LOG_RD_STAT, 0, 0⟩
/-- Address of LOG_RD_DATA (chapter 16). -/
def Reg.LOG_RD_DATA (k : Nat) : Nat := 0x883100 + 0x4 * k
def F.LOG_RD_DATA.DATA (k : Nat) : Fld := ⟨Reg.LOG_RD_DATA k, 31, 0⟩
/-- Address of WORK_SUB (chapter 17). -/
def Reg.WORK_SUB (k : Nat) : Nat := 0x900040 + 0x4 * k
def F.WORK_SUB.WORD (k : Nat) : Fld := ⟨Reg.WORK_SUB k, 31, 0⟩
/-- Address of WORK_SUB_RES (chapter 17). -/
def Reg.WORK_SUB_RES : Nat := 0x900060
def F.WORK_SUB_RES.RES : Fld := ⟨Reg.WORK_SUB_RES, 31, 30⟩
def F.WORK_SUB_RES.CANCEL : Fld := ⟨Reg.WORK_SUB_RES, 29, 28⟩
def F.WORK_SUB_RES.CODE : Fld := ⟨Reg.WORK_SUB_RES, 23, 16⟩
def F.WORK_SUB_RES.QUEUED : Fld := ⟨Reg.WORK_SUB_RES, 15, 0⟩
/-- Address of WORK_CANCEL_LO (chapter 17). -/
def Reg.WORK_CANCEL_LO : Nat := 0x900064
def F.WORK_CANCEL_LO.ID : Fld := ⟨Reg.WORK_CANCEL_LO, 31, 0⟩
/-- Address of WORK_CANCEL_HI (chapter 17). -/
def Reg.WORK_CANCEL_HI : Nat := 0x900068
def F.WORK_CANCEL_HI.ID : Fld := ⟨Reg.WORK_CANCEL_HI, 31, 0⟩
/-- Address of WORK_STAT (chapter 17). -/
def Reg.WORK_STAT : Nat := 0x90006C
def F.WORK_STAT.DELAYED : Fld := ⟨Reg.WORK_STAT, 31, 16⟩
def F.WORK_STAT.BOOST : Fld := ⟨Reg.WORK_STAT, 7, 7⟩
def F.WORK_STAT.BUSY : Fld := ⟨Reg.WORK_STAT, 4, 0⟩
/-- Address of WORK_BOOST (chapter 17). -/
def Reg.WORK_BOOST : Nat := 0x900070
def F.WORK_BOOST.IDLE_MS : Fld := ⟨Reg.WORK_BOOST, 31, 16⟩
def F.WORK_BOOST.WAIT_US : Fld := ⟨Reg.WORK_BOOST, 15, 0⟩
/-- Address of WORK_COUNT (chapter 17). -/
def Reg.WORK_COUNT : Nat := 0x900074
def F.WORK_COUNT.REFUSED : Fld := ⟨Reg.WORK_COUNT, 31, 16⟩
def F.WORK_COUNT.DONE : Fld := ⟨Reg.WORK_COUNT, 15, 0⟩
/-- Address of WORK_TRC_CTRL (chapter 17). -/
def Reg.WORK_TRC_CTRL : Nat := 0x900078
def F.WORK_TRC_CTRL.FLOW : Fld := ⟨Reg.WORK_TRC_CTRL, 31, 20⟩
def F.WORK_TRC_CTRL.WRAP : Fld := ⟨Reg.WORK_TRC_CTRL, 6, 6⟩
def F.WORK_TRC_CTRL.MODE : Fld := ⟨Reg.WORK_TRC_CTRL, 0, 0⟩
/-- Address of WORK_TRC_BASE_LO (chapter 17). -/
def Reg.WORK_TRC_BASE_LO : Nat := 0x90007C
def F.WORK_TRC_BASE_LO.VALUE : Fld := ⟨Reg.WORK_TRC_BASE_LO, 31, 0⟩
/-- Address of WORK_TRC_BASE_HI (chapter 17). -/
def Reg.WORK_TRC_BASE_HI : Nat := 0x900080
def F.WORK_TRC_BASE_HI.VALUE : Fld := ⟨Reg.WORK_TRC_BASE_HI, 31, 0⟩
/-- Address of WORK_TRC_SIZE (chapter 17). -/
def Reg.WORK_TRC_SIZE : Nat := 0x900084
def F.WORK_TRC_SIZE.VALUE : Fld := ⟨Reg.WORK_TRC_SIZE, 31, 0⟩
/-- Address of WORK_TRC_WPTR (chapter 17). -/
def Reg.WORK_TRC_WPTR : Nat := 0x900088
def F.WORK_TRC_WPTR.VALUE : Fld := ⟨Reg.WORK_TRC_WPTR, 31, 0⟩
/-- Address of WORK_CORE_STAT (chapter 17). -/
def Reg.WORK_CORE_STAT (i : Nat) : Nat := 0x901040 + 0x1000 * i
def F.WORK_CORE_STAT.FUNC (i : Nat) : Fld := ⟨Reg.WORK_CORE_STAT i, 31, 16⟩
def F.WORK_CORE_STAT.FLOW (i : Nat) : Fld := ⟨Reg.WORK_CORE_STAT i, 15, 4⟩
def F.WORK_CORE_STAT.STATE (i : Nat) : Fld := ⟨Reg.WORK_CORE_STAT i, 1, 0⟩
/-- Address of WORK_CORE_ID_LO (chapter 17). -/
def Reg.WORK_CORE_ID_LO (i : Nat) : Nat := 0x901044 + 0x1000 * i
def F.WORK_CORE_ID_LO.ID (i : Nat) : Fld := ⟨Reg.WORK_CORE_ID_LO i, 31, 0⟩
/-- Address of WORK_CORE_ID_HI (chapter 17). -/
def Reg.WORK_CORE_ID_HI (i : Nat) : Nat := 0x901048 + 0x1000 * i
def F.WORK_CORE_ID_HI.ID (i : Nat) : Fld := ⟨Reg.WORK_CORE_ID_HI i, 31, 0⟩
/-- Address of FIFO_CFG (chapter 17). -/
def Reg.FIFO_CFG (f : Nat) : Nat := 0x980000 + 0x1000 * (f / 16) + 0x40 * (f % 16) + 0x100
def F.FIFO_CFG.EN (f : Nat) : Fld := ⟨Reg.FIFO_CFG f, 31, 31⟩
def F.FIFO_CFG.DEPTH (f : Nat) : Fld := ⟨Reg.FIFO_CFG f, 30, 26⟩
def F.FIFO_CFG.PRODUCER (f : Nat) : Fld := ⟨Reg.FIFO_CFG f, 23, 16⟩
def F.FIFO_CFG.CONSUMER (f : Nat) : Fld := ⟨Reg.FIFO_CFG f, 15, 8⟩
def F.FIFO_CFG.FLUSH_US (f : Nat) : Fld := ⟨Reg.FIFO_CFG f, 7, 0⟩
/-- Address of FIFO_STAT (chapter 17). -/
def Reg.FIFO_STAT (f : Nat) : Nat := 0x980000 + 0x1000 * (f / 16) + 0x40 * (f % 16) + 0x104
def F.FIFO_STAT.LEVEL (f : Nat) : Fld := ⟨Reg.FIFO_STAT f, 31, 15⟩
def F.FIFO_STAT.HELD (f : Nat) : Fld := ⟨Reg.FIFO_STAT f, 12, 9⟩
def F.FIFO_STAT.WF_PEND (f : Nat) : Fld := ⟨Reg.FIFO_STAT f, 2, 2⟩
def F.FIFO_STAT.FULL (f : Nat) : Fld := ⟨Reg.FIFO_STAT f, 1, 1⟩
def F.FIFO_STAT.EMPTY (f : Nat) : Fld := ⟨Reg.FIFO_STAT f, 0, 0⟩
/-- Address of FIFO_WR (chapter 17). -/
def Reg.FIFO_WR (f : Nat) : Nat := 0x980000 + 0x1000 * (f / 16) + 0x40 * (f % 16) + 0x108
def F.FIFO_WR.DATA (f : Nat) : Fld := ⟨Reg.FIFO_WR f, 31, 0⟩
/-- Address of FIFO_WR_TAIL (chapter 17). -/
def Reg.FIFO_WR_TAIL (f : Nat) : Nat := 0x980000 + 0x1000 * (f / 16) + 0x40 * (f % 16) + 0x10C
def F.FIFO_WR_TAIL.VB (f : Nat) : Fld := ⟨Reg.FIFO_WR_TAIL f, 2, 0⟩
/-- Address of FIFO_WR_END (chapter 17). -/
def Reg.FIFO_WR_END (f : Nat) : Nat := 0x980000 + 0x1000 * (f / 16) + 0x40 * (f % 16) + 0x110
def F.FIFO_WR_END.DATA (f : Nat) : Fld := ⟨Reg.FIFO_WR_END f, 31, 0⟩
/-- Address of FIFO_DROP (chapter 17). -/
def Reg.FIFO_DROP (f : Nat) : Nat := 0x980000 + 0x1000 * (f / 16) + 0x40 * (f % 16) + 0x114
def F.FIFO_DROP.WORDS (f : Nat) : Fld := ⟨Reg.FIFO_DROP f, 31, 0⟩
/-- Address of FIFO_WM (chapter 17). -/
def Reg.FIFO_WM (f : Nat) : Nat := 0x980000 + 0x1000 * (f / 16) + 0x40 * (f % 16) + 0x118
def F.FIFO_WM.LEVEL (f : Nat) : Fld := ⟨Reg.FIFO_WM f, 16, 0⟩
/-- Address of FIFO_RD_0 (chapter 17). -/
def Reg.FIFO_RD_0 (f : Nat) : Nat := 0x980000 + 0x1000 * (f / 16) + 0x40 * (f % 16) + 0x120
def F.FIFO_RD_0.WORD (f : Nat) : Fld := ⟨Reg.FIFO_RD_0 f, 31, 0⟩
/-- Address of FIFO_RD_1 (chapter 17). -/
def Reg.FIFO_RD_1 (f : Nat) : Nat := 0x980000 + 0x1000 * (f / 16) + 0x40 * (f % 16) + 0x124
def F.FIFO_RD_1.WORD (f : Nat) : Fld := ⟨Reg.FIFO_RD_1 f, 31, 0⟩
/-- Address of FIFO_RD_2 (chapter 17). -/
def Reg.FIFO_RD_2 (f : Nat) : Nat := 0x980000 + 0x1000 * (f / 16) + 0x40 * (f % 16) + 0x128
def F.FIFO_RD_2.WORD (f : Nat) : Fld := ⟨Reg.FIFO_RD_2 f, 31, 0⟩
/-- Address of FIFO_RD_3 (chapter 17). -/
def Reg.FIFO_RD_3 (f : Nat) : Nat := 0x980000 + 0x1000 * (f / 16) + 0x40 * (f % 16) + 0x12C
def F.FIFO_RD_3.WORD (f : Nat) : Fld := ⟨Reg.FIFO_RD_3 f, 31, 0⟩
/-- Address of IRQ_STAT (chapter 18). -/
def Reg.IRQ_STAT : Nat := 0xA00040
def F.IRQ_STAT.FALLBACKS : Fld := ⟨Reg.IRQ_STAT, 31, 16⟩
def F.IRQ_STAT.UNDELIVERED : Fld := ⟨Reg.IRQ_STAT, 15, 0⟩
/-- Address of IRQ_TGT_STAT (chapter 18). -/
def Reg.IRQ_TGT_STAT (k : Nat) : Nat := 0xA00100 + 0x4 * k
def F.IRQ_TGT_STAT.WAKE_PEND (k : Nat) : Fld := ⟨Reg.IRQ_TGT_STAT k, 1, 1⟩
def F.IRQ_TGT_STAT.AWAKE (k : Nat) : Fld := ⟨Reg.IRQ_TGT_STAT k, 0, 0⟩
/-- Address of IRQ_PEND (chapter 18). -/
def Reg.IRQ_PEND (k : Nat) : Nat := 0xA01100 + 0x4 * k
def F.IRQ_PEND.PEND (k : Nat) : Fld := ⟨Reg.IRQ_PEND k, 31, 0⟩
/-- Address of IRQ_SET (chapter 18). -/
def Reg.IRQ_SET (k : Nat) : Nat := 0xA01200 + 0x4 * k
def F.IRQ_SET.SET (k : Nat) : Fld := ⟨Reg.IRQ_SET k, 31, 0⟩
/-- Address of IRQ_LOST (chapter 18). -/
def Reg.IRQ_LOST (k : Nat) : Nat := 0xA01300 + 0x4 * k
def F.IRQ_LOST.LOST (k : Nat) : Fld := ⟨Reg.IRQ_LOST k, 31, 0⟩
/-- Address of IRQ_LEVEL (chapter 18). -/
def Reg.IRQ_LEVEL (k : Nat) : Nat := 0xA01400 + 0x4 * k
def F.IRQ_LEVEL.LEVEL (k : Nat) : Fld := ⟨Reg.IRQ_LEVEL k, 31, 0⟩
/-- Address of IRQ_MASK (chapter 18). -/
def Reg.IRQ_MASK (k : Nat) : Nat := 0xA02100 + 0x4 * k
def F.IRQ_MASK.MASK (k : Nat) : Fld := ⟨Reg.IRQ_MASK k, 31, 0⟩
/-- Address of IRQ_ROUTE (chapter 18). -/
def Reg.IRQ_ROUTE (s : Nat) : Nat := 0xA03400 + 0x1000 * (s / 256) + 4 * (s % 256)
def F.IRQ_ROUTE.FALLBACK (s : Nat) : Fld := ⟨Reg.IRQ_ROUTE s, 20, 16⟩
def F.IRQ_ROUTE.TARGET (s : Nat) : Fld := ⟨Reg.IRQ_ROUTE s, 12, 8⟩
def F.IRQ_ROUTE.VEC (s : Nat) : Fld := ⟨Reg.IRQ_ROUTE s, 4, 0⟩
/-- Address of IRQ_TGT_SUM (chapter 18). -/
def Reg.IRQ_TGT_SUM (k : Nat) : Nat := 0xA07100 + 0x4 * k
def F.IRQ_TGT_SUM.WORDS (k : Nat) : Fld := ⟨Reg.IRQ_TGT_SUM k, 31, 0⟩
/-- Address of DMA_ENG_STAT (chapter 18). -/
def Reg.DMA_ENG_STAT : Nat := 0xA80040
def F.DMA_ENG_STAT.HALTED : Fld := ⟨Reg.DMA_ENG_STAT, 31, 24⟩
def F.DMA_ENG_STAT.RUNNING : Fld := ⟨Reg.DMA_ENG_STAT, 7, 0⟩
/-- Address of DMA_CH_CFG (chapter 18). -/
def Reg.DMA_CH_CFG (i : Nat) : Nat := 0xA81040 + 0x1000 * i
def F.DMA_CH_CFG.CHAIN_LIMIT (i : Nat) : Fld := ⟨Reg.DMA_CH_CFG i, 31, 16⟩
def F.DMA_CH_CFG.NS_PERMIT (i : Nat) : Fld := ⟨Reg.DMA_CH_CFG i, 0, 0⟩
/-- Address of DMA_CH_CTRL (chapter 18). -/
def Reg.DMA_CH_CTRL (i : Nat) : Nat := 0xA81044 + 0x1000 * i
def F.DMA_CH_CTRL.ABORT (i : Nat) : Fld := ⟨Reg.DMA_CH_CTRL i, 3, 3⟩
def F.DMA_CH_CTRL.RESUME (i : Nat) : Fld := ⟨Reg.DMA_CH_CTRL i, 2, 2⟩
def F.DMA_CH_CTRL.PAUSE (i : Nat) : Fld := ⟨Reg.DMA_CH_CTRL i, 1, 1⟩
def F.DMA_CH_CTRL.DOORBELL (i : Nat) : Fld := ⟨Reg.DMA_CH_CTRL i, 0, 0⟩
/-- Address of DMA_CH_STAT (chapter 18). -/
def Reg.DMA_CH_STAT (i : Nat) : Nat := 0xA81048 + 0x1000 * i
def F.DMA_CH_STAT.OWNER (i : Nat) : Fld := ⟨Reg.DMA_CH_STAT i, 26, 24⟩
def F.DMA_CH_STAT.SH_PEND (i : Nat) : Fld := ⟨Reg.DMA_CH_STAT i, 8, 8⟩
def F.DMA_CH_STAT.STATE (i : Nat) : Fld := ⟨Reg.DMA_CH_STAT i, 2, 0⟩
/-- Address of DMA_CH_HALT (chapter 18). -/
def Reg.DMA_CH_HALT (i : Nat) : Nat := 0xA8104C + 0x1000 * i
def F.DMA_CH_HALT.SIDE (i : Nat) : Fld := ⟨Reg.DMA_CH_HALT i, 10, 9⟩
def F.DMA_CH_HALT.DIR (i : Nat) : Fld := ⟨Reg.DMA_CH_HALT i, 8, 8⟩
def F.DMA_CH_HALT.CAUSE (i : Nat) : Fld := ⟨Reg.DMA_CH_HALT i, 7, 0⟩
/-- Address of DMA_CH_FAIL_LO (chapter 18). -/
def Reg.DMA_CH_FAIL_LO (i : Nat) : Nat := 0xA81050 + 0x1000 * i
def F.DMA_CH_FAIL_LO.ADDR (i : Nat) : Fld := ⟨Reg.DMA_CH_FAIL_LO i, 31, 0⟩
/-- Address of DMA_CH_FAIL_HI (chapter 18). -/
def Reg.DMA_CH_FAIL_HI (i : Nat) : Nat := 0xA81054 + 0x1000 * i
def F.DMA_CH_FAIL_HI.ADDR (i : Nat) : Fld := ⟨Reg.DMA_CH_FAIL_HI i, 31, 0⟩
/-- Address of DMA_CH_SH_W (chapter 18). -/
def Reg.DMA_CH_SH_W (i : Nat) (k : Nat) : Nat := 0xA81060 + 0x1000 * i + 0x4 * k
def F.DMA_CH_SH_W.WORD (i : Nat) (k : Nat) : Fld := ⟨Reg.DMA_CH_SH_W i k, 31, 0⟩
/-- Address of DMA_CH_CUR_SRC_LO (chapter 18). -/
def Reg.DMA_CH_CUR_SRC_LO (i : Nat) : Nat := 0xA81080 + 0x1000 * i
def F.DMA_CH_CUR_SRC_LO.ADDR (i : Nat) : Fld := ⟨Reg.DMA_CH_CUR_SRC_LO i, 31, 0⟩
/-- Address of DMA_CH_CUR_SRC_HI (chapter 18). -/
def Reg.DMA_CH_CUR_SRC_HI (i : Nat) : Nat := 0xA81084 + 0x1000 * i
def F.DMA_CH_CUR_SRC_HI.ADDR (i : Nat) : Fld := ⟨Reg.DMA_CH_CUR_SRC_HI i, 31, 0⟩
/-- Address of DMA_CH_CUR_DST_LO (chapter 18). -/
def Reg.DMA_CH_CUR_DST_LO (i : Nat) : Nat := 0xA81088 + 0x1000 * i
def F.DMA_CH_CUR_DST_LO.ADDR (i : Nat) : Fld := ⟨Reg.DMA_CH_CUR_DST_LO i, 31, 0⟩
/-- Address of DMA_CH_CUR_DST_HI (chapter 18). -/
def Reg.DMA_CH_CUR_DST_HI (i : Nat) : Nat := 0xA8108C + 0x1000 * i
def F.DMA_CH_CUR_DST_HI.ADDR (i : Nat) : Fld := ⟨Reg.DMA_CH_CUR_DST_HI i, 31, 0⟩
/-- Address of DMA_CH_CUR_DESC_LO (chapter 18). -/
def Reg.DMA_CH_CUR_DESC_LO (i : Nat) : Nat := 0xA81094 + 0x1000 * i
def F.DMA_CH_CUR_DESC_LO.ADDR (i : Nat) : Fld := ⟨Reg.DMA_CH_CUR_DESC_LO i, 31, 0⟩
/-- Address of DMA_CH_CUR_DESC_HI (chapter 18). -/
def Reg.DMA_CH_CUR_DESC_HI (i : Nat) : Nat := 0xA81098 + 0x1000 * i
def F.DMA_CH_CUR_DESC_HI.ADDR (i : Nat) : Fld := ⟨Reg.DMA_CH_CUR_DESC_HI i, 31, 0⟩
/-- Address of DMA_CH_REMAIN (chapter 18). -/
def Reg.DMA_CH_REMAIN (i : Nat) : Nat := 0xA81090 + 0x1000 * i
def F.DMA_CH_REMAIN.BYTES (i : Nat) : Fld := ⟨Reg.DMA_CH_REMAIN i, 31, 0⟩
/-- Address of DMA_CH_RUN (chapter 18). -/
def Reg.DMA_CH_RUN (i : Nat) : Nat := 0xA8109C + 0x1000 * i
def F.DMA_CH_RUN.DESCS (i : Nat) : Fld := ⟨Reg.DMA_CH_RUN i, 31, 16⟩
def F.DMA_CH_RUN.HOLD (i : Nat) : Fld := ⟨Reg.DMA_CH_RUN i, 6, 0⟩
/-- Address of HOST_PCIE_STAT (chapter 19). -/
def Reg.HOST_PCIE_STAT : Nat := 0xB00040
def F.HOST_PCIE_STAT.WIDTH : Fld := ⟨Reg.HOST_PCIE_STAT, 11, 8⟩
def F.HOST_PCIE_STAT.SPEED : Fld := ⟨Reg.HOST_PCIE_STAT, 7, 5⟩
def F.HOST_PCIE_STAT.DSTATE : Fld := ⟨Reg.HOST_PCIE_STAT, 4, 3⟩
def F.HOST_PCIE_STAT.BME : Fld := ⟨Reg.HOST_PCIE_STAT, 2, 2⟩
def F.HOST_PCIE_STAT.BOUND : Fld := ⟨Reg.HOST_PCIE_STAT, 1, 1⟩
def F.HOST_PCIE_STAT.LINK : Fld := ⟨Reg.HOST_PCIE_STAT, 0, 0⟩
/-- Address of HOST_PCIE_CFG (chapter 19). -/
def Reg.HOST_PCIE_CFG : Nat := 0xB00044
def F.HOST_PCIE_CFG.SEAT : Fld := ⟨Reg.HOST_PCIE_CFG, 2, 0⟩
/-- Address of HOST_PCIE_ID (chapter 19). -/
def Reg.HOST_PCIE_ID : Nat := 0xB00048
def F.HOST_PCIE_ID.DEVICE : Fld := ⟨Reg.HOST_PCIE_ID, 31, 16⟩
def F.HOST_PCIE_ID.VENDOR : Fld := ⟨Reg.HOST_PCIE_ID, 15, 0⟩
/-- Address of HOST_MIR_PCIE_A (chapter 19). -/
def Reg.HOST_MIR_PCIE_A : Nat := 0xB0004C
def F.HOST_MIR_PCIE_A.COUNT : Fld := ⟨Reg.HOST_MIR_PCIE_A, 31, 0⟩
/-- Address of HOST_MIR_PCIE_B (chapter 19). -/
def Reg.HOST_MIR_PCIE_B : Nat := 0xB00050
def F.HOST_MIR_PCIE_B.COUNT : Fld := ⟨Reg.HOST_MIR_PCIE_B, 31, 0⟩
/-- Address of HOST_HALT (chapter 19). -/
def Reg.HOST_HALT : Nat := 0xB00054
def F.HOST_HALT.COUNT : Fld := ⟨Reg.HOST_HALT, 31, 16⟩
def F.HOST_HALT.ACTIVE : Fld := ⟨Reg.HOST_HALT, 2, 2⟩
def F.HOST_HALT.PIN : Fld := ⟨Reg.HOST_HALT, 1, 1⟩
def F.HOST_HALT.SOFT : Fld := ⟨Reg.HOST_HALT, 0, 0⟩
/-- Address of HOST_HAP_IP (chapter 19). -/
def Reg.HOST_HAP_IP : Nat := 0xB01040
def F.HOST_HAP_IP.ADDR : Fld := ⟨Reg.HOST_HAP_IP, 31, 0⟩
/-- Address of HOST_HAP_CFG (chapter 19). -/
def Reg.HOST_HAP_CFG : Nat := 0xB01044
def F.HOST_HAP_CFG.IDLE_S : Fld := ⟨Reg.HOST_HAP_CFG, 31, 16⟩
def F.HOST_HAP_CFG.VID : Fld := ⟨Reg.HOST_HAP_CFG, 11, 0⟩
/-- Address of HOST_HAP_COUNT (chapter 19). -/
def Reg.HOST_HAP_COUNT : Nat := 0xB01048
def F.HOST_HAP_COUNT.TAG_FAIL : Fld := ⟨Reg.HOST_HAP_COUNT, 31, 16⟩
def F.HOST_HAP_COUNT.DROPPED : Fld := ⟨Reg.HOST_HAP_COUNT, 15, 0⟩
/-- Address of HOST_HAP_SESS (chapter 19). -/
def Reg.HOST_HAP_SESS (k : Nat) : Nat := 0xB01080 + 0x4 * k
def F.HOST_HAP_SESS.ACTIVE (k : Nat) : Fld := ⟨Reg.HOST_HAP_SESS k, 31, 31⟩
def F.HOST_HAP_SESS.SESSION (k : Nat) : Fld := ⟨Reg.HOST_HAP_SESS k, 23, 0⟩
/-- Address of HOST_TR_STAT (chapter 19). -/
def Reg.HOST_TR_STAT : Nat := 0xB02040
def F.HOST_TR_STAT.NODES : Fld := ⟨Reg.HOST_TR_STAT, 31, 16⟩
def F.HOST_TR_STAT.RELAY : Fld := ⟨Reg.HOST_TR_STAT, 2, 2⟩
def F.HOST_TR_STAT.XHOP : Fld := ⟨Reg.HOST_TR_STAT, 1, 1⟩
def F.HOST_TR_STAT.LINK : Fld := ⟨Reg.HOST_TR_STAT, 0, 0⟩
/-- Address of HOST_TR_DUP (chapter 19). -/
def Reg.HOST_TR_DUP : Nat := 0xB02044
def F.HOST_TR_DUP.COUNT : Fld := ⟨Reg.HOST_TR_DUP, 31, 0⟩
/-- Address of HOST_SEC_STAT (chapter 19). -/
def Reg.HOST_SEC_STAT : Nat := 0xB03040
def F.HOST_SEC_STAT.FUSED : Fld := ⟨Reg.HOST_SEC_STAT, 31, 24⟩
def F.HOST_SEC_STAT.RUNNING : Fld := ⟨Reg.HOST_SEC_STAT, 23, 16⟩
def F.HOST_SEC_STAT.BANK : Fld := ⟨Reg.HOST_SEC_STAT, 1, 1⟩
def F.HOST_SEC_STAT.KEY : Fld := ⟨Reg.HOST_SEC_STAT, 0, 0⟩
/-- Address of HOST_SEC_IMGVER (chapter 19). -/
def Reg.HOST_SEC_IMGVER : Nat := 0xB03044
def F.HOST_SEC_IMGVER.VERSION : Fld := ⟨Reg.HOST_SEC_IMGVER, 31, 0⟩
/-- Address of HOST_SEC_CTRL (chapter 19). -/
def Reg.HOST_SEC_CTRL : Nat := 0xB03048
def F.HOST_SEC_CTRL.KEY_CHG : Fld := ⟨Reg.HOST_SEC_CTRL, 1, 1⟩
def F.HOST_SEC_CTRL.COMMIT_SVN : Fld := ⟨Reg.HOST_SEC_CTRL, 0, 0⟩
/-- Address of MEMI_SCRUB (chapter 19). -/
def Reg.MEMI_SCRUB : Nat := 0xB80040
def F.MEMI_SCRUB.PASSES : Fld := ⟨Reg.MEMI_SCRUB, 31, 16⟩
def F.MEMI_SCRUB.PROGRESS : Fld := ⟨Reg.MEMI_SCRUB, 9, 0⟩
/-- Address of MEMI_CORR (chapter 19). -/
def Reg.MEMI_CORR : Nat := 0xB80044
def F.MEMI_CORR.COUNT : Fld := ⟨Reg.MEMI_CORR, 31, 0⟩
/-- Address of MEMI_UNCORR (chapter 19). -/
def Reg.MEMI_UNCORR : Nat := 0xB80048
def F.MEMI_UNCORR.COUNT : Fld := ⟨Reg.MEMI_UNCORR, 31, 0⟩
/-- Address of MEMI_LAST (chapter 19). -/
def Reg.MEMI_LAST : Nat := 0xB8004C
def F.MEMI_LAST.VALID : Fld := ⟨Reg.MEMI_LAST, 31, 31⟩
def F.MEMI_LAST.REGION : Fld := ⟨Reg.MEMI_LAST, 30, 27⟩
def F.MEMI_LAST.BYTES : Fld := ⟨Reg.MEMI_LAST, 7, 0⟩
/-- Address of MEMI_LAST_ADDR (chapter 19). -/
def Reg.MEMI_LAST_ADDR : Nat := 0xB80050
def F.MEMI_LAST_ADDR.INDEX : Fld := ⟨Reg.MEMI_LAST_ADDR, 31, 0⟩
/-- Address of MEMI_INJ (chapter 19). -/
def Reg.MEMI_INJ : Nat := 0xB80054
def F.MEMI_INJ.BYTES : Fld := ⟨Reg.MEMI_INJ, 7, 0⟩
/-- Address of MEMI_DIE_CORR (chapter 19). -/
def Reg.MEMI_DIE_CORR : Nat := 0xB81040
def F.MEMI_DIE_CORR.SECDED : Fld := ⟨Reg.MEMI_DIE_CORR, 31, 16⟩
def F.MEMI_DIE_CORR.RS : Fld := ⟨Reg.MEMI_DIE_CORR, 15, 0⟩

/-! The fields of the common header, on the page `p` (R24). -/

/-- Address of BLK_ID on page `p` (R24). -/
def Reg.BLK_ID (p : Nat) : Nat := 0x1000 * p + 0x0
def F.BLK_ID.PAGE (p : Nat) : Fld := ⟨Reg.BLK_ID p, 31, 24⟩
def F.BLK_ID.INSTANCE (p : Nat) : Fld := ⟨Reg.BLK_ID p, 23, 16⟩
def F.BLK_ID.TYPE (p : Nat) : Fld := ⟨Reg.BLK_ID p, 15, 0⟩
/-- Address of BLK_VER on page `p` (R24). -/
def Reg.BLK_VER (p : Nat) : Nat := 0x1000 * p + 0x4
def F.BLK_VER.MAJOR (p : Nat) : Fld := ⟨Reg.BLK_VER p, 31, 24⟩
def F.BLK_VER.MINOR (p : Nat) : Fld := ⟨Reg.BLK_VER p, 23, 16⟩
/-- Address of BLK_CTRL on page `p` (R24). -/
def Reg.BLK_CTRL (p : Nat) : Nat := 0x1000 * p + 0x8
def F.BLK_CTRL.PROFILE_LOCK (p : Nat) : Fld := ⟨Reg.BLK_CTRL p, 3, 3⟩
def F.BLK_CTRL.SOFT_RESET (p : Nat) : Fld := ⟨Reg.BLK_CTRL p, 2, 2⟩
def F.BLK_CTRL.FREEZE (p : Nat) : Fld := ⟨Reg.BLK_CTRL p, 1, 1⟩
def F.BLK_CTRL.ENABLE (p : Nat) : Fld := ⟨Reg.BLK_CTRL p, 0, 0⟩
/-- Address of BLK_STAT on page `p` (R24). -/
def Reg.BLK_STAT (p : Nat) : Nat := 0x1000 * p + 0xC
def F.BLK_STAT.BLOCK (p : Nat) : Fld := ⟨Reg.BLK_STAT p, 31, 16⟩
def F.BLK_STAT.KEY_OPEN (p : Nat) : Fld := ⟨Reg.BLK_STAT p, 4, 4⟩
def F.BLK_STAT.ERR (p : Nat) : Fld := ⟨Reg.BLK_STAT p, 3, 3⟩
def F.BLK_STAT.RESET_BUSY (p : Nat) : Fld := ⟨Reg.BLK_STAT p, 2, 2⟩
def F.BLK_STAT.FROZEN (p : Nat) : Fld := ⟨Reg.BLK_STAT p, 1, 1⟩
def F.BLK_STAT.RUNNING (p : Nat) : Fld := ⟨Reg.BLK_STAT p, 0, 0⟩
/-- Address of EV_PEND on page `p` (R24). -/
def Reg.EV_PEND (p : Nat) : Nat := 0x1000 * p + 0x10
def F.EV_PEND.VIOL (p : Nat) : Fld := ⟨Reg.EV_PEND p, 31, 31⟩
def F.EV_PEND.ERR (p : Nat) : Fld := ⟨Reg.EV_PEND p, 30, 30⟩
def F.EV_PEND.BLOCK (p : Nat) : Fld := ⟨Reg.EV_PEND p, 23, 0⟩
/-- Address of EV_MASK on page `p` (R24). -/
def Reg.EV_MASK (p : Nat) : Nat := 0x1000 * p + 0x14
def F.EV_MASK.VIOL (p : Nat) : Fld := ⟨Reg.EV_MASK p, 31, 31⟩
def F.EV_MASK.ERR (p : Nat) : Fld := ⟨Reg.EV_MASK p, 30, 30⟩
def F.EV_MASK.BLOCK (p : Nat) : Fld := ⟨Reg.EV_MASK p, 23, 0⟩
/-- Address of EV_SET on page `p` (R24). -/
def Reg.EV_SET (p : Nat) : Nat := 0x1000 * p + 0x18
def F.EV_SET.VIOL (p : Nat) : Fld := ⟨Reg.EV_SET p, 31, 31⟩
def F.EV_SET.ERR (p : Nat) : Fld := ⟨Reg.EV_SET p, 30, 30⟩
def F.EV_SET.BLOCK (p : Nat) : Fld := ⟨Reg.EV_SET p, 23, 0⟩
/-- Address of EV_ROUTE on page `p` (R24). -/
def Reg.EV_ROUTE (p : Nat) : Nat := 0x1000 * p + 0x1C
def F.EV_ROUTE.EN (p : Nat) : Fld := ⟨Reg.EV_ROUTE p, 16, 16⟩
def F.EV_ROUTE.IRQ_SRC (p : Nat) : Fld := ⟨Reg.EV_ROUTE p, 9, 0⟩
/-- Address of ERR_CODE on page `p` (R24). -/
def Reg.ERR_CODE (p : Nat) : Nat := 0x1000 * p + 0x20
def F.ERR_CODE.CLR (p : Nat) : Fld := ⟨Reg.ERR_CODE p, 31, 31⟩
def F.ERR_CODE.COUNT (p : Nat) : Fld := ⟨Reg.ERR_CODE p, 30, 24⟩
def F.ERR_CODE.DRAM (p : Nat) : Fld := ⟨Reg.ERR_CODE p, 23, 23⟩
def F.ERR_CODE.SOURCE (p : Nat) : Fld := ⟨Reg.ERR_CODE p, 15, 8⟩
def F.ERR_CODE.CODE (p : Nat) : Fld := ⟨Reg.ERR_CODE p, 7, 0⟩
/-- Address of ERR_ADDR on page `p` (R24). -/
def Reg.ERR_ADDR (p : Nat) : Nat := 0x1000 * p + 0x24
def F.ERR_ADDR.ADDR (p : Nat) : Fld := ⟨Reg.ERR_ADDR p, 31, 0⟩
/-- Address of LOCK_KEY on page `p` (R24). -/
def Reg.LOCK_KEY (p : Nat) : Nat := 0x1000 * p + 0x28
def F.LOCK_KEY.KEY (p : Nat) : Fld := ⟨Reg.LOCK_KEY p, 15, 0⟩

end Sys2Proof.Machine
end

