-- ==== Sys2Proof/Machine/Zero.lean ====
section
/-! DEFINITION. The hidden parts of a lane as a reset leaves them: nothing in progress, nothing held. -/

namespace Sys2Proof.Machine

/-- No access has begun anything (R43, R26). -/
def acc0 : AccessH := ⟨[], [], [], [], [], [], []⟩
/-- A seated cartridge, both supply entries at 24 V (log entry 51). -/
def sup0 : SupplyH :=
  { seated := true, closed := true, brown := false, ok1 := true, ok2 := true, v1 := 120, v2 := 120, ride := none, valid := true }
/-- A lane that has just been released, at a tick. -/
def start0 (now : Nat) : StartH :=
  { t0 := now, inReset := none, warmOk := false, resume := none, exchanged := false, ready := none, origin := none, pipRun := false,
    faultedAt := 0, present := false, fwChanged := false, fwPending := false, fwFailed := false, seatsIn := false }
/-- A ledger with no grant and no request. -/
def ledger0 : LedgerH := ⟨[], [], [], [], 0, false, []⟩
/-- Nothing on the pair link, nothing entered. -/
def pair0 : PairH :=
  { oseq := 0, othSeq := 0, outMsg := [], outSeal := [], outSamp := [], outDig := [], entries := [], sampOwn := none,
    sampIn := none, keys := [], digOwn := [], digIn := [], check := none, charges := [], accepted := [], unconf := [], upSince := none, upAll := none,
    rejoin := none, bytes := 0, reqAt := 0, waitDiv := none, waitLink := none, cause := 0, primAt := none, lastRx := [], promo := none }
/-- No cycle begun. -/
def cyc0 : CycleH :=
  { compl := [], inServ := [], wlog := [], logs := [], crcs := [], sweep := 0, cutDone := false, cutHolder := none, merged := false, opened := false,
    complete := false, late := false, snapOf := none, ringLast := 0, trcCfg := 0, trc := ⟨[], 0⟩, trcHeld := [],
    holdFrames := false, holdTo := 0, s2At := 0, exchAt := none, stamps := [], cuts := [], judged := 0 }
/-- No frame sent or received. -/
def ring0 : RingH :=
  { recs := [], unproc := [], folds := [], alerts := [], ret := [], loopSum := [], excess := [], cons := [], loss := [], absCmd := [],
    found := [], lost := [], holdSeen := [], pdus := [], tx := [], acycQ := [], acycOut := [], acycIn := [], formed := [], ap := [], dropped := [], modes := [], train := [] }
/-- No conversion yet. -/
def ain0 : AinH := ⟨[], none, none, 0⟩
/-- No axis sample yet. -/
def axis0 : AxisH := ⟨[], []⟩
/-- No frame queued. -/
def pbus0 : PbusH := ⟨[], [], [], [], [], []⟩
/-- Channels never used. -/
def dma0 : DmaH := ⟨[], []⟩
/-- No session, no datagram; firmware of security version 0 and compatibility number 0 in bank 0 (log entry 51). -/
def host0 : HostH :=
  { hap := [], opens := [], tx := [], tagLog := none, answered := [], mse := true, aer := false, nonfatal := 0, dups := [], nodes := [], seq := 0,
    sent := [], resid := [], banks := [some (0, 0), none], stmt := none, keyHash := none }
/-- An image store with nothing in it. -/
def store0 : StoreH := ⟨0, none, none, none, false, [], []⟩
/-- A matrix with no entry. -/
def matrix0 : MatrixImg := ⟨[], 0, 0⟩
/-- A channel that holds nothing. -/
def chan0 : PChan := ⟨[], [], []⟩
/-- A pip that has not started. -/
def pip0 : PipH :=
  { aligned := false, bank := matrix0, inact := matrix0, store := none, lines := [], x := chan0, y := chan0, mis := [], faultAt := none,
    downAt := none, testing := none, bad := [], toBad := [], outs := [], actAt := none, othId := 0, diff := none, yAt := 0, rx := [] }

/-- The time block after reset of kind P (R48). -/
def time0 : TimeH := ⟨0, 0, 0, none, List.replicate 32 ⟨0, 0⟩, none, false, (false, false, false), none, none, none, false, 0x80000000⟩

/-- The engine before its first capture. -/
def capt0 : CaptH := ⟨0, [], none, 0, 0, none, false, false, none, 0, 0, [], 0, 0, none, [], [], [], [], [], [], 0, 0⟩

/-- The recorder of an unused cartridge. -/
def recd0 : RecH := ⟨⟨0, 0, []⟩, [], [], [], [], 0, [], [], false, (0, 0), 0, none, [], [], 0, [], []⟩

/-- A controller with nothing pending. -/
def irq0 : IrqH := ⟨[], [], [], [], [], []⟩

/-- The log of an unused cartridge. -/
def log0 : LogH := ⟨0, [], 0, [], 0, none⟩

/-- The memory-integrity block after reset. -/
def memi0 : MemiH := ⟨[], [], [], 0, 0, []⟩

/-- A scheduler with nothing in it (R402). -/
def work0 : WorkH := ⟨[], [], [], [], [], [], 0, 0, 0, 0, [], [], [], ⟨[], 0⟩⟩

end Sys2Proof.Machine
end

