-- ==== Sys2Proof/Machine/State.lean ====
section
/-! DEFINITION. The state of the module as plain data: two lanes, the base between them, the time that passes, and
the queue of commands that wait. Every register of a lane is one word of a sparse map (R4, R21). -/

namespace Sys2Proof.Machine

/-- A fault stops the machine. None is expected of a well-formed command. -/
inductive Fault where
  /-- an operand list longer than the hardware's unit holds (a frame, a bus message, a burst). No meaning of this model
  raises it: such an operand is refused by WellFormed, and exec runs on it as on any other. Safe: it stops nothing. -/
  | illFormed (what : String)
  deriving DecidableEq, Repr

/-- A refusal: the model has no meaning for the command. -/
inductive Refusal where
  /-- the command is not modelled: raised by exec's own arm only. Safe. -/
  | notModelled (mnemonic : String)
  deriving DecidableEq, Repr

/-- Carried state: what the snapshot holds and a rejoin carries (R80, R120). -/
structure Carried where
  /-- cycle image, by byte offset; an unlisted byte reads 0 -/
  img : List Host.Cell
  /-- table windows, by lane address; an unlisted word reads 0 -/
  win : List (Nat × Word)
  loops : List LoopI
  groups : List GroupI
  gens : List GenI
  progs : List ProgI
  /-- edge detectors new to the image, whose PREV is their first input (R207) -/
  edgeNew : List Nat
  chans : List ChanI
  /-- wafer-context records not yet taken by the recorder (R236) -/
  wafers : List WaferRec
  /-- the payloads of absent stations as last received, at their image offsets (R203); an unlisted byte reads 0 -/
  subst : List Host.Cell
  /-- stations that may return by a RETURN write (R254): ring, station -/
  retOk : List (Nat × Nat)
  ains : List AinC
  ow : OwC
  axes : List AxisI
  hap : HapC
  /-- data and REQ of each bus object's last release, by 128 times bus + object (R309; log entry 199) -/
  rels : List (Nat × List Nat × Nat)
  deriving DecidableEq, Repr

/-- A snapshot slot of the warm store: cycle, digest, whether it is complete, carried state, the carried and mirrored
registers, tokens, mirrored grants and duplicate keys at the end of the cycle (R80, R120, R139). -/
structure Snap where
  slot : Nat
  cyc : Nat
  dig : Nat
  complete : Bool
  car : Carried
  regs : List (Nat × Word)
  recd : RecCnt
  tokens : List Token
  grants : List Grant
  keys : List KeyUsed
  /-- what the rings consumed, lost and were commanded in that cycle, from which its end is judged (R252) -/
  cons : List Consumed
  loss : List (Nat × Nat)
  absCmd : List (Nat × Nat)
  /-- the cycle origin at the end of that cycle, as number and TIME64 (R129); where the next sweep begins (R105) -/
  org : Nat × Nat
  sweep : Nat
  /-- the contents are those the digest was stored with (R80) -/
  sound : Bool
  deriving DecidableEq, Repr

/-- A trial (R209–R211): the program, the prepared image set it comes from, the cycle from which it runs, its own state
once mapped, the last cycle in which it was considered. -/
structure TrialH where
  prog : Nat
  im : ImageSet
  start : Nat
  car : Option Carried
  seen : Option Nat
  deriving DecidableEq, Repr

/-- A lane. -/
structure Lane where
  /-- registers, by lane address, rising; an unlisted register reads its reset word -/
  regs : List (Nat × Word)
  car : Carried
  /-- lane DRAM, by byte offset from 0x10_0000_0000; an unlisted byte reads 0 -/
  dram : List Host.Cell
  acc : AccessH
  time : TimeH
  sup : SupplyH
  start : StartH
  ledger : LedgerH
  pair : PairH
  cyc : CycleH
  ring : RingH
  ain : AinH
  axis : AxisH
  pbus : PbusH
  capt : CaptH
  recd : RecH
  fifos : List Fifo
  work : WorkH
  irq : IrqH
  dma : DmaH
  host : HostH
  memi : MemiH
  pip : PipH
  slots : List Snap
  /-- the running image set -/
  image : Option ImageSet
  log : LogH
  store : StoreH
  trial : Option TrialH
  deriving DecidableEq, Repr

/-- The base between the lanes (R12): the primacy line, the bypass relays, the ejectors. -/
structure Base where
  primacy : Option LaneId
  relays : Bool
  /-- tick at which primacy was last withdrawn, while no lane holds it (R108, R283) -/
  freeAt : Option Nat
  /-- the lane from which it was withdrawn: the other lane's standing request comes first (R108) -/
  lost : Option LaneId
  /-- AO selector: the lane whose DAC reaches the terminals, and the terminal codes (R283) -/
  aoSel : Option LaneId
  aoTerm : List (Nat × Nat)
  /-- PPS and SYNC selector: the lane whose outputs reach CN-TIME (R67) -/
  timeSel : Option LaneId
  /-- bridges of the slots (R331) -/
  brA : Bool
  brB : Bool
  /-- SO outputs that have turned themselves off, with the tick (R463) -/
  soOver : List (Nat × Nat)
  deriving DecidableEq, Repr

/-- The module. -/
structure State where
  a : Lane
  b : Lane
  base : Base
  /-- CLK_TIME ticks since the model's start -/
  now : Nat
  /-- free values drawn so far -/
  free : Nat
  pending : List Instr
  deriving DecidableEq, Repr

/-- Carried state with nothing in it. -/
def car0 : Carried :=
  { img := [], win := [], loops := [], groups := [], gens := [], progs := [], edgeNew := [], chans := [], wafers := [], subst := [], retOk := [], ains := [],
    ow := ⟨0, none, []⟩, axes := [], hap := ⟨0, []⟩, rels := [] }

/-- A lane with every register at its reset word and nothing in its blocks. -/
def lane0 : Lane :=
  { regs := [], car := car0, dram := [], acc := acc0, time := time0, sup := sup0, start := start0 0, ledger := ledger0, pair := pair0,
    cyc := cyc0, ring := ring0, ain := ain0, axis := axis0, pbus := pbus0, capt := capt0, recd := recd0, fifos := [], work := work0,
    irq := irq0, dma := dma0, host := host0, memi := memi0, pip := pip0, slots := [], image := none, log := log0, store := store0,
    trial := none }

/-- A lane after a reset of kind P, its supply valid and its cartridge unused: SYS_ROLE follows the slot and sees the other
lane seated, SYS_SUPPLY both entries at 24 V (R2, R7, R72; log entry 51). -/
def Lane.fresh (n : Nat) : Lane := { lane0 with regs := [(Reg.SYS_ROLE, BitVec.ofNat 32 (2 + n)), (Reg.SYS_SUPPLY, 0x00787803#32)] }

/-- The module right after reset of kind P of both lanes: no lane holds primacy, nothing is bridged, no command waits (R7). -/
def State.reset : State :=
  { a := Lane.fresh 0, b := Lane.fresh 1,
    base := { primacy := none, relays := false, freeAt := none, lost := none, aoSel := none, aoTerm := [], timeSel := none, brA := false, brB := false, soOver := [] },
    now := 0, free := 0, pending := [] }

end Sys2Proof.Machine
end

