-- ==== Sys2Proof/Machine/Ops.lean ====
section
/-! DEFINITION. The operations every block shares: sparse maps, the register file of a lane with its reset words,
fields, events, errors, event records, time, the cycle image, DRAM. -/

namespace Sys2Proof.Machine

/-! ### Sparse maps in one canonical form -/

/-- The value at `a`: the listed one, or what an unlisted place reads as. -/
def Sparse.find {α : Type} (d : Nat → α) : List (Nat × α) → Nat → α
  | [], a => d a
  | (k, v) :: t, a => if k = a then v else Sparse.find d t a

/-- Insert at `a`, which is not listed, keeping the keys rising. -/
def Sparse.ins {α : Type} : List (Nat × α) → Nat → α → List (Nat × α)
  | [], a, v => [(a, v)]
  | (k, w) :: t, a, v => if a < k then (a, v) :: (k, w) :: t else (k, w) :: Sparse.ins t a v

/-- Write `v` at `a`; a value that an unlisted place reads as is not listed. -/
def Sparse.put {α : Type} [DecidableEq α] (d : Nat → α) (m : List (Nat × α)) (a : Nat) (v : α) : List (Nat × α) :=
  let m' := m.filter (fun c => decide (c.1 ≠ a))
  if v = d a then m' else Sparse.ins m' a v

/-- The canonical form: keys strictly rising, no value an unlisted place reads as. -/
def Sparse.wf {α : Type} [DecidableEq α] (d : Nat → α) (m : List (Nat × α)) : Prop :=
  m.Pairwise (fun x y => x.1 < y.1) ∧ ∀ c ∈ m, c.2 ≠ d c.1

/-! ### The blocks and their registers -/

/-- A block of R21: type code, first page, implemented pages, pages of one instance, registers. -/
structure Blk where
  ty : Nat
  page0 : Nat
  pages : Nat
  per : Nat
  rows : List RegRow

/-- The blocks of R21. -/
def blocks : List Blk := [
  ⟨0x00, 0x000, 2, 2, RegTable.sys⟩, ⟨0x01, 0x010, 2, 2, RegTable.time⟩, ⟨0x02, 0x020, 1, 1, RegTable.ledger⟩,
  ⟨0x03, 0x030, 4, 4, RegTable.pair⟩, ⟨0x04, 0x040, 8, 1, RegTable.seat⟩, ⟨0x10, 0x100, 4, 4, RegTable.cycle⟩,
  ⟨0x20, 0x200, 64, 1, RegTable.loop⟩, ⟨0x30, 0x300, 8, 1, RegTable.logic⟩, ⟨0x38, 0x380, 33, 1, RegTable.recipe⟩,
  ⟨0x40, 0x400, 24, 1, RegTable.ring⟩, ⟨0x44, 0x440, 384, 16, RegTable.sta⟩, ⟨0x60, 0x600, 4, 4, RegTable.ain⟩,
  ⟨0x68, 0x680, 32, 32, RegTable.axis⟩, ⟨0x70, 0x700, 12, 1, RegTable.pbus⟩, ⟨0x78, 0x780, 4, 4, RegTable.safe⟩,
  ⟨0x80, 0x800, 4, 4, RegTable.capt⟩, ⟨0x88, 0x880, 4, 4, RegTable.rec⟩, ⟨0x90, 0x900, 17, 1, RegTable.work⟩,
  ⟨0x98, 0x980, 16, 1, RegTable.fifo⟩, ⟨0xA0, 0xA00, 8, 8, RegTable.irq⟩, ⟨0xA8, 0xA80, 65, 1, RegTable.dma⟩,
  ⟨0xB0, 0xB00, 4, 4, RegTable.host⟩, ⟨0xB8, 0xB80, 2, 2, RegTable.memi⟩ ]

/-- The block whose implemented pages hold page `p` (R21). -/
def blkOf (p : Nat) : Option Blk := blocks.find? (fun b => decide (b.page0 ≤ p ∧ p < b.page0 + b.pages))

/-- The first page of the instance that page `p` belongs to. -/
def instPage (p : Nat) : Nat :=
  match blkOf p with
  | some b => b.page0 + (p - b.page0) / b.per * b.per
  | none => p

/-- BLK_ID.INSTANCE of page `p` (R21, R22). -/
def instNum (p : Nat) : Nat :=
  match blkOf p with
  | some b =>
    let k := (p - b.page0) / b.per
    if b.ty = 0x38 ∨ b.ty = 0x90 ∨ b.ty = 0xA8 then (if k = 0 then 0xFF else k - 1) else k
  | none => 0

/-- The claim token of the instance of page `p`: INSTANCE in bits 23:16, TYPE in bits 15:0 (R21). -/
def tokenOf (p : Nat) : Nat :=
  match blkOf p with
  | some b => instNum p * 0x10000 + b.ty
  | none => 0

/-- The row of a block's register at page index `k` and offset `off`. -/
def rowAt (rows : List RegRow) (k off : Nat) : Option RegRow :=
  rows.find? (fun r => decide (r.p0 ≤ k ∧ k < r.p0 + r.pn ∧ r.off ≤ off ∧ (off - r.off) % r.stride = 0 ∧
    (off - r.off) / r.stride < r.n))

/-- The register at a lane address, if one occupies it (R23, R24). -/
def rowOf (addr : Nat) : Option RegRow :=
  match blkOf (addr / 0x1000) with
  | none => none
  | some b =>
    if addr % 0x1000 < 0x2C then rowAt RegTable.hdr 0 (addr % 0x1000)
    else rowAt b.rows (addr / 0x1000 - b.page0) (addr % 0x1000)

/-- Where a register's word stands: the header registers that act on the instance, or read the same on all of its
pages, stand on its first page (R24; EV_MASK too, log entry 3). -/
def home (addr : Nat) : Nat :=
  if 0x8 ≤ addr % 0x1000 ∧ addr % 0x1000 < 0x2C then instPage (addr / 0x1000) * 0x1000 + addr % 0x1000 else addr

/-- EV_ROUTE.IRQ_SRC of an instance after reset (R409); station windows and service-core pages by log entry 4. -/
def irqDefault (p : Nat) : Nat :=
  match blkOf p with
  | none => 0
  | some b =>
    let n := (p - b.page0) / b.per
    match b.ty with
    | 0x00 => 0 | 0x01 => 1 | 0x02 => 2 | 0x03 => 3 | 0x10 => 4
    | 0x38 => if n = 0 then 5 else 95 + n
    | 0x60 => 6 | 0x68 => 7 | 0x78 => 8 | 0x80 => 9 | 0x88 => 10 | 0x90 => 11 | 0xA0 => 12
    | 0xA8 => if n = 0 then 13 else 959 + n
    | 0xB0 => 14 | 0xB8 => 15
    | 0x04 => 16 + n | 0x20 => 24 + n | 0x30 => 88 + n | 0x40 => 128 + n | 0x44 => 128 + n
    | 0x70 => 152 + n | 0x98 => 164 + n
    | _ => 0

/-- LEDGER_WAIT_n after a reset of kind P: the class default of R88, in ms. -/
def ledgerWaitDefault (n : Nat) : Nat :=
  match n with
  | 0 => 100 | 1 => 100 | 2 => 100 | 3 => 10000 | 4 => 0xFFFF | 5 => 0 | 6 => 1000 | _ => 0

/-- The parts of a reset word that are Fixed, a block default or a class default, rather than one value for all. -/
def fixedPart (addr : Nat) : Nat :=
  let p := addr / 0x1000
  let off := addr % 0x1000
  match blkOf p with
  | none => 0
  | some b =>
    if off = 0x000 then (p - b.page0) % b.per * 0x1000000 + instNum p * 0x10000 + b.ty
    else if off = 0x004 then 0x01000000
    else if off = 0x008 then (if b.ty = 0x04 then 0 else 1)
    else if off = 0x01C then irqDefault p
    else if b.ty = 0x04 ∧ off = 0x040 then p - b.page0
    else if b.ty = 0x20 ∧ 0x060 ≤ off ∧ off < 0x070 then 0x01400000 + (off - 0x060) / 4 * 0x100000
    else if b.ty = 0x38 ∧ p = b.page0 ∧ off = 0x044 then 0x02000000
    else if b.ty = 0x38 ∧ p = b.page0 ∧ off = 0x048 then 0x02400000
    else if b.ty = 0x38 ∧ p = b.page0 ∧ off = 0x04C then 0x03400000
    else if b.ty = 0x38 ∧ p = b.page0 ∧ off = 0x050 then 0x03C00000
    else if b.ty = 0x68 ∧ p = b.page0 ∧ off = 0x044 then 0x04000000
    else if b.ty = 0x70 ∧ off = 0x060 then 0x04800000 + (p - b.page0) * 0x100000
    else if b.ty = 0x78 ∧ p = b.page0 + 3 ∧ off = 0x064 then 0x05800000
    else if b.ty = 0x80 ∧ p = b.page0 ∧ off = 0x064 then 0x16000000
    else if b.ty = 0xB0 ∧ p = b.page0 ∧ off = 0x048 then 0x96400000
    else if b.ty = 0x02 ∧ 0x140 ≤ off ∧ off < 0x160 then ledgerWaitDefault ((off - 0x140) / 4)
    else 0

/-- The word a register has after reset (R7), and reads while it is unlisted. -/
def resetWord (addr : Nat) : Word :=
  match rowOf addr with
  | some r => word (r.reset + fixedPart addr)
  | none => 0#32

/-! ### Registers and fields of a lane -/

/-- The stored word of the register at `addr`. -/
def Lane.rd (l : Lane) (addr : Nat) : Word := Sparse.find resetWord l.regs addr

/-- Store a word in the register at `addr`. -/
def Lane.wr (l : Lane) (addr : Nat) (w : Word) : Lane := { l with regs := Sparse.put resetWord l.regs addr w }

/-- Bits `hi:lo` of a word, as a number. -/
def bits (w : Word) (hi lo : Nat) : Nat := w.toNat / 2 ^ lo % 2 ^ (hi - lo + 1)

/-- A word with `v` in bits `hi:lo`. -/
def withBits (w : Word) (hi lo v : Nat) : Word :=
  word (w.toNat - bits w hi lo * 2 ^ lo + v % 2 ^ (hi - lo + 1) * 2 ^ lo)

/-- The value of a field. -/
def Lane.get (l : Lane) (f : Fld) : Nat := bits (l.rd f.addr) f.hi f.lo

/-- A field is not 0. -/
def Lane.flag (l : Lane) (f : Fld) : Bool := decide (l.get f ≠ 0)

/-- Store a value in a field. -/
def Lane.set (l : Lane) (f : Fld) (v : Nat) : Lane := l.wr f.addr (withBits (l.rd f.addr) f.hi f.lo v)

/-- Store a Boolean in a one-bit field. -/
def Lane.setB (l : Lane) (f : Fld) (b : Bool) : Lane := l.set f (if b then 1 else 0)

/-- Raise a counter field by `n`, saturating at its largest value. -/
def Lane.cnt (l : Lane) (f : Fld) (n : Nat) : Lane :=
  l.set f (min (l.get f + n) (2 ^ (f.hi - f.lo + 1) - 1))

/-- Raise a 32-bit counter register by `n`, modulo 2^32. -/
def Lane.inc (l : Lane) (addr n : Nat) : Lane := l.wr addr (word ((l.rd addr).toNat + n))

/-- The 64-bit value of a LO and HI register pair. -/
def Lane.get64 (l : Lane) (lo hi : Nat) : Nat := (l.rd lo).toNat + (l.rd hi).toNat * 2 ^ 32

/-- Store a 64-bit value in a LO and HI register pair. -/
def Lane.set64 (l : Lane) (lo hi v : Nat) : Lane := (l.wr lo (word v)).wr hi (word (v / 2 ^ 32))

/-! ### Time and state of a lane -/

/-- TIME64 (R46). -/
def Lane.t64 (l : Lane) : Nat := l.time.acc / 2 ^ 32

/-- The state of a lane (R86). -/
def Lane.st (l : Lane) : LaneSt := (LaneSt.ofCode (l.get F.SYS_STATE.LANE_STATE)).getD .absent

/-- The stage reached (R73). -/
def Lane.stage (l : Lane) : Nat := l.get F.SYS_STATE.STAGE

/-- A lane in PAIRED or SOLO drives the field. -/
def Lane.drives (l : Lane) : Bool := decide (l.st = .paired ∨ l.st = .solo)

/-- The current cycle number. -/
def Lane.cycN (l : Lane) : Nat := l.get64 Reg.CYCLE_NUM_LO Reg.CYCLE_NUM_HI

/-- The running period P in ns. -/
def Lane.period (l : Lane) : Nat := l.get F.CYCLE_PERIOD.NS

/-- t_N = T_org + (N − N_org) × P (R128). -/
def Lane.tOf (l : Lane) (n : Nat) : Nat :=
  l.get64 Reg.CYCLE_ORG_T_LO Reg.CYCLE_ORG_T_HI +
    (n - l.get64 Reg.CYCLE_ORG_NUM_LO Reg.CYCLE_ORG_NUM_HI) * l.period

/-- Cycles are being computed (CYCLE_STAT.RUN). -/
def Lane.running (l : Lane) : Bool := l.flag F.CYCLE_STAT.RUN

/-! ### Events, errors, records -/

/-- Set a bit of EV_PEND of the instance of page `p` (R24). -/
def Lane.ev (l : Lane) (p bit : Nat) : Lane :=
  let a := instPage p * 0x1000 + 0x10
  l.wr a (l.rd a ||| word (2 ^ bit))

/-- Latch an error on the instance of page `p`: the first since a clear is kept, later ones only count (R28). -/
def Lane.errAt (l : Lane) (p code source addr : Nat) (dram : Bool) : Lane :=
  let q := instPage p
  let l1 := l.set (F.ERR_CODE.COUNT q) (min (l.get (F.ERR_CODE.COUNT q) + 1) 127)
  if l.get (F.ERR_CODE.CODE q) = 0 then
    ((((l1.set (F.ERR_CODE.CODE q) code).set (F.ERR_CODE.SOURCE q) source).setB (F.ERR_CODE.DRAM q) dram).wr
      (Reg.ERR_ADDR q) (word addr)).ev q 30
  else l1

/-- An error whose address is a register or table-window address. -/
def Lane.err (l : Lane) (p code source addr : Nat) : Lane := l.errAt p code source addr false

/-- Write one event record (R385, R386); a record that meets a full buffer is dropped and counted (R388). -/
def Lane.logAt (l : Lane) (lane : Nat) (ty inst code : Nat) (data : List (Nat × Nat)) : Lane :=
  if l.log.buf.length < 1024 then
    let st := l.get F.TIME_STAT.STATE
    let r : LogRec := ⟨l.log.next, l.get64 Reg.LOG_OPMS_LO Reg.LOG_OPMS_HI, st, lane, (l.rd Reg.LOG_PCYC).toNat,
      ty, inst, code, if st = 0 then 0 else l.t64, data⟩
    { l with log := { l.log with next := l.log.next + 1, buf := l.log.buf ++ [r] } }
  else { l with log := { l.log with dropped := l.log.dropped + 1 } }

/-- Which lane a lane is: SYS_ROLE.ROLE follows the slot (R2). -/
def Lane.num (l : Lane) : Nat := l.get F.SYS_ROLE.ROLE

/-- Write one event record of this lane. -/
def Lane.log1 (l : Lane) (ty inst code : Nat) (data : List (Nat × Nat)) : Lane := l.logAt l.num ty inst code data

/-- A KIND 0x00 record: an event of page `p` about an object, with a repeat count (R386). -/
def Lane.logEv (l : Lane) (p bit obj rep : Nat) : Lane :=
  let q := instPage p
  let ty := match blkOf p with | some b => b.ty | none => 0
  l.log1 ty (instNum p) bit [(8, if l.stage < 2 then 0 else l.cycN), (4, (l.rd (Reg.ERR_CODE q)).toNat),
    (4, (l.rd (Reg.ERR_ADDR q)).toNat), (2, obj), (4, rep)]

/-- Insertion into a list that ascends by a key. -/
def insBy {α : Type} (key : α → Nat) (x : α) : List α → List α
  | [] => [x]
  | y :: t => if key x ≤ key y then x :: y :: t else y :: insBy key x t

/-- A list in ascending order of a key. -/
def sortBy {α : Type} (key : α → Nat) (xs : List α) : List α := xs.foldr (insBy key) []

/-! ### Cycle image, table windows, DRAM -/

/-- What an unlisted byte reads as. -/
def byte0 : Nat → Byte := fun _ => 0#8

/-- What an unlisted word of a table window reads as. -/
def word0 : Nat → Word := fun _ => 0#32

/-- `n` bytes from address `a` of a byte map, little-endian. -/
def bytesAt (m : List Host.Cell) (a : Nat) : Nat → Nat
  | 0 => 0
  | n + 1 => (Sparse.find byte0 m a).toNat + 256 * bytesAt m (a + 1) n

/-- Store `n` bytes of `v` from address `a`, little-endian. -/
def putBytes (m : List Host.Cell) (a : Nat) : Nat → Nat → List Host.Cell
  | 0, _ => m
  | n + 1, v => putBytes (Sparse.put byte0 m a (BitVec.ofNat 8 v)) (a + 1) n (v / 256)

/-- Store a list of bytes from address `a`. -/
def putList (m : List Host.Cell) (a : Nat) : List Nat → List Host.Cell
  | [] => m
  | b :: t => putList (Sparse.put byte0 m a (BitVec.ofNat 8 b)) (a + 1) t

/-- `n` bytes of a byte map as a list. -/
def listAt (m : List Host.Cell) (a : Nat) : Nat → List Nat
  | 0 => []
  | n + 1 => (Sparse.find byte0 m a).toNat :: listAt m (a + 1) n

/-- A word of a table window. -/
def Lane.win (l : Lane) (a : Nat) : Word := Sparse.find word0 l.car.win a

/-- Store a word in a table window. -/
def Lane.putWin (l : Lane) (a : Nat) (w : Word) : Lane :=
  { l with car := { l.car with win := Sparse.put word0 l.car.win a w } }

/-- `n` bytes of the cycle image at an image offset, little-endian. -/
def Lane.img (l : Lane) (off n : Nat) : Nat := bytesAt l.car.img off n

/-- Store `n` bytes in the cycle image. -/
def Lane.putImg (l : Lane) (off n v : Nat) : Lane :=
  { l with car := { l.car with img := putBytes l.car.img off n v } }

/-- Store `n` bytes in lane DRAM at a byte offset from 0x10_0000_0000. -/
def Lane.putDram (l : Lane) (off n v : Nat) : Lane := { l with dram := putBytes l.dram off n v }

/-- The signed value of an `n`-bit two's-complement number. -/
def signed (n v : Nat) : Int := if v % 2 ^ n < 2 ^ (n - 1) then (v % 2 ^ n : Nat) else (v % 2 ^ n : Nat) - (2 ^ n : Nat)

/-- The two's-complement number of `n` bits of a signed value. -/
def twos (n : Nat) (v : Int) : Nat := (v % (2 ^ n : Nat)).toNat

/-! ### Codewords (R429) -/

/-- Number of bits set in the low `n` bits. -/
def popcount : Nat → Nat → Nat
  | 0, _ => 0
  | n + 1, v => v % 2 + popcount n (v / 2)

/-- The wrong bytes of DRAM codeword `i`, one bit each of 72. -/
def Lane.wrong (l : Lane) (i : Nat) : Nat := ((l.memi.bad.find? (fun b => b.1 == i)).map Prod.snd).getD 0

/-- A codeword with more than 4 wrong bytes lies in `len` bytes from DRAM offset `off`. -/
def Lane.uncorrIn (l : Lane) (off len : Nat) : Bool :=
  l.memi.bad.any (fun b => decide (4 < popcount 72 b.2 ∧ off / 64 ≤ b.1 ∧ b.1 * 64 < off + len))

/-! ### What nodes write -/

/-- Replace the element with the same key, keeping the list sorted by key. -/
def upsert {α : Type} (key : α → Nat) (x : α) : List α → List α
  | [] => [x]
  | y :: t => if key x < key y then x :: y :: t else if key x = key y then x :: t else y :: upsert key x t

/-- The record of a withdrawn activation of program `p`: at most one per program and second of TIME64, with the count
(R199; DESIGN CHOICE, log entry 148). -/
def Lane.logWithdrawn (l : Lane) (p : Nat) : Lane :=
  let last := (l.store.lastRec.find? (fun x => x.1 == p)).map Prod.snd
  let keep (t n : Nat) : Lane := { l with store := { l.store with lastRec := upsert Prod.fst (p, t, n) l.store.lastRec } }
  match last with
  | some (t, n) => if l.t64 < t + 1000000000 then keep t (n + 1) else (keep l.t64 0).logEv (0x300 + p / 16) 0 (p % 16) (n + 1)
  | none => (keep l.t64 0).logEv (0x300 + p / 16) 0 (p % 16) 1

/-- Apply one write of a node. -/
def Lane.apply (l : Lane) : NodeWrite → Lane
  | .img o n v => l.putImg o n v
  | .win a w => l.putWin a w
  | .fld a hi lo v => l.set ⟨a, hi, lo⟩ v
  | .cnt a hi lo n => l.cnt ⟨a, hi, lo⟩ n
  | .inc a n => l.inc a n
  | .ev p b => l.ev p b
  | .err p c so a => l.err p c so a
  | .log ty i c d => l.log1 ty i c d
  | .loopI e => { l with car := { l.car with loops := upsert LoopI.inst e l.car.loops } }
  | .groupI e => { l with car := { l.car with groups := upsert GroupI.group e l.car.groups } }
  | .genI e => { l with car := { l.car with gens := upsert GenI.gen e l.car.gens } }
  | .edgeOld i => { l with car := { l.car with edgeNew := l.car.edgeNew.filter (fun k => k != i) } }
  | .ovrRec p => l.logWithdrawn p
  | .chanI e => { l with car := { l.car with chans := upsert ChanI.chan e l.car.chans } }
  | .axisI e => { l with car := { l.car with axes := upsert AxisI.ax e l.car.axes } }
  | .wafer r => { l with car := { l.car with wafers := l.car.wafers ++ [r] } }
  | .progI e => { l with car := { l.car with progs := upsert ProgI.prog e l.car.progs } }

/-- A node's work in progress: the lane as the node sees it after its own writes, and the writes in order. -/
structure Work where
  l : Lane
  ws : List NodeWrite

/-- Enter one write. -/
def Work.put (w : Work) (x : NodeWrite) : Work := ⟨w.l.apply x, w.ws ++ [x]⟩

/-- Enter a write where a condition holds. -/
def Work.putIf (w : Work) (c : Bool) (x : NodeWrite) : Work := if c then w.put x else w

/-! ### The two lanes -/

/-- A lane of the module. -/
def State.lane (s : State) : LaneId → Lane
  | .A => s.a
  | .B => s.b

/-- The module with a lane replaced. -/
def State.setLane (s : State) (i : LaneId) (l : Lane) : State :=
  match i with
  | .A => { s with a := l }
  | .B => { s with b := l }

/-- The module with a lane changed. -/
def State.on (s : State) (i : LaneId) (f : Lane → Lane) : State := s.setLane i (f (s.lane i))

/-- A lane holds primacy (R107). -/
def State.prime (s : State) (i : LaneId) : Bool := decide (s.base.primacy = some i)

/-- A fresh free value (log entry 9): the word, and the module with the counter advanced. -/
def State.drawFree (s : State) : Word × State := (Config.freeWord s.free, { s with free := s.free + 1 })

/-- The bank that boots: the newer valid one. -/
def bootBank (banks : List (Option (Nat × Nat))) (fused : Nat) : Option (Nat × Nat × Nat) :=
  (banks.zipIdx.filterMap (fun x => x.1.bind (fun f => if fused ≤ f.1 then some (x.2, f.1, f.2) else none))).foldl
    (fun (b : Option (Nat × Nat × Nat)) x => match b with
      | some y => if y.2.1 < x.2.1 then some x else b
      | none => some x) none

end Sys2Proof.Machine
end

