-- ==== Sys2Proof/Machine/Operands.lean ====
section
/-! DEFINITION. The operand forms the engines share: Q15 arithmetic (R155–R157), signal references (R158–R160). -/

namespace Sys2Proof.Machine

/-- clamp(a, lo, hi) (R156). -/
def clampI (a lo hi : Int) : Int := if a < lo then lo else if hi < a then hi else a

/-- sat16 (R156). -/
def sat16 (a : Int) : Int := clampI a (-32768) 32767

/-- Saturation of the 40-bit accumulator (R155). -/
def sat40 (a : Int) : Int := clampI a (-(2 ^ 39)) (2 ^ 39 - 1)

/-- round15 (R156): nearest, exact halves towards +∞. -/
def round15 (a : Int) : Int := Int.fdiv (a + 2 ^ 14) (2 ^ 15)

/-- The term of coefficient (M, S) applied to a Q15 value: the Q30 value (M × x) × 2^S, saturating (R155, R157). -/
def term (m : Int) (s : Nat) (x : Int) : Int := sat40 (sat40 (m * x) * 2 ^ s)

/-- The least `n` < 2^bits + 1 for which a monotone test holds, found bit by bit. -/
def leastNat (p : Nat → Bool) : Nat → Nat → Nat
  | 0, base => if p base then base else base + 1
  | k + 1, base => if p (base + 2 ^ k - 1) then leastNat p k base else leastNat p k (base + 2 ^ k)

/-- Station `s` of ring `r` is absent (RING_ABSENT). -/
def Lane.absent (l : Lane) (r s : Nat) : Bool :=
  (l.get64 (Reg.RING_ABSENT_LO r) (Reg.RING_ABSENT_HI r)).testBit s

/-- An image offset lies in the inputs of an absent station (R158, R166). -/
def Lane.srcAbsent (l : Lane) (off : Nat) : Bool :=
  match l.image with
  | none => false
  | some im => im.ins.any (fun m => decide (m.off ≤ off ∧ off < m.off + m.len) && l.absent m.ring m.sta)

/-- Quality of a value read (R166): 0 valid, 1 held for SETTLING, 2 held for TEST, 3 fault. -/
abbrev Qual := Nat

/-- The value a signal reference names, unscaled, and its quality (R158, R221). -/
def Lane.readRef (l : Lane) (ref : Nat) : Int × Qual :=
  let loc := ref % 2 ^ 28
  let q := if l.srcAbsent loc then 3 else 0
  match ref / 2 ^ 28 with
  | 0 => (0, 0)
  | 1 => let w := l.rd (Reg.AIN_VAL (loc % 64)); (signed 24 (bits w 23 0), bits w 31 30)
  | 2 => (signed 16 (l.img loc 2), q)
  | 3 => (signed 16 (l.img loc 2), q)
  | 4 => (signed 32 (l.img loc 4), q)
  | 5 => ((l.img loc 2 : Nat), q)
  | 6 => (signed 16 (bits (l.win (0x01400000 + 128 * (loc % 4096) + 72)) 31 16), 0)
  | 7 => (signed 16 (bits (l.win (0x01700000 + 64 * (loc % 512) + 60)) 15 0), 0)
  | _ => (0, 3)

/-- Scaling of a process value (R160). -/
def scalePv (raw ofs scl : Int) (sh : Nat) : Int :=
  let a := (raw - ofs) * scl
  let a := if sh > 0 then a + 2 ^ (sh - 1) else a
  sat16 (Int.fdiv a (2 ^ sh))

/-- TS32 extended against a reference TIME64 (R50). -/
def extendTs (ts32 ref : Nat) : Nat :=
  let d := (ts32 + 2 ^ 32 - ref % 2 ^ 32) % 2 ^ 32
  if d < 2 ^ 31 then ref + d
  else if ref + d < 2 ^ 32 then ref + d
  else ref + d - 2 ^ 32

/-- The fine stamp of an event in TDC bin `b` after a tick with accumulator `acc` and increment `inc`, both in
2^-32 ns: TIME64 and SUBNS (R52). -/
def fineStamp (acc inc b : Nat) : Nat × Nat :=
  let t := acc + b * inc / 16
  (t / 2 ^ 32, t / 2 ^ 24 % 256)

/-- An instant lies in the half-open window [lo, hi); a bound has SUBNS 0, so TIME64 decides (R68). -/
def inWindow (t lo hi : Nat) : Bool := decide (lo ≤ t ∧ t < hi)

end Sys2Proof.Machine
end

