-- ==== Sys2Proof/Machine/Flags.lean ====
section
/-! DEFINITION. Checks and codes over bytes and words: CRC-32C (R97, R338, R385), the CRC-64 of the cycle digest
(R105), the bytes of an event record (R385). -/

namespace Sys2Proof.Machine

/-- `n` shift steps of a reflected CRC with polynomial `p`. -/
def crcStepsR (p : Nat) : Nat → Nat → Nat
  | 0, c => c
  | n + 1, c => crcStepsR p n (if c % 2 = 1 then (c / 2) ^^^ p else c / 2)

/-- CRC-32C of a byte list: reflected polynomial 0x82F6_3B78, initial value and final XOR all ones (R338). -/
def crc32c (bs : List Nat) : Nat :=
  (bs.foldl (fun c b => crcStepsR 0x82F63B78 8 (c ^^^ (b % 256))) 0xFFFFFFFF) ^^^ 0xFFFFFFFF

/-- The IEEE 802.3 frame check sequence of bytes (R241). -/
def fcs32 (bs : List Nat) : Nat :=
  (bs.foldl (fun c b => crcStepsR 0xEDB88320 8 (c ^^^ (b % 256))) 0xFFFFFFFF) ^^^ 0xFFFFFFFF

/-- `n` shift steps of the CRC-64 of R105, not reflected. -/
def crc64Steps : Nat → Nat → Nat
  | 0, c => c
  | n + 1, c =>
    crc64Steps n (if c / 2 ^ 63 % 2 = 1 then (c * 2 % 2 ^ 64) ^^^ 0x42F0E1EBA9EA3693 else c * 2 % 2 ^ 64)

/-- Fold one 64-bit word into a CRC-64 register, most significant bit first. -/
def crc64Word (c w : Nat) : Nat := crc64Steps 64 (c ^^^ (w % 2 ^ 64))

/-- Fold an (address, value) pair into a CRC-64 register (R105). -/
def crc64Pair (c : Nat) (p : Nat × Nat) : Nat := crc64Word (crc64Word c p.1) p.2

/-- The initial value of a CRC-64 register (R105). -/
def crc64Init : Nat := 2 ^ 64 - 1

/-- `n` bytes of a number, little-endian. -/
def leBytes : Nat → Nat → List Nat
  | 0, _ => []
  | n + 1, v => v % 256 :: leBytes n (v / 256)

/-- The value of little-endian bytes. -/
def leVal : List Nat → Nat
  | [] => 0
  | b :: t => b % 256 + 256 * leVal t

/-- A byte list padded with zeros, or cut, to a length. -/
def padTo (n : Nat) (bs : List Nat) : List Nat := (bs ++ List.replicate n 0).take n

/-- DATA of an event record: values one after another, each aligned to its own size (R386). -/
def logData : List (Nat × Nat) → List Nat → List Nat
  | [], acc => acc
  | (n, v) :: t, acc =>
    let gap := if n = 0 then 0 else (n - acc.length % n) % n
    logData t (acc ++ List.replicate gap 0 ++ leBytes n v)

/-- The 64 bytes of an event record (R385). -/
def LogRec.bytes (r : LogRec) : List Nat :=
  let b := leBytes 8 r.seq ++ leBytes 6 r.opms ++ leBytes 1 r.tstate ++ leBytes 1 r.lane ++ leBytes 4 r.pcyc ++
    [r.srcInst % 256, r.srcType % 256] ++ leBytes 2 r.code ++ leBytes 8 r.time ++ padTo 28 (logData r.data [])
  b ++ leBytes 4 (crc32c b)

end Sys2Proof.Machine
end

