-- ==== Sys2Proof/Machine/Mirror.lean ====
section
/-! DEFINITION. Event entries of the mirror set (R96–R103): their kinds, keys, bytes, the order in which they apply,
and how a lane enters one. -/

namespace Sys2Proof.Machine

/-- KIND of an entry with this content (R103). -/
def Payload.kind : Payload → Nat
  | .timeStep _ => 0x01 | .timeState _ => 0x01 | .timeSource _ => 0x01 | .timeUtc _ => 0x01
  | .transfer => 0x02 | .leave _ _ _ => 0x02 | .join _ => 0x02
  | .commit _ => 0x03
  | .claim _ => 0x04 | .rights _ => 0x04
  | .timeSet _ => 0x05 | .regWrite _ => 0x05
  | .command _ => 0x06 | .work _ => 0x06 | .workCancel _ => 0x06
  | .hapOpen _ _ => 0x06 | .hapClose _ _ => 0x06 | .hapAlive _ _ => 0x06
  | .ledger _ _ _ _ => 0x07
  | .svc _ _ _ _ _ => 0x08
  | .busRx _ _ _ _ _ _ _ => 0x09 | .busStat _ _ _ _ => 0x09
  | .stamp _ _ _ => 0x0A

/-- A signed number as 8 bytes. -/
def i64 (v : Int) : List Nat := leBytes 8 (twos 64 v)

/-- The bytes of the writes of one access: 12 bytes each. -/
def writeBytes (ws : List (Nat × Word × Word)) : List Nat :=
  (ws.map (fun x => leBytes 4 x.1 ++ leBytes 4 x.2.1.toNat ++ leBytes 4 x.2.2.toNat)).flatten

/-- PAYLOAD of an entry; R102 gives its place and the padding, R314 and R400 the layout of kinds 0x09 and 0x08; the inner
layout of the others is the model's (log entry 31). -/
def Payload.bytes : Payload → List Nat
  | .timeStep d => 0 :: i64 d
  | .timeState n => [1, n] | .timeSource n => [2, n] | .timeUtc w => 3 :: leBytes 4 w.toNat
  | .transfer => [0] | .leave i f w => [1, i.num, (if f then 1 else 0), (if w then 1 else 0)] | .join i => [2, i.num]
  | .commit s => leBytes 8 s
  | .claim w => 0 :: leBytes 4 w.toNat
  | .rights ws => 1 :: writeBytes ws
  | .timeSet t => 1 :: leBytes 8 t
  | .regWrite ws => 0 :: writeBytes ws
  | .command ws => 0 :: writeBytes ws
  | .work ws => 1 :: (ws.map (leBytes 4)).flatten
  | .workCancel i => 2 :: leBytes 8 i
  | .hapOpen q n => 3 :: q :: n
  | .hapClose q n => 4 :: q :: leBytes 3 n
  | .hapAlive q n => 5 :: q :: leBytes 3 n
  | .ledger c q d w => leBytes 1 c ++ leBytes 1 q ++ leBytes 8 d ++ leBytes 4 w
  | .svc i f st o d => leBytes 8 i ++ leBytes 2 f ++ [st, 0] ++ leBytes 4 o ++ leBytes 4 d.length ++ List.replicate 12 0 ++ d
  | .busRx b o f i d t s => [b, o, f, d.length] ++ leBytes 4 i ++ leBytes 8 t ++ [s, 0, 0, 0, 0, 0, 0, 0] ++ d
  | .busStat b st t r => padTo 24 [b, 0xFF, 0x80, st, t, r]
  | .stamp src t s => leBytes 2 src ++ leBytes 8 t ++ [s]

/-- The bytes of an entry (R102). -/
def Entry.bytes (e : Entry) : List Nat :=
  let p := e.pay.bytes
  leBytes 8 e.effect ++ leBytes 4 e.oseq ++ leBytes 2 p.length ++
    [e.kind, e.origin.num * 128 + (match e.seat with | some q => 8 + q % 8 | none => 0)] ++ leBytes 8 e.key ++ leBytes 8 0 ++
    padTo ((p.length + 7) / 8 * 8) p

/-- The header of an entry of the sampled part (R102): EFFECT, ORIGIN_SEQ, LENGTH, KIND, ORIGIN, no KEY. -/
def sampHead (cyc oseq len kind : Nat) (origin : LaneId) : List Nat :=
  leBytes 8 cyc ++ leBytes 4 oseq ++ leBytes 2 len ++ [kind, origin.num * 128] ++ leBytes 8 0 ++ leBytes 8 0

/-- The content of the kinds 0x20, 0x21 and 0x22 and the receipt maps, at the sizes of R133; with the HALT sample they are one
body under one header (log entry 168). -/
def Sampled.body (m : Sampled) : List Nat :=
  let i32 (v : Int) : List Nat := leBytes 4 (twos 32 v)
  leBytes 16 m.di ++ (m.ai.map (fun x => leBytes 4 x.2)).flatten ++
  (m.ax.map (fun x => padTo 32 ([x.1] ++ leBytes 8 (twos 64 x.2.pos) ++ i32 x.2.latch ++ leBytes 4 x.2.ts ++ leBytes 2 x.2.load ++
    leBytes 2 x.2.amp ++ leBytes 2 x.2.status))).flatten ++ (m.maps.map (fun x => leBytes 16 x.2)).flatten

/-- The bytes of a sampled part: header and seal of 64 bytes, the first kind 0x20, then its body (R102, R103, R133). -/
def Sampled.bytes (m : Sampled) (origin : LaneId) : List Nat :=
  padTo 64 (sampHead m.cyc m.oseq m.body.length 0x20 origin ++ leBytes 4 (crc32c m.body) ++ [m.halt.toNat]) ++ m.body

/-- The entries of a one-sided record, kind 0x23, in pieces of at most 220 bytes, with ORIGIN_SEQ from `oseq` on (R102, R103;
log entry 168). -/
def OneSided.entries (r : OneSided) (oseq : Nat) (origin : LaneId) : List Nat :=
  ((List.range ((r.bytes.length + 219) / 220)).map (fun k =>
    let p := (r.bytes.drop (220 * k)).take 220
    sampHead r.cyc (oseq + k) (4 + p.length) 0x23 origin ++ padTo ((4 + p.length + 7) / 8 * 8) ([r.ring, r.station, r.ord, k] ++ p))).flatten

/-- Entries of one-sided records in a list. -/
def oneSidedCount (rs : List OneSided) : Nat := (rs.map (fun r => (r.bytes.length + 219) / 220)).sum

/-- The CRC-32C of a seal, over the entries in the order of acceptance (R97). -/
def sealCrc (es : List Entry) : Nat := crc32c (es.map Entry.bytes).flatten

/-- Mirror-set order within an effect cycle (R98). -/
def Entry.before (a b : Entry) : Bool :=
  let ka := [a.kind, a.seat.getD 8, a.origin.num, a.oseq]
  let kb := [b.kind, b.seat.getD 8, b.origin.num, b.oseq]
  decide (ka ≤ kb)

/-- Insert by mirror-set order. -/
def insEntry (e : Entry) : List Entry → List Entry
  | [] => [e]
  | x :: t => if e.before x then e :: x :: t else x :: insEntry e t

/-- Sort by mirror-set order. -/
def sortEntries (es : List Entry) : List Entry := es.foldr insEntry []

/-- The identity of a lane. -/
def Lane.self (l : Lane) : LaneId := if l.num = 0 then .A else .B

/-- A lane sends `k` mirror entries of `n` bytes in all: ORIGIN_SEQ counts them, PAIR_MIR_PEAK has the most of one cycle (R102). -/
def Lane.mirSent (l : Lane) (k n : Nat) : Lane :=
  let bs := l.pair.bytes + n
  Lane.set { l with pair := { l.pair with oseq := l.pair.oseq + k, bytes := bs } } F.PAIR_MIR_PEAK.BYTES (max (l.get F.PAIR_MIR_PEAK.BYTES) bs)

/-- A PAIRED lane sends its sampled part. -/
def Lane.sendSampled (l : Lane) (m : Sampled) : Lane :=
  let x := { m with oseq := l.pair.oseq }
  Lane.mirSent { l with pair := { l.pair with outSamp := [x] } } 1 (x.bytes l.self).length

/-- A lane forwards one-sided records, in order. -/
def Lane.sendOneSided (l : Lane) (rs : List OneSided) : Lane :=
  rs.foldl (fun m r => Lane.mirSent { m with pair := { m.pair with outMsg := m.pair.outMsg ++ [.oneSided m.pair.oseq r] } } (oneSidedCount [r])
    (r.entries m.pair.oseq m.self).length) l

/-- The lane accepts an event entry: effect cycle two cycles on, counted, sent at once (R96, R102). -/
def Lane.enterBy (l : Lane) (pcie : Bool) (pay : Payload) (seat : Option Nat) (key : Nat) : Lane :=
  let e : Entry := ⟨l.cycN + 2, l.pair.oseq, pay.kind, l.self, seat, key, pay, pcie⟩
  let l1 := (l.cnt F.PAIR_MIR_COUNT.ENTRIES 1).mirSent 1 e.bytes.length
  { l1 with
      pair := { l1.pair with
        entries := l1.pair.entries ++ [e],
        accepted := l1.pair.accepted ++ [e], unconf := l1.pair.unconf ++ [⟨l.cycN, seat⟩], outMsg := l1.pair.outMsg ++ [.entry e] } }

/-- The lane accepts an entry that no PCIe write made. -/
def Lane.enter (l : Lane) (pay : Payload) (seat : Option Nat) (key : Nat) : Lane := l.enterBy false pay seat key

/-- A stamp's KEY: source in bits 63:48, TIME64 in bits 47:0 (R103). -/
def stampKey (source t : Nat) : Nat := source * 2 ^ 48 + t % 2 ^ 48

end Sys2Proof.Machine
end

