-- ==== Sys2Proof/Machine/Course.lean ====
section
/-! DEFINITION. Trajectories of profile generators and axes (R171–R174, R293): the plan from rest of R172, and the courses
from a moving state of R173: to a velocity, to rest, to a target. -/

namespace Sys2Proof.Machine

/-! ### From rest (R172) -/

/-- Ceiling of a quotient of naturals; 0 for a zero divisor. -/
def cdiv (a b : Nat) : Nat := if b = 0 then 0 else (a + b - 1) / b

/-- The longest n_j with which `s` = n_v + n_a + 2 n_j executions to the end of the cruise cover `d` within A, n_v being 0. -/
def longJerk (d a s : Nat) : Nat := min (s / 2) (s - cdiv d (a * s))

/-- Phase lengths over a distance too short for V or A to be reached (R172): the least n_v + n_a + 2 n_j, which is the
largest V′, and for it the largest A′; n_v or n_a is 0. -/
def shortPhases (d v a j : Nat) : Nat × Nat × Nat :=
  let s := leastNat (fun s => decide (d ≤ v * s) && decide (d ≤ j * s * (s - longJerk d a s) * longJerk d a s)) 48 0
  let n := leastNat (fun n => decide (d ≤ a * s * n ∧ d ≤ j * s * n * n)) 48 0
  if 2 * n ≤ s then (n, 0, s - 2 * n) else (longJerk d a s, s - 2 * longJerk d a s, 0)

/-- Phase lengths (n_j, n_a, n_v) of a move over `d` from rest with limits V, A, J (R172). -/
def phasesOf (d v a j : Nat) : Nat × Nat × Nat :=
  let nj := cdiv a j
  let na := cdiv v a - nj
  if na + 2 * nj ≤ cdiv d v then (nj, na, cdiv d v - na - 2 * nj) else shortPhases d v a j

/-- The plan of a move from rest at `p` to `t` (R172): seven phases of constant jerk. -/
def planRest (p t : Int) (v a j : Nat) : Plan :=
  let d := (t - p).natAbs
  let n := phasesOf d v a j
  let nj := n.1
  let na := n.2.1
  let nv := n.2.2
  let x : Int := if t < p then -(d : Int) else d
  { course := []
    cden := 1
    cp := 0
    cv := 0
    ca := 0
    phases := [(nj, x), (na, 0), (nj, -x), (nv, 0), (nj, -x), (na, 0), (nj, x)]
    den := (nv + na + 2 * nj) * (nj + na) * nj
    p0 := p
    v0 := 0
    a0 := 0
    k := 0
    done := 0
    total := 4 * nj + 2 * na + nv
    tgt := t }

/-- Position, velocity and acceleration `k` executions into a phase of jerk `x / den` (R172). -/
def phaseAt (p0 v0 a0 x : Int) (den k : Nat) : Int × Int × Int :=
  let d : Int := den
  let n : Int := k
  (p0 + Int.fdiv (6 * v0 * n * d + 3 * a0 * n * n * d + x * n * n * n) (6 * d),
   v0 + Int.fdiv (2 * a0 * n * d + x * n * n) (2 * d),
   a0 + Int.fdiv (x * n) d)

/-- Drop the phases of no execution at the front of a plan. -/
def dropEmpty : List (Nat × Int) → List (Nat × Int)
  | (0, _) :: t => dropEmpty t
  | ps => ps

/-- Advance a plan by one execution: the plan, position, velocity and acceleration. A course runs first, one acceleration
an execution with constant jerk between two; then the phases from rest. -/
def Plan.next (q : Plan) : Plan × Int × Int × Int :=
  let q1 := { q with done := q.done + 1 }
  match q.course with
  | a :: t =>
    let d : Int := q.cden
    let p := q.cp + 3 * q.cv + 2 * q.ca + a
    let v := q.cv + q.ca + a
    ({ q1 with course := t, cp := p, cv := v, ca := a }, Int.fdiv p (6 * d), Int.fdiv v (2 * d), Int.fdiv a d)
  | [] =>
    match dropEmpty q.phases with
    | [] => (q1, q.tgt, 0, 0)
    | (n, x) :: t =>
      let k := q.k + 1
      let s := phaseAt q.p0 q.v0 q.a0 x q.den k
      let q' := if k = n then { q1 with phases := t, k := 0, p0 := s.1, v0 := s.2.1, a0 := s.2.2 }
        else { q1 with phases := (n, x) :: t, k := k }
      if q'.done = q.total then (q', q.tgt, 0, 0) else (q', s)

/-! ### Courses from a moving state (R171, R173) -/

/-- The highest and the lowest acceleration after `k` of `n` executions that begin at `a0` and end at 0 within A and J. -/
def accHi (a0 : Int) (a j n k : Nat) : Int := min (a0 + j * k) (min (max a (a0 - j * k)) (j * (n - k : Nat)))
def accLo (a0 : Int) (a j n k : Nat) : Int := max (a0 - j * k) (max (min (-(a : Int)) (a0 + j * k)) (-(j * (n - k : Nat) : Int)))

/-- The accelerations after 1, 2, … `n` executions. -/
def accsOf (f : Nat → Int) (n : Nat) : List Int := (List.range n).map (fun k => f (k + 1))

/-- Where a list of accelerations leads, from six times a position, twice a velocity and an acceleration. -/
def runCourse (s : Int × Int × Int) (as : List Int) : Int × Int × Int :=
  as.foldl (fun s a => (s.1 + 3 * s.2.1 + 2 * s.2.2 + a, s.2.1 + s.2.2 + a, a)) s

/-- `n` executions can take the velocity from `v0`, with acceleration `a0`, to `c` with acceleration 0. -/
def canReach (v0 a0 c : Int) (a j n : Nat) : Bool :=
  let lo := runCourse (0, 2 * v0, a0) (accsOf (accLo a0 a j n) n)
  let hi := runCourse (0, 2 * v0, a0) (accsOf (accHi a0 a j n) n)
  decide (a0.natAbs ≤ j * n ∧ lo.2.1 ≤ 2 * c ∧ 2 * c ≤ hi.2.1)

/-- The least number of executions that take the velocity from `v0`, with acceleration `a0`, to `c` with acceleration 0. -/
def reachLen (v0 a0 c : Int) (a j : Nat) : Nat :=
  let most := 2 * cdiv a0.natAbs j + cdiv ((c - v0).natAbs + a0.natAbs * cdiv a0.natAbs j) a + 2 * cdiv a j + 2
  leastNat (canReach v0 a0 c a j) (Nat.log2 most + 1) 0

/-- The lowest and the highest course of `n` executions, and the lengths of the blend between them. -/
structure Blend where
  los : List Int
  his : List Int
  lo : Int × Int × Int
  hi : Int × Int × Int

def blendOf (v0 a0 : Int) (a j n : Nat) : Blend :=
  let los := accsOf (accLo a0 a j n) n
  let his := accsOf (accHi a0 a j n) n
  ⟨los, his, runCourse (0, 2 * v0, a0) los, runCourse (0, 2 * v0, a0) his⟩

/-- The accelerations of the blend `num / den` of the way from the lowest to the highest course, times `m`, over `den * m`. -/
def Blend.accs (b : Blend) (num den m : Int) : List Int := (b.los.zip b.his).map (fun x => (x.1 * den + num * (x.2 - x.1)) * m)

/-- The course to velocity `c` in the fewest executions: its denominator and its accelerations. -/
def courseV (v0 a0 c : Int) (a j : Nat) : Nat × List Int :=
  let b := blendOf v0 a0 a j (reachLen v0 a0 c a j)
  let den := max 1 (b.hi.2.1 - b.lo.2.1)
  (den.toNat, b.accs (2 * c - b.lo.2.1) den 1)

/-- The distance that the course to velocity `c` covers, and the executions it takes. -/
def distV (v0 a0 c : Int) (a j : Nat) : Int × Nat × Nat :=
  let x := courseV v0 a0 c a j
  ((runCourse (0, 2 * v0 * x.1, a0 * x.1) x.2).1, x.1, x.2.length)

/-- The course over `d` in the direction `s` (1 or −1) without a stop: to the highest speed from which it still stops in
time, a cruise, and to rest, the whole number of executions covering `d` exactly at a speed lowered as R172 lowers its
limits (DESIGN CHOICE, log entry 21). None where no such course keeps the limits. -/
def courseOver (v0 a0 d s : Int) (v a j : Nat) : Option (Nat × List Int) :=
  let covers (c : Nat) : Bool :=
    let x := distV v0 a0 (s * c) a j
    decide (s * x.1 + 3 * x.2.1 * c * reachLen c 0 0 a j ≤ 6 * x.2.1 * s * d)
  let c := min v (leastNat (fun c => !covers (c + 1)) (Nat.log2 v + 1) 0)
  if c = 0 then none
  else
    let x := distV v0 a0 (s * c) a j
    let n3 := reachLen c 0 0 a j
    let left := 6 * x.2.1 * s * d - s * x.1 - 3 * x.2.1 * c * n3
    let nv := cdiv left.toNat (6 * x.2.1 * c)
    let b := blendOf v0 a0 a j x.2.2
    let m : Int := 2 * nv + n3
    let f (y : Int × Int × Int) : Int := 2 * y.1 + 3 * y.2.1 * m
    let num := 12 * d - f b.lo
    let den := f b.hi - f b.lo
    let (num, den) := if den < 0 then (-num, -den) else (num, den)
    let vel := b.lo.2.1 * den + num * (b.hi.2.1 - b.lo.2.1)
    let hs := accsOf (accHi 0 a j n3) n3
    let sum := hs.foldl (· + ·) 0
    if 0 < den ∧ 0 ≤ num ∧ num ≤ den ∧ 0 ≤ s * vel ∧ s * vel ≤ 2 * den * v ∧ s * vel ≤ 2 * den * sum ∧ 0 < sum then
      some ((2 * den * sum).toNat, b.accs num den (2 * sum) ++ List.replicate nv 0 ++ hs.map (fun h => -(vel * h)))
    else none

/-- A course keeps the limits in every execution and ends at rest, or at velocity `c`, at the target if there is one
(R171, R173). -/
def courseOk (p v0 a0 c : Int) (tgt : Option Int) (v a j : Nat) (x : Nat × List Int) : Bool :=
  let d : Int := x.1
  let r := x.2.foldl (fun (s : Bool × Int × Int × Int) y =>
    let n := runCourse s.2 [y]
    (s.1 && decide (y.natAbs ≤ a * x.1 ∧ (y - s.2.2.2).natAbs ≤ j * x.1 ∧ n.2.1.natAbs ≤ 2 * v * x.1), n))
    (true, 6 * p * d, 2 * v0 * d, a0 * d)
  decide (0 < x.1) && r.1 && decide (r.2.2.1 = 2 * c * d ∧ r.2.2.2 = 0) &&
    (match tgt with | some t => decide (r.2.1 = 6 * t * d) | none => true)

/-- A plan that runs a course and then, where it ends short of or past the target, moves there from rest. -/
def planCourse (p v0 a0 : Int) (x : Nat × List Int) (tgt : Option Int) (v a j : Nat) : Plan :=
  let e := Int.fdiv (runCourse (6 * p * x.1, 2 * v0 * x.1, a0 * x.1) x.2).1 (6 * x.1)
  let t := tgt.getD e
  let q := planRest e t v a j
  let back := decide (t ≠ e)
  { q with
      course := x.2
      cden := x.1
      cp := 6 * p * x.1
      cv := 2 * v0 * x.1
      ca := a0 * x.1
      phases := if back then q.phases else []
      total := x.2.length + (if back then q.total else 0) }

/-- The plan from a moving state to velocity `c`, and at rest to the target if there is one: over the target without a stop
where it lies ahead, else to rest along the limits and back (R173). Of the courses that keep the rule and are no longer,
which one is run is a free value (log entry 21). A limit of 0 counts as 1. -/
def planMoving (p v0 a0 c : Int) (tgt : Option Int) (v a j : Nat) : Plan :=
  let v := max 1 v
  let a := max 1 a
  let j := max 1 j
  let stop := courseV v0 a0 c a j
  let own : Plan := match tgt with
    | none => planCourse p v0 a0 stop none v a j
    | some t =>
      let e := Int.fdiv (runCourse (6 * p * stop.1, 2 * v0 * stop.1, a0 * stop.1) stop.2).1 (6 * stop.1)
      let s : Int := if t < e then -1 else 1
      match (if t = e ∨ s * v0 < 0 then none else courseOver v0 a0 (t - p) s v a j) with
      | some x => planCourse p v0 a0 x tgt v a j
      | none => planCourse p v0 a0 stop tgt v a j
  let free := Config.moveCourse [p, v0, a0, c, tgt.getD 0, v, a, j]
  if free.2.length ≤ own.total ∧ courseOk p v0 a0 c tgt v a j free = true then planCourse p v0 a0 free tgt v a j else own

end Sys2Proof.Machine
end

