-- ==== Sys2Proof/Machine/Loop.lean ====
section
/-! DEFINITION. Loop engines (chapter 07): one execution of a loop instance, of a profile generator and the
resolution of a selector group, as the writes of the node that serves them; and the loop tables' value check. -/

namespace Sys2Proof.Machine

/-- Address of word `w` of LOOP_PE entry `i` (R181). -/
def peAddr (i w : Nat) : Nat := 0x01400000 + 128 * i + 4 * w
/-- Address of word `w` of region `r` of instance `i` (R181). -/
def reAddr (i r w : Nat) : Nat := 0x01500000 + 256 * i + 16 * r + 4 * w
/-- Address of word `w` of LOOP_SG entry `g` (R181). -/
def sgAddr (g w : Nat) : Nat := 0x01600000 + 64 * g + 4 * w
/-- Address of word `w` of LOOP_PG entry `g` (R181). -/
def pgAddr (g w : Nat) : Nat := 0x01700000 + 64 * g + 4 * w

/-- Unsigned bits of a table word. -/
def Lane.wu (l : Lane) (a hi lo : Nat) : Nat := bits (l.win a) hi lo
/-- Signed bits of a table word. -/
def Lane.ws (l : Lane) (a hi lo : Nat) : Int := signed (hi - lo + 1) (bits (l.win a) hi lo)

/-- Store bits of a table word. -/
def Work.bits (w : Work) (a hi lo v : Nat) : Work := w.put (.win a (withBits (w.l.win a) hi lo v))

/-- Signed 48-bit value of a LO and HI word pair (R187). -/
def Lane.s48 (l : Lane) (a : Nat) : Int := signed 48 ((l.win a).toNat + (l.win (a + 4)).toNat % 2 ^ 16 * 2 ^ 32)
/-- Unsigned 48-bit value of a LO and HI word pair. -/
def Lane.u48 (l : Lane) (a : Nat) : Nat := (l.win a).toNat + (l.win (a + 4)).toNat % 2 ^ 16 * 2 ^ 32
/-- Store a signed 48-bit value; the HI word repeats bit 47 (R187). -/
def Work.s48 (w : Work) (a : Nat) (v : Int) : Work :=
  (w.put (.win a (word (twos 32 v)))).put (.win (a + 4) (word (twos 32 (Int.fdiv (signed 48 (twos 48 v)) (2 ^ 32)))))

/-! ### Coefficients and regions -/

/-- The coefficient set of region `r` of instance `i`, without its integral part (R185). -/
def Lane.coef (l : Lane) (i r : Nat) : Coef :=
  ⟨l.ws (reAddr i r 0) 31 16, l.wu (reAddr i r 0) 15 12, l.ws (reAddr i r 1) 15 0, l.wu (reAddr i r 0) 7 4,
   l.ws (reAddr i r 2) 31 16, l.wu (reAddr i r 0) 3 0⟩

/-- prop(c): the saturating Q30 sum of the terms of KP on e, KD on df and KFF on ff (R163). -/
def propOf (c : Coef) (e df ff : Int) : Int :=
  sat40 (sat40 (term c.kp c.kpSh e + term c.kd c.kdSh df) + term c.kff c.kffSh ff)

/-- Lower bound of region `r` of instance `i`. -/
def Lane.bound (l : Lane) (i r : Nat) : Int := l.ws (reAddr i r 2) 15 0

/-- The region whose interval contains `x`: the highest region of those in use whose bound is not above it. -/
def Lane.regionFor (l : Lane) (i : Nat) (x : Int) : Nat → Nat
  | 0 => 0
  | r + 1 => if l.bound i (r + 1) ≤ x then r + 1 else l.regionFor i x r

/-- The region of this execution (R162). -/
def Lane.regionNext (l : Lane) (i r nreg : Nat) (h x : Int) : Nat :=
  if (r = 0 ∨ l.bound i r - h ≤ x) ∧ (r = nreg ∨ x < l.bound i (r + 1) + h) then r else l.regionFor i x nreg

/-! ### Profile generators (R171–R174) -/

/-- The internal state of generator `g`, or the state of one never executed. -/
def Lane.gen (l : Lane) (g : Nat) : GenI :=
  (l.car.gens.find? (fun e => e.gen == g)).getD ⟨g, none, l.ws (pgAddr g 2) 15 0, 0⟩

/-- LOOP page of engine `n`. -/
def loopPage (n : Nat) : Nat := 0x200 + n

/-- One execution of generator `g` on engine `eng` (R172–R174). -/
def genExec (w : Work) (g eng : Nat) : Work :=
  let l := w.l
  let mode := l.wu (pgAddr g 2) 31 30
  let e := l.gen g
  let ref := (l.win (pgAddr g 0)).toNat
  let rd := l.readRef ref
  let tgt : Int := if ref = 0 then l.ws (pgAddr g 2) 15 0 else if rd.2 = 0 then sat16 rd.1 else e.tgt
  let v := l.u48 (pgAddr g 3)
  let a := l.u48 (pgAddr g 5)
  let j := l.u48 (pgAddr g 7)
  let pos := l.s48 (pgAddr g 9)
  let vel := l.s48 (pgAddr g 11)
  let acc := l.s48 (pgAddr g 13)
  let outOf (p : Int) : Nat := twos 16 (sat16 (Int.fdiv (p + 2 ^ 31) (2 ^ 32)))
  let count (w : Work) : Work := w.put (.inc (Reg.LOOP_EXEC_COUNT eng) 1)
  let store (w : Work) (p ve ac : Int) (done held : Bool) : Work :=
    ((((w.s48 (pgAddr g 9) p).s48 (pgAddr g 11) ve).s48 (pgAddr g 13) ac)).put
      (.win (pgAddr g 15) (word ((if done then 2 ^ 31 else 0) + (if held then 2 ^ 30 else 0) + outOf p)))
  -- a move in progress goes on; a new plan begins from the state it has reached (R172, R173; log entry 150)
  let old := if e.mode = 1 ∨ e.mode = 2 then e.plan else none
  let now : Int × Int × Int := match old with | some q => q.next.2 | none => (pos, vel, acc)
  let begin (q : Plan) (m : Nat) : Work := (store (count w) now.1 now.2.1 now.2.2 false false).put (.genI ⟨g, some q, tgt, m⟩)
  let still (p : Int) (done held : Bool) (m : Nat) : Work := (store (count w) p 0 0 done held).put (.genI ⟨g, none, tgt, m⟩)
  let moving := decide (now.2.1 ≠ (0 : Int) ∨ now.2.2 ≠ (0 : Int))
  if mode = 0 then w.put (.genI { e with mode := 0 })
  else if mode = 3 then still (tgt * 2 ^ 32) true false 3
  else if mode = 1 then
    if e.mode ≠ 1 ∨ e.tgt ≠ tgt ∨ (e.plan.isNone ∧ pos ≠ tgt * 2 ^ 32) then
      if moving then begin (planMoving now.1 now.2.1 now.2.2 0 (some (tgt * 2 ^ 32)) v a j) 1
      else if now.1 = tgt * 2 ^ 32 then still now.1 true false 1
      else if v = 0 ∨ a = 0 ∨ j = 0 then still now.1 false false 1
      else begin (planRest now.1 (tgt * 2 ^ 32) v a j) 1
    else
      match e.plan with
      | none => (count w).put (.genI { e with mode := 1, tgt := tgt })
      | some q =>
        let r := q.next
        let fin := decide (r.1.done ≥ q.total)
        ((store (count w) r.2.1 r.2.2.1 r.2.2.2 fin false).putIf fin (.ev (loopPage eng) 4)).put
          (.genI ⟨g, if fin then none else some r.1, tgt, 1⟩)
  else if e.mode ≠ 2 then
    -- HOLD (R174)
    (if moving then begin (planMoving now.1 now.2.1 now.2.2 0 none v a j) 2 else still now.1 false true 2)
  else match e.plan with
    | none => still pos false true 2
    | some q =>
      let r := q.next
      let fin := decide (r.1.done ≥ q.total)
      (store (count w) r.2.1 r.2.2.1 r.2.2.2 false fin).put (.genI ⟨g, if fin then none else some r.1, tgt, 2⟩)

/-! ### Selector groups (R175–R178) -/

/-- Member `m` of group `g` (R186). -/
def Lane.member (l : Lane) (g m : Nat) : Nat := l.wu (sgAddr g (1 + m / 2)) (if m % 2 = 0 then 15 else 31) (if m % 2 = 0 then 0 else 16)

/-- The member with the smallest competing value, the earlier of equals (R176): members left, member number, best. -/
def bestMember (l : Lane) (g : Nat) : Nat → Nat → Option (Nat × Int) → Option (Nat × Int)
  | 0, _, b => b
  | n + 1, m, b =>
    let i := l.member g m
    let v := l.ws (peAddr i 18) 31 16
    let b' := if l.wu (peAddr i 10) 31 30 = 0 then b else
      match b with
      | none => some (m, v)
      | some (k, u) => if v < u then some (m, v) else some (k, u)
    bestMember l g n (m + 1) b'

/-- Write an integrator value: bits 31:0, then 39:32 with copies of bit 39 (R184). -/
def Work.iacc (w : Work) (i : Nat) (v : Int) : Work :=
  (w.put (.win (peAddr i 16) (word (twos 32 v)))).put (.win (peAddr i 17) (word (twos 32 (Int.fdiv v (2 ^ 32)))))

/-- The integrator of instance `i`, signed 40 bits. -/
def Lane.iacc (l : Lane) (i : Nat) : Int :=
  signed 40 ((l.win (peAddr i 16)).toNat + (l.win (peAddr i 17)).toNat % 256 * 2 ^ 32)

/-- After a resolution: WON of each member, and the integrators of losers that compute automatically (R176). -/
def settleMembers (g : Nat) (win : Nat) (out : Int) : Nat → Nat → Work → Work
  | 0, _, w => w
  | n + 1, m, w =>
    let i := w.l.member g m
    let w1 := w.bits (peAddr i 21) 25 25 (if m = win then 1 else 0)
    let w2 := if m ≠ win ∧ w1.l.wu (peAddr i 21) 21 21 = 1 ∧ w1.l.wu (peAddr i 10) 31 30 ≠ 0 then
        w1.iacc i (clampI (out * 2 ^ 15) (w1.l.ws (peAddr i 12) 15 0 * 2 ^ 15) (w1.l.ws (peAddr i 12) 31 16 * 2 ^ 15))
      else w1
    settleMembers g win out n (m + 1) w2

/-- Members of group `g` that compete: those not OFF. -/
def ncomp (l : Lane) (g : Nat) : Nat → Nat → Nat
  | 0, _ => 0
  | n + 1, m => (if l.wu (peAddr (l.member g m) 10) 31 30 = 0 then 0 else 1) + ncomp l g n (m + 1)

/-- Resolution of group `g` in cycle `cyc` on engine `eng` (R176–R178). -/
def groupResolve (w : Work) (g eng cyc : Nat) : Work :=
  let n := w.l.wu (sgAddr g 0) 19 16
  let stamp (w : Work) : Work := (w.put (.win (sgAddr g 10) (word cyc))).put (.win (sgAddr g 11) (word (cyc / 2 ^ 32)))
  match bestMember w.l g n 0 none with
  | none =>
    stamp ((settleMembers g 0xF 0 n 0 w).put (.win (sgAddr g 8)
      (withBits (withBits (w.l.win (sgAddr g 8)) 15 12 0xF) 11 8 0)))
  | some (m, out) =>
    let ref := (w.l.win (peAddr (w.l.member g 0) 6)).toNat
    let w1 := w.put (.img (ref % 2 ^ 28) 2 (twos 16 out))
    let w2 := w1.put (.win (sgAddr g 8) (word (twos 16 out * 2 ^ 16 + m * 2 ^ 12 + ncomp w.l g n 0 * 2 ^ 8)))
    let w3 := settleMembers g m out n 0 w2
    let last := (w.l.car.groups.find? (fun e => e.group == g)).bind GroupI.last
    let chg := decide (last ≠ none ∧ last ≠ some m)
    let w4 := if chg then (w3.put (.win (sgAddr g 9) (word ((w3.l.win (sgAddr g 9)).toNat + 1)))).put
        (.cnt (Reg.LOOP_SEL_COUNT eng) 31 0 1) |>.put (.ev (loopPage eng) 3) else w3
    (stamp w4).put (.groupI ⟨g, some m⟩)

/-! ### One execution of a loop instance (R163–R169) -/

/-- Internal state of instance `i`; one never executed has no c_last and has read no valid value. -/
def Lane.loopI (l : Lane) (i : Nat) : LoopI :=
  (l.car.loops.find? (fun e => e.inst == i)).getD ⟨i, none, false, false, false⟩

/-- A setpoint, feedforward, track or schedule value: the value read, or the last valid one (R168). -/
def orLast (r : Int × Qual) (last : Int) : Int := if r.2 = 0 then sat16 r.1 else last

/-- The output side of an execution: the value, the integrator, SAT_HI, SAT_LO, and whether automatic. -/
structure LoopOut where
  out : Int
  iacc : Int
  satHi : Bool
  satLo : Bool
  auto : Bool

/-- The else branch of R163: an output given, the integrator following it. -/
def followOut (raw lo hi base : Int) (clampIt : Bool) : LoopOut :=
  let o := if clampIt then clampI raw lo hi else raw
  ⟨o, clampI (sat40 (sat40 (o * 2 ^ 15) - base)) (lo * 2 ^ 15) (hi * 2 ^ 15), clampIt && decide (hi < raw),
   clampIt && decide (raw < lo), false⟩

/-- The automatic branch of R163: conditional integration and the clamped output. -/
def autoOut (iacc base e ki : Int) (kiSh : Nat) (q : Qual) (lo hi : Int) : LoopOut :=
  let inc0 := if q = 0 then term ki kiSh e else 0
  let s := sat40 (sat40 (base + iacc) + inc0)
  let inc := if (s > hi * 2 ^ 15 ∧ inc0 > 0) ∨ (s < lo * 2 ^ 15 ∧ inc0 < 0) then 0 else inc0
  let ia := clampI (sat40 (iacc + inc)) (lo * 2 ^ 15) (hi * 2 ^ 15)
  let raw := round15 (sat40 (base + ia))
  ⟨clampI raw lo hi, ia, decide (hi < raw), decide (raw < lo), true⟩

/-- The execution of instance `i` on engine `eng` in cycle `cyc`; `full` for LOOP_FULL (R153, R163). -/
def loopExec (w0 : Work) (i eng cyc : Nat) (full : Bool) : Work :=
  let prof := w0.l.wu (peAddr i 7) 31 16
  let group := w0.l.wu (peAddr i 7) 15 0
  let w := if full ∧ prof ≠ 0xFFFF then genExec w0 (prof % 512) eng else w0
  let resolve (w : Work) : Work :=
    if full ∧ group ≠ 0xFFFF ∧ w.l.member group (w.l.wu (sgAddr group 0) 19 16 - 1) = i then groupResolve w group eng cyc
    else w
  let mode := w.l.wu (peAddr i 10) 31 30
  let h := w.l.loopI i
  if mode = 0 then resolve (w.put (.loopI { h with off := true })) else
  let outRef := (w.l.win (peAddr i 6)).toNat % 2 ^ 28
  -- leaving OFF loads OUT from OUT_REF (R165)
  let w := if h.off then w.bits (peAddr i 18) 31 16 (w.l.img outRef 2) else w
  let l := w.l
  let st := l.win (peAddr i 21)
  let out0 := l.ws (peAddr i 18) 31 16
  let pvRef := (l.win (peAddr i 1)).toNat
  let rd := l.readRef pvRef
  let q := rd.2
  let fmt := pvRef / 2 ^ 28
  let pvIn := if fmt = 1 ∨ fmt = 3 ∨ fmt = 4 ∨ fmt = 5 then
      scalePv rd.1 (l.ws (peAddr i 8) 31 0) (l.ws (peAddr i 9) 31 16) (l.wu (peAddr i 9) 4 0) else sat16 rd.1
  let pv := if q = 0 then pvIn else l.ws (peAddr i 18) 15 0
  let bad := if q = 0 then 0 else if q = 3 then bits st 15 0 else min (bits st 15 0 + 1) 0xFFFF
  let seen := h.seen || decide (q = 0)
  let holdMax := l.wu (peAddr i 10) 15 0
  let wasFault := decide (bits st 24 24 = 1)
  let inFault := if q = 0 then false else wasFault || decide (q = 3 ∨ bad > holdMax ∨ seen = false)
  let enters := inFault && !wasFault
  -- setpoint and feedforward
  let spRef := (l.win (peAddr i 2)).toNat
  let spRd : Int × Qual := if prof ≠ 0xFFFF ∧ full then (l.ws (pgAddr (prof % 512) 15) 15 0, 0)
    else if spRef = 0 then (l.ws (peAddr i 11) 15 0, 0) else l.readRef spRef
  let sp := orLast spRd (l.ws (peAddr i 20) 31 16)
  let ffRef := (l.win (peAddr i 3)).toNat
  let ff := if ffRef = 0 then 0 else orLast (l.readRef ffRef) (l.ws (peAddr i 20) 15 0)
  let dact := l.wu (peAddr i 0) 31 31
  let e := if dact = 0 then sat16 (sp - pv) else sat16 (pv - sp)
  -- derivative
  let x := if l.wu (peAddr i 0) 30 30 = 0 then e else if dact = 0 then sat16 (-pv) else pv
  let xPrev := l.ws (peAddr i 19) 31 16
  let df0 := l.ws (peAddr i 19) 15 0
  let dx := if h.resumed then 0 else sat16 (x - xPrev)
  let df := if q = 0 then sat16 (df0 + round15 (l.ws (peAddr i 14) 15 0 * sat16 (dx - df0))) else df0
  let xNew := if q = 0 then x else xPrev
  -- region
  let nreg := if full then l.wu (peAddr i 0) 19 16 else 0
  let schSrc := l.wu (peAddr i 0) 15 14
  let sch : Int × Qual := match schSrc with
    | 0 => (pv, q)
    | 1 => (sp, spRd.2)
    | 2 => (out0, 0)
    | _ => l.readRef (l.win (peAddr i 5)).toNat
  let r0 := min (bits st 31 28) nreg
  let r := if nreg = 0 then 0 else if sch.2 = 0 then l.regionNext i r0 nreg (l.wu (peAddr i 14) 31 16) (sat16 sch.1) else r0
  let moved := decide (nreg ≠ 0 ∧ r ≠ r0)
  let c := l.coef i r
  let cLast := h.cLast.getD c
  let ia := sat40 (sat40 (l.iacc i + propOf cLast e df ff) - propOf c e df ff)
  let bias := l.ws (peAddr i 13) 15 0
  let base := sat40 (propOf c e df ff + bias * 2 ^ 15)
  let lo := l.ws (peAddr i 12) 15 0
  let hi := l.ws (peAddr i 12) 31 16
  let fact := l.wu (peAddr i 10) 29 28
  let trk := l.readRef (l.win (peAddr i 4)).toNat
  let forced := decide (mode = 2) && inFault && decide (fact = 2)
  let o : LoopOut :=
    if mode = 1 then followOut (l.ws (peAddr i 11) 31 16) lo hi base true
    else if mode = 3 then (if trk.2 = 0 then followOut (sat16 trk.1) lo hi base true else followOut out0 lo hi base false)
    else if inFault then
      (match fact with
       | 0 => followOut out0 lo hi base false
       | 1 => followOut (l.ws (peAddr i 13) 31 16) lo hi base true
       | _ => followOut out0 lo hi base true)
    else autoOut ia base e (l.ws (reAddr i r 1) 31 16) (l.wu (reAddr i r 0) 11 8) q lo hi
  -- commit
  let w1 := (w.iacc i o.iacc).put (.win (peAddr i 18) (word (twos 16 o.out * 2 ^ 16 + twos 16 pv)))
  let w2 := w1.put (.win (peAddr i 19) (word (twos 16 xNew * 2 ^ 16 + twos 16 df)))
  let w3 := w2.put (.win (peAddr i 20) (word (twos 16 sp * 2 ^ 16 + twos 16 ff)))
  let stat := r * 2 ^ 28 + (if o.satHi then 2 ^ 27 else 0) + (if o.satLo then 2 ^ 26 else 0) + bits st 25 25 * 2 ^ 25 +
    (if inFault then 2 ^ 24 else 0) + q * 2 ^ 22 + (if o.auto then 2 ^ 21 else 0) + bad
  let w4 := (w3.put (.win (peAddr i 21) (word stat))).put (.win (peAddr i 22) (word ((l.win (peAddr i 22)).toNat + 1)))
  let w5 := if schSrc = 3 ∧ sch.2 ≠ 0 then w4 else w4.put (.win (peAddr i 23) (word (twos 16 (sat16 sch.1) * 2 ^ 16)))
  let w6 := if forced then ((w5.bits (peAddr i 10) 31 30 1).bits (peAddr i 11) 31 16 (twos 16 o.out)).putIf enters (.ev (loopPage eng) 1) else w5
  let w7 := if full ∧ group ≠ 0xFFFF then w6 else w6.put (.img outRef 2 (twos 16 o.out))
  let w8 := (w7.put (.loopI ⟨i, some c, seen, false, false⟩)).put (.inc (Reg.LOOP_EXEC_COUNT eng) 1)
  let w9 := if moved then (w8.put (.cnt (Reg.LOOP_REGION_COUNT eng) 31 0 1)).put (.ev (loopPage eng) 2) else w8
  let sat0 := decide (bits st 27 26 ≠ 0)
  let w10 := w9.putIf ((o.satHi || o.satLo) && !sat0) (.ev (loopPage eng) 5)
  let act := l.get (F.LOOP_FAULT_COUNT.ACTIVE eng)
  let w11 := if wasFault && !inFault then w10.put (.fld (Reg.LOOP_FAULT_COUNT eng) 31 16 (act - 1)) else w10
  let w12 := if enters then
      let a := ((w11.put (.fld (Reg.LOOP_FAULT_COUNT eng) 31 16 (act + 1))).put (.cnt (Reg.LOOP_FAULT_COUNT eng) 15 0 1)).put
        (.ev (loopPage eng) 0)
      if l.flag (F.LOOP_FLT_LATCH.VALID eng) then a else
        let cause := if q = 3 then (if fmt = 1 then 1 else 2) else if bad > holdMax then 0 else 3
        ((a.put (.fld (Reg.LOOP_FLT_LATCH eng) 31 0 (2 ^ 31 + cause * 2 ^ 28 + i))).put
          (.fld (Reg.LOOP_FLT_CYC_LO eng) 31 0 cyc)).put (.fld (Reg.LOOP_FLT_CYC_HI eng) 31 0 (cyc / 2 ^ 32))
    else w11
  resolve w12

/-- What the engine notes of a MODE that a write changes at `a` before it next executes: leaving OFF (R165), becoming RUN
(R172). -/
def modeSeen (l : Lane) (a : Nat) (old new : Word) : List NodeWrite :=
  let m := bits old 31 30
  let m' := bits new 31 30
  if 0x01400000 ≤ a ∧ a < 0x01480000 ∧ a % 128 = 40 ∧ m = 0 ∧ m' ≠ 0 then [.loopI { l.loopI ((a - 0x01400000) / 128) with off := true }]
  else if 0x01700000 ≤ a ∧ a < 0x01708000 ∧ a % 64 = 8 ∧ m ≠ 1 ∧ m' = 1 then [.genI { l.gen ((a - 0x01700000) / 64) with mode := m }]
  else []

/-! ### The value check of a mirrored table write (R183) -/

/-- The bounds of instance `i` rise strictly over the regions in use (R161): regions left, region. -/
def boundsRise (l : Lane) (i : Nat) : Nat → Nat → Bool
  | 0, _ => true
  | n + 1, r => (r = 0 || decide (l.bound i r < l.bound i (r + 1))) && boundsRise l i n (r + 1)

/-- The tables, as a write would leave them, pass the check of R183. -/
def tableOk (l : Lane) (a : Nat) : Bool :=
  if 0x01400000 ≤ a ∧ a < 0x01480000 then
    let i := (a - 0x01400000) / 128
    decide (l.wu (peAddr i 10) 29 28 ≠ 3 ∧ l.ws (peAddr i 12) 15 0 ≤ l.ws (peAddr i 12) 31 16 ∧
      l.wu (peAddr i 14) 31 16 ≤ 32767 ∧ l.wu (peAddr i 14) 15 0 ≤ 32767)
  else if 0x01500000 ≤ a ∧ a < 0x01600000 then
    let i := (a - 0x01500000) / 256
    boundsRise l i (l.wu (peAddr i 0) 19 16) 0
  else true

/-- The class of a word of the loop tables (R182, R184–R187): 0 bound, 1 tuning, 2 state, 3 reserved word. -/
def tableClass (a : Nat) : Nat :=
  if a < 0x01500000 then
    let w := a % 128 / 4
    if w ≤ 9 then 0 else if w ≤ 14 then 1 else if w = 15 then 3 else if w ≤ 23 then 2 else 3
  else if a < 0x01600000 then (if a % 16 / 4 = 3 then 3 else 1)
  else if a < 0x01700000 then
    let w := a % 64 / 4
    if w ≤ 4 then 0 else if w ≤ 7 then 3 else if w ≤ 11 then 2 else 3
  else
    let w := a % 64 / 4
    if w = 0 then 0 else if w = 1 then 3 else if w ≤ 8 then 1 else 2

/-- The bits of a bound word that the image sets; its reserved bits read 0 (R182, R184, R186). -/
def boundMask (a : Nat) : Nat :=
  if a < 0x01500000 then (if a % 128 = 0 then 0xC00FC000 else if a % 128 = 36 then 0xFFFF001F else 0xFFFFFFFF)
  else if 0x01600000 ≤ a ∧ a < 0x01700000 ∧ a % 64 = 0 then 0x000F0000
  else 0xFFFFFFFF

/-- The writable bits of a tuning word; its reserved bits read 0 (R182). -/
def tableMask (a : Nat) : Nat :=
  if a < 0x01500000 then (if a % 128 / 4 = 10 then 0xF000FFFF else 0xFFFFFFFF)
  else if a < 0x01600000 then 0xFFFFFFFF
  else if a < 0x01700000 then 0
  else
    let w := a % 64 / 4
    if w = 2 then 0xC000FFFF else if w = 4 ∨ w = 6 ∨ w = 8 then 0xFFFF else 0xFFFFFFFF

end Sys2Proof.Machine
end

