-- ==== Sys2Proof/Machine/Recipe.lean ====
section
/-! DEFINITION. Recipes (chapter 09): the commands to a channel, the evaluation of its step by its node, the aligned
application of writes, holding at a warm resumption and at an exchange. -/

namespace Sys2Proof.Machine

/-- Page of channel `c`. -/
def chanPage (c : Nat) : Nat := 0x381 + c
/-- Word `w` of the header of step `k` of channel `c` (R218, R237). -/
def stepAddr (c k w : Nat) : Nat := 0x02000000 + 0x20000 * c + 32 * k + 4 * w
/-- Word `w` of entry `i` of the write pool. -/
def writeAddr (c i w : Nat) : Nat := 0x02400000 + 0x80000 * c + 8 * i + 4 * w
/-- Word `w` of entry `i` of the condition pool. -/
def condAddr (c i w : Nat) : Nat := 0x03400000 + 0x40000 * c + 16 * i + 4 * w
/-- Word `w` of limit set `n`. -/
def limitAddr (c n w : Nat) : Nat := 0x03C00000 + 0x2000 * c + 32 * n + 4 * w

/-- A channel never used: IDLE, no step (R215). -/
def chanIdle (c : Nat) : ChanI :=
  { chan := c, state := 0, step := 0xFFFF, cause := 0, cmdRes := 0, heldWhy := 0, acyc := 0, ta := 0, dur := 0,
    tmo := none, dRem := 0, tRem := none, heldFrom := 0, heldT := 0, latches := [], dwells := [], entry := 0, ctx := [],
    due := [], banks := ⟨0xFFFF, [], [], [], [], []⟩, cmdCyc := none, path1 := [], leaveAt := none, imgCmd := none, gens := [], orphan := false }

/-- Channel `c`. -/
def Lane.chan (l : Lane) (c : Nat) : ChanI := (l.car.chans.find? (fun e => e.chan == c)).getD (chanIdle c)

/-- Store a channel. -/
def Lane.setChan (l : Lane) (e : ChanI) : Lane := l.apply (.chanI e)

/-- Steps that channel `c`'s table holds. -/
def Lane.stepCount (l : Lane) (c : Nat) : Nat :=
  match l.image with
  | none => 0
  | some im => ((im.chans.find? (fun x => x.chan == c)).map (fun x => x.steps.length)).getD 0

/-- DUR of step `k` (R218). -/
def Lane.stepDur (l : Lane) (c k : Nat) : Nat := l.u48 (stepAddr c k 4)
/-- TIMEOUT of step `k`; none for 0. -/
def Lane.stepTmo (l : Lane) (c k : Nat) : Option Nat :=
  if l.u48 (stepAddr c k 6) = 0 then none else some (l.u48 (stepAddr c k 6))

/-- A channel whose step was left at or before cycle `n` is DONE or ABORTED from then on (R474). -/
def ChanI.settle (e : ChanI) (n : Nat) : ChanI :=
  match e.leaveAt with
  | some (m, st) => if m ≤ n then { e with state := st, step := 0xFFFF, leaveAt := none, latches := [], dwells := [], orphan := false } else e
  | none => e

/-- Enter in a node's work the end of a step left at or before cycle `n`, with its events. -/
def Work.settle (w : Work) (c n : Nat) : Work :=
  let e := w.l.chan c
  if (e.settle n).leaveAt = e.leaveAt then w
  else ((w.put (.chanI (e.settle n))).put (.ev (chanPage c) 1)).put (.ev (chanPage c) 5)

/-! ### The shadow step banks (R228) -/

/-- The writes of step `k`, in pool order. -/
def Lane.stepWrites (l : Lane) (c k : Nat) : List (Word × Word) :=
  let h := l.win (stepAddr c k 2)
  (List.range (bits h 26 16)).map (fun i => (l.win (writeAddr c (bits h 15 0 + i) 0), l.win (writeAddr c (bits h 15 0 + i) 1)))

/-- The writes of a step, none for 0xFFFF. -/
def Lane.writesOf (l : Lane) (c k : Nat) : List (Word × Word) := if k = 0xFFFF then [] else l.stepWrites c k

/-- The successors, hold step and abort step of step `k`. -/
def Lane.stepNext (l : Lane) (c k : Nat) : Nat := bits (l.win (stepAddr c k 0)) 31 16
def Lane.stepAlt (l : Lane) (c k : Nat) : Nat := bits (l.win (stepAddr c k 0)) 15 0
def Lane.stepHold (l : Lane) (c k : Nat) : Nat := bits (l.win (stepAddr c k 1)) 31 16
def Lane.stepAbort (l : Lane) (c k : Nat) : Nat := bits (l.win (stepAddr c k 1)) 15 0

/-- The banks of the step in force are staged from the step table. -/
def ChanI.stage (e : ChanI) (l : Lane) : ChanI :=
  let c := e.chan
  let k := e.step
  if k = 0xFFFF then e
  else { e with
    banks := ⟨k, l.writesOf c k, l.writesOf c (l.stepNext c k), l.writesOf c (l.stepAlt c k), l.writesOf c (l.stepHold c k),
      l.writesOf c (l.stepAbort c k)⟩ }

/-- A bank of the step in force; before that step's apply cycle, the step table it will be staged from. -/
def ChanI.bank (e : ChanI) (l : Lane) (sel : Banks → List (Word × Word)) : List (Word × Word) :=
  if e.banks.step = e.step then sel e.banks else sel (e.stage l).banks

/-- In the merge phase of cycle `n`: the channels whose step comes into force stage their banks. -/
def Lane.stageBanks (l : Lane) (n : Nat) : Lane :=
  { l with car := { l.car with
      chans := l.car.chans.map (fun e => if (e.state = 1 ∨ e.state = 3) ∧ e.acyc = n then e.stage l else e) } }

/-! ### Commands (R216, R217, R230–R232) -/

/-- Generators that a list of writes targets. -/
def genTargets (xs : List (Word × Word)) : List Nat :=
  (xs.filter (fun x => decide (4 ≤ bits x.1 31 28 ∧ bits x.1 31 28 ≤ 6))).map (fun x => bits x.1 23 0 % 512)

/-- A wafer-context record of an edge of channel `e` (R236). -/
def waferOf (e : ChanI) (cyc t cause step src st ev sub : Nat) : WaferRec :=
  let c (n : Nat) : Nat := (e.ctx.getD n 0#32).toNat
  ⟨cyc, t, c 0 + c 1 * 2 ^ 32, c 2, c 3, e.chan, cause, step, src, e.entry, ev, sub, st⟩

/-- The edge to step `k` decided in cycle `n` with a cause, a state and evidence: t_A, DUR and TIMEOUT count anew (R226). -/
def ChanI.edgeTo (e : ChanI) (l : Lane) (k cause st n : Nat) (xs : List (Word × Word)) (ev sub : Nat) : ChanI :=
  let a := n + 2
  { e with
      step := k, cause := cause, state := st, acyc := a, ta := l.tOf a, dur := l.stepDur e.chan k,
      tmo := l.stepTmo e.chan k, latches := [], dwells := [], gens := [], heldWhy := 0, orphan := false,
      due := e.due ++ [⟨[], xs, waferOf e a (l.tOf a) cause k e.step st ev sub, true⟩] }

/-- The step is left at t_(n+2) with no successor (R474). -/
def ChanI.leave (e : ChanI) (l : Lane) (cause st n : Nat) : ChanI :=
  { e with
      cause := cause, leaveAt := some (n + 2, st),
      due := e.due ++ [⟨[], [], waferOf e (n + 2) (l.tOf (n + 2)) cause 0xFFFF e.step st 0 0, false⟩] }

/-- HOLD applied in cycle `n`, from RUNNING or ABORTING: generators to HOLD, the hold step aligned at t_(n+2), the
remaining times frozen (R230). -/
def ChanI.hold (e : ChanI) (l : Lane) (n why cause : Nat) : ChanI :=
  let t2 := l.tOf (n + 2)
  let gens := genTargets (e.bank l Banks.active)
  let chain := decide (e.state = 3)
  let hs := if chain then 0xFFFF else l.stepHold e.chan e.step
  { e with
      state := 2, heldFrom := e.state, heldT := t2, heldWhy := why, cause := cause, dRem := e.ta + e.dur - t2,
      tRem := e.tmo.map (fun x => e.ta + x - t2), dwells := [], gens := gens, cmdCyc := some n,
      due := e.due ++ [⟨gens, if chain then [] else e.bank l Banks.hold, waferOf e (n + 2) t2 cause hs e.step 2 0 0, true⟩] }

/-- RESUME applied in cycle `n`: the step is applied anew at n + 2 with D_rem and T_rem, and the generators that the hold
stopped run again (R231). -/
def ChanI.resume (e : ChanI) (l : Lane) (n : Nat) : ChanI :=
  let t2 := l.tOf (n + 2)
  let xs := e.bank l Banks.active
  let path (g : Nat) : Nat :=
    ((xs.find? (fun x => decide (4 ≤ bits x.1 31 28 ∧ bits x.1 31 28 ≤ 6 ∧ bits x.1 23 0 % 512 = g))).map (fun x => bits x.1 27 26)).getD 0
  let runs : List (Word × Word) := e.gens.map (fun g => (word (6 * 2 ^ 28 + path g * 2 ^ 26 + g), 1#32))
  { e with
      state := e.heldFrom, heldWhy := 0, acyc := n + 2, ta := t2, dur := e.dRem, tmo := e.tRem, cause := 5, dwells := [],
      gens := [], cmdCyc := some n,
      due := e.due ++ [⟨[], xs ++ runs, waferOf e (n + 2) t2 5 e.step e.step e.heldFrom 0 0, true⟩] }

/-- A command refused: CMD_RES 2, counted, EV_PEND.CMD_REFUSED, ERR_CODE 0x40 (R216). -/
def chanRefuse (w : Work) (e : ChanI) (source : Nat) : Work :=
  (((w.put (.chanI { e with cmdRes := 2 })).put (.cnt (Reg.RECIPE_CH_COUNT e.chan) 31 16 1)).put (.ev (chanPage e.chan) 3)).put
    (.err (chanPage e.chan) 0x40 source (Reg.RECIPE_CH_CMD e.chan))

/-- A command applied to channel `c` in cycle `n`: 1 START, 2 HOLD, 3 RESUME, 4 ABORT, with START_STEP (R217). -/
def chanCmd (w0 : Work) (c cmd start n source : Nat) : Work :=
  let w := w0.settle c n
  let l := w.l
  let e := l.chan c
  let ok (e' : ChanI) : Work := (w.put (.chanI { e' with cmdRes := 1, cmdCyc := some n })).put (.ev (chanPage c) 1)
  let refused := chanRefuse w e source
  if cmd = 0 ∨ 5 ≤ cmd then w
  else if e.leaveAt.isSome then refused
  else match cmd with
    | 1 =>
      if (e.state = 0 ∨ e.state = 4 ∨ e.state = 5) ∧ start < l.stepCount c then
        let e1 : ChanI := { e with
          entry := start,
          ctx := [l.rd (Reg.RECIPE_CH_CTX c 0), l.rd (Reg.RECIPE_CH_CTX c 1), l.rd (Reg.RECIPE_CH_CTX c 2), l.rd (Reg.RECIPE_CH_CTX c 3)] }
        ok ((e1.edgeTo l start 0 1 n (l.stepWrites c start) 0 0).stage l)
      else refused
    | 2 => if e.state = 1 then ok (e.hold l n 0 4) else if e.state = 2 then w else refused
    | 3 => if e.state = 2 ∧ e.orphan = false then ok (e.resume l n) else refused
    | _ =>
      if e.state = 1 ∨ (e.state = 2 ∧ e.heldFrom = 1) ∨ (e.state = 2 ∧ e.orphan) then
        let ab := if e.orphan then 0xFFFF else l.stepAbort c e.step
        if ab = 0xFFFF then
          w.put (.chanI { e.leave l 6 5 n with heldWhy := 0, cmdRes := 1, cmdCyc := some n })
        else ok (e.edgeTo l ab 6 3 n (e.bank l Banks.abort) 0 0)
      else refused

/-! ### Writes (R219, R226, R227) -/

/-- Write MODE of a generator; its engine sees it become RUN (R172). -/
def Work.genMode (w : Work) (g v : Nat) : Work :=
  let a := pgAddr g 2
  let new := withBits (w.l.win a) 31 30 v
  (modeSeen w.l a (w.l.win a) new).foldl Work.put (w.put (.win a new))

/-- Commit one write of a step. -/
def stepWrite (c : Nat) (w : Work) (x : Word × Word) : Work :=
  let loc := bits x.1 23 0
  let v := x.2.toNat
  match bits x.1 31 28 with
  | 0 => w.put (.img loc 2 (v % 2 ^ 16))
  | 1 => w.put (.img loc 4 v)
  | 2 =>
    let m := BitVec.ofNat 16 (v / 2 ^ 16)
    let old := BitVec.ofNat 16 (w.l.img loc 2)
    w.put (.img loc 2 ((old &&& ~~~m) ||| (BitVec.ofNat 16 v &&& m)).toNat)
  | 3 => w.bits (peAddr (loc % 4096) 11) 15 0 v
  | 4 => w.bits (pgAddr (loc % 512) 2) 15 0 v
  | 5 =>
    (List.range 6).foldl (fun w k => w.put (.win (pgAddr (loc % 512) (3 + k)) (w.l.win (limitAddr c (v % 256) k)))) w
  | 6 => w.genMode (loc % 512) (v % 4)
  | _ => w

/-- A write is committed in the cycle after the decision: PATH 1 and aligned. -/
def isPath1 (x : Word × Word) : Bool := decide (bits x.1 27 26 = 1 ∧ bits x.1 25 25 = 0)

/-- What the node of channel `c` does in cycle `n` for one edge: generators to HOLD, the writes of this cycle, path-1 writes
held to the next (R227), the record. -/
def runDue (n c : Nat) (w : Work) (d : EdgeDue) : Work :=
  let w1 := d.hold.foldl (fun w g => w.genMode g 2) w
  let w2 := (d.writes.filter (fun x => !isPath1 x)).foldl (stepWrite c) w1
  let e := w2.l.chan c
  let w3 := (w2.put (.chanI { e with path1 := e.path1 ++ (d.writes.filter isPath1).map (fun x => (n + 1, x.1, x.2)) })).put (.wafer d.record)
  if d.edge then (w3.put (.inc (Reg.RECIPE_CH_EDGES c) 1)).put (.ev (chanPage c) 0) else w3

/-- At the start of channel `c`'s node in cycle `n`: the path-1 writes held over from the cycle before (R226, R227). -/
def pathStart (w : Work) (c n : Nat) : Work :=
  let e := w.l.chan c
  match e.path1.filter (fun x => decide (x.1 ≤ n)) with
  | [] => w
  | xs => (xs.foldl (fun w x => stepWrite c w x.2) w).put (.chanI { e with path1 := e.path1.filter (fun x => decide (n < x.1)) })

/-! ### Conditions (R221, R224, R225) -/

/-- Source number of a trigger unit in a stamp's KEY (R357). -/
def trigSource (u : Nat) : Nat := 0x4000 + u

/-- Evaluate condition `i` of the step in cycle `n` at t_N: a latch, or the new dwell start; invalid evidence counts, of a
condition that has latched too. -/
def condEval (w : Work) (e : ChanI) (i pool n : Nat) : Work × ChanI :=
  let latched := e.latches.any (fun x => x.idx == i)
  let w0 := w.l.win (condAddr e.chan pool 0)
  let kind := bits w0 31 28
  let tN := w.l.tOf n
  let hi := match e.tmo with | some x => e.ta + x | none => 2 ^ 64
  if kind = 4 then
    if latched then (w, e) else
    let trig := (w.l.win (condAddr e.chan pool 1)).toNat % 64
    match w.l.cyc.stamps.find? (fun s => s.1 == trigSource trig && inWindow s.2.1 e.ta hi) with
    | some s => (w, { e with latches := e.latches ++ [⟨i, n, s.2.1, s.2.2⟩] })
    | none => (w, e)
  else
    let rd := w.l.readRef (w.l.win (condAddr e.chan pool 1)).toNat
    let a := signed 32 (w.l.win (condAddr e.chan pool 2)).toNat
    let b := signed 32 (w.l.win (condAddr e.chan pool 3)).toNat
    let holds := match kind with
      | 0 => decide (a ≤ rd.1)
      | 1 => decide (rd.1 < a)
      | 2 => decide (a ≤ rd.1 ∧ rd.1 < b)
      | _ => decide (rd.1 ≠ 0)
    let rest := e.dwells.filter (fun d => d.1 != i)
    if rd.2 ≠ 0 then
      ((w.put (.cnt (Reg.RECIPE_CH_COUNT e.chan) 15 0 1)).put (.ev (chanPage e.chan) 4), { e with dwells := rest })
    else if latched then (w, e)
    else if !(holds && inWindow tN e.ta hi) then (w, { e with dwells := rest })
    else
      let ts := ((e.dwells.find? (fun d => d.1 == i)).map Prod.snd).getD tN
      if ts + bits w0 23 0 * 1000 ≤ tN then (w, { e with latches := e.latches ++ [⟨i, n, tN, 0⟩], dwells := rest })
      else (w, { e with dwells := rest ++ [(i, ts)] })

/-- Evaluate the conditions of the step in force, in pool order. -/
def condsEval (n pool : Nat) : Nat → Nat → Work → ChanI → Work × ChanI
  | 0, _, w, e => (w, e)
  | k + 1, i, w, e =>
    let r := condEval w e i (pool + i) n
    condsEval n pool k (i + 1) r.1 r.2

/-- The latch that completed the step's COND: the first for ANY, the last for ALL, the earliest in the pool of those
of one cycle (R474). -/
def evidenceOf (cond : Nat) (ls : List Latch) : Latch :=
  let pick (f : Latch → Latch → Bool) : Latch :=
    ls.foldl (fun b x => if f x b then x else b) (ls.headD ⟨0, 0, 0, 0⟩)
  if cond = 1 then pick (fun x b => decide (x.cyc < b.cyc ∨ (x.cyc = b.cyc ∧ x.idx < b.idx)))
  else pick (fun x b => decide (b.cyc < x.cyc ∨ (x.cyc = b.cyc ∧ x.idx < b.idx)))

/-- The cycle that contains an instant. -/
def Lane.cycOf (l : Lane) (t : Nat) : Nat :=
  l.get64 Reg.CYCLE_ORG_NUM_LO Reg.CYCLE_ORG_NUM_HI +
    (if l.period = 0 then 0 else (t - l.get64 Reg.CYCLE_ORG_T_LO Reg.CYCLE_ORG_T_HI) / l.period)

/-- The timeout cycle of the step in force (R225, R231). -/
def Lane.timeoutCyc (l : Lane) (e : ChanI) (trig : Bool) : Option Nat :=
  e.tmo.map (fun x => if x = 0 then e.acyc else l.cycOf (e.ta + x - 1) + (if trig then 3 else 0))

/-- One of the step's conditions is a TRIGGER. -/
def hasTrigger (l : Lane) (c pool : Nat) : Nat → Bool
  | 0 => false
  | k + 1 => decide (bits (l.win (condAddr c (pool + k) 0)) 31 28 = 4) || hasTrigger l c pool k

/-- The step-end decision of cycle `n` (R223–R226, R217). -/
def stepDecide (w0 : Work) (e0 : ChanI) (n : Nat) : Work × ChanI :=
  let c := e0.chan
  let h3 := w0.l.win (stepAddr c e0.step 3)
  let cond := bits h3 31 30
  let nc := bits h3 29 27
  let r := condsEval n (bits h3 13 0) nc 0 w0 e0
  let w := r.1
  let e := r.2
  let met := if cond = 0 then true else if cond = 1 then decide (e.latches ≠ []) else decide (e.latches.length = nc)
  let timeUp := decide (e.ta + e.dur ≤ w.l.tOf (n + 2))
  let isTmo := match w.l.timeoutCyc e (hasTrigger w.l c (bits h3 13 0) nc) with
    | some m => decide (m ≤ n) && !met
    | none => false
  let next := w.l.stepNext c e.step
  let alt := w.l.stepAlt c e.step
  let xs := e.bank w.l Banks.next
  if met && timeUp then
    if next = 0xFFFF then (w, e.leave w.l 7 (if e.state = 3 then 5 else 4) n)
    else if cond = 0 then (w, e.edgeTo w.l next 1 e.state n xs 0 0)
    else
      let ev := evidenceOf cond e.latches
      (w, e.edgeTo w.l next 2 e.state n xs ev.t ev.subns)
  else if isTmo then
    let w1 := w.put (.ev (chanPage c) 2)
    if alt ≠ 0xFFFF then (w1, e.edgeTo w.l alt 3 e.state n (e.bank w.l Banks.alt) 0 0)
    else if e.state = 3 then (w1, e.leave w.l 3 5 n)
    else (w1.put (.ev (chanPage c) 1), e.hold w.l n 1 4)
  else (w, e)

/-- The channel's command word in the cycle image. -/
def Lane.cmdWordOff (l : Lane) (c : Nat) : Option Nat :=
  l.image.bind (fun im => (im.chans.find? (fun x => x.chan == c)).bind ChanImg.cmdOff)

/-- One execution of channel `c`'s node in cycle `n`: a command read from the image one cycle ago, the command word of this
cycle, what the commands ask, or the step-end decision (R214, R216, R217, R226). -/
def recipeExec (w00 : Work) (c n : Nat) : Work :=
  let w0 := w00.settle c n
  let e0 := w0.l.chan c
  let w1 := match e0.imgCmd with
    | some x => chanCmd (w0.put (.chanI { e0 with imgCmd := none })) c (bits x 2 0) (bits x 27 16) n 0x12
    | none => w0
  let w2 := match w1.l.cmdWordOff c with
    | some off =>
      let x := word (w1.l.img off 4)
      if x = 0#32 then w1 else (w1.put (.img off 4 0)).put (.chanI { w1.l.chan c with imgCmd := some x })
    | none => w1
  let e := w2.l.chan c
  let r := if (e.state = 1 ∨ e.state = 3) ∧ e.acyc ≤ n ∧ e.cmdCyc ≠ some n ∧ e.leaveAt.isNone then stepDecide w2 e n else (w2, e)
  r.2.due.foldl (runDue n c) (r.1.put (.chanI { r.2 with due := [] }))

/-! ### Warm resumption and exchange (R234, R235) -/

/-- A warm resumption at cycle `n` holds every channel that was RUNNING or ABORTING (R234). -/
def chanWarm (l : Lane) (n : Nat) (e : ChanI) : ChanI :=
  let e := e.settle n
  if e.state = 1 ∨ e.state = 3 then e.hold l n 2 8 else e

/-- The channel after an exchange in cycle `n`: `k` is the step of the same name in the new table; t_A stays, and the new DUR
and TIMEOUT count from it, for a held channel up to its hold. One whose step is gone is held and can only be aborted
(R235; the record of that hold: DESIGN CHOICE, log entry 153). -/
def chanExchange (l : Lane) (n : Nat) (e : ChanI) (k : Option Nat) : ChanI :=
  if e.state = 1 ∨ e.state = 2 ∨ e.state = 3 then
    match k with
    | some s =>
      let d := l.stepDur e.chan s
      let m := l.stepTmo e.chan s
      (if e.state = 2 then { e with step := s, dRem := e.ta + d - e.heldT, tRem := m.map (fun x => e.ta + x - e.heldT) }
        else { e with step := s, dur := d, tmo := m }).stage l
    | none =>
      let from' := if e.state = 2 then e.heldFrom else e.state
      { e with
          state := 2, heldFrom := from', heldWhy := 3, orphan := true, dwells := [], cmdCyc := some n, cause := 9,
          due := [⟨[], [], waferOf e (n + 2) (l.tOf (n + 2)) 9 0xFFFF e.step 2 0 0, true⟩] }
  else e

end Sys2Proof.Machine
end

