-- ==== Sys2Proof/Machine/Ledger.lean ====
section
/-! DEFINITION. The power ledger (R87–R92): requests, grants, revocation, release and refusal. -/

namespace Sys2Proof.Machine

/-- Quanta of a class (R88); PHY_TRAIN per port. -/
def classQuanta (c : Nat) : Nat :=
  match c with
  | 0 => 4 | 1 => 4 | 2 => 8 | 3 => 2 | 4 => 6 | 5 => 22 | 6 => 8 | _ => 0

/-- The size of a grant of a class: PHY_TRAIN for a whole number of ports, of which a request names the quanta (R88). -/
def classSize (c quanta : Nat) : Nat := if c = 3 then 2 * max 1 (quanta / 2) else classQuanta c

/-- A class of mirrored scope (R88). -/
def mirroredClass (c : Nat) : Bool := decide (c < 3)

/-- Running profile Economy (CYCLE_STAT.PROFILE 3). -/
def Lane.economy (l : Lane) : Bool := decide (l.get F.CYCLE_STAT.PROFILE = 3)

/-- The ledger has a class: CONV_FULL and FAST_ARM exist in Economy only (R88). -/
def Lane.hasClass (l : Lane) (c : Nat) : Bool := decide (c < 7) && (decide (2 ≤ c) || l.economy)

/-- Sum of the quanta of grants. -/
def quantaOf (gs : List Grant) : Nat := (gs.map (fun g => g.req.quanta)).sum

/-- The pool: budget less standing booking (R87). -/
def Lane.pool (l : Lane) : Nat := l.get F.LEDGER_STAT.BUDGET - l.get F.LEDGER_BOOK.STANDING

/-- The free pool. -/
def Lane.freePool (l : Lane) : Nat := l.pool - quantaOf l.ledger.grants

/-- Show the ledger in its registers. -/
def Lane.ledgerShow (l : Lane) : Lane :=
  let l1 := (l.set F.LEDGER_STAT.FREE l.freePool).set F.LEDGER_BOOK.GRANTED (quantaOf l.ledger.grants)
  (List.range 7).foldl (fun m c =>
    (m.set (F.LEDGER_CLASS.GRANTED c) (quantaOf (l.ledger.grants.filter (fun g => g.req.cls == c)))).set
      (F.LEDGER_CLASS.WAITING c) (l.ledger.waiting.filter (fun r => r.cls == c)).length) l1

/-- Standing booking of a profile with `t` ports in 1000BASE-T, in quanta: 32.5 W with all 24, a quantum less for
each port in 1000BASE-X (R87). -/
def standing (economy : Bool) (t : Nat) : Nat := if economy then 82 else 106 + min t 24

/-- Requests in the order of service: class, then arrival (R90). -/
def insReq (r : LReq) : List LReq → List LReq
  | [] => [r]
  | x :: t => if r.cls < x.cls ∨ (r.cls = x.cls ∧ r.order < x.order) then r :: x :: t else x :: insReq r t

/-- The local grant revoked next: highest class, and within a class the latest granted (R91). -/
def revokeNext (gs : List Grant) : Option Grant :=
  (gs.filter (fun g => !mirroredClass g.req.cls)).foldl
    (fun b g => match b with
      | none => some g
      | some x => if x.req.cls < g.req.cls ∨ (x.req.cls = g.req.cls ∧ x.g ≤ g.g) then some g else some x) none

/-- Revoke local grants one at a time until the free pool covers `q` (R91). -/
def revokeFor (q : Nat) : Nat → Lane → Lane
  | 0, l => l
  | n + 1, l =>
    if q ≤ l.freePool then l
    else match revokeNext l.ledger.grants with
      | none => l
      | some g =>
        revokeFor q n (Lane.ev { l with ledger := { l.ledger with grants := l.ledger.grants.erase g, stopping := l.ledger.stopping ++ [g.req] } } 0x20 1)

/-- Enter a grant; a FLASH_BURST grant replaces the FLASH_STD grant (R88). -/
def grantReq (l : Lane) (r : LReq) (now : Nat) : Lane :=
  let gs := if r.cls = 5 then l.ledger.grants.filter (fun g => g.req.cls != 4) else l.ledger.grants
  { l with ledger := { l.ledger with grants := gs ++ [⟨r, now⟩], news := l.ledger.news ++ [(1, r)] } }

/-- Quanta free for a request: a FLASH_BURST request counts the FLASH_STD grant it would replace. -/
def Lane.freeFor (l : Lane) (r : LReq) : Nat :=
  l.freePool + (if r.cls = 5 then quantaOf (l.ledger.grants.filter (fun g => g.req.cls == 4)) else 0)

/-- A request can be granted now: a mirrored one from the pool less the mirrored grants, a local one from the free
pool and outside an over-budget hold (R90–R92). -/
def Lane.fits (l : Lane) (r : LReq) : Bool :=
  if mirroredClass r.cls then
    decide (r.quanta + quantaOf (l.ledger.grants.filter (fun g => mirroredClass g.req.cls)) ≤ l.pool)
  else decide (r.quanta ≤ l.freeFor r) && !l.ledger.excess

/-- Grant a request that fits, revoking local grants for a mirrored one. -/
def takeReq (l : Lane) (r : LReq) (now : Nat) : Lane :=
  let l1 := if mirroredClass r.cls then revokeFor r.quanta l.ledger.grants.length l else l
  grantReq l1 r now

/-- Serve waiting requests in order; each that fits is granted (R90). -/
def serveWaiting (now : Nat) : List LReq → Lane → Lane
  | [], l => l
  | r :: t, l =>
    if l.fits r then
      serveWaiting now t (takeReq { l with ledger := { l.ledger with waiting := l.ledger.waiting.erase r } } r now)
    else serveWaiting now t l

/-- Serve the queue and show the ledger. -/
def Lane.ledgerServe (l : Lane) (now : Nat) : Lane := (serveWaiting now l.ledger.waiting l).ledgerShow

/-- Refuse a request: counted, EV_PEND.REFUSED (R90). -/
def refuseReq (l : Lane) (r : LReq) : Lane :=
  let l1 := (l.cnt (F.LEDGER_CLASS.REFUSED r.cls) 1).ev 0x20 0
  { l1 with ledger := { l1.ledger with news := l1.ledger.news ++ [(0, r)] } }

/-- A request that the ledger takes up: granted if it fits, refused if it never can or may not wait, else it waits. -/
def ledgerTake (now : Nat) (l : Lane) (x : LReq) : Lane :=
  let r : LReq := { x with order := l.ledger.arrivals, since := now }
  let l0 := { l with ledger := { l.ledger with arrivals := l.ledger.arrivals + 1 } }
  if l0.pool < r.quanta then refuseReq l0 r
  else if l0.fits r then takeReq l0 r now
  else if l0.get (F.LEDGER_WAIT.MS r.cls) = 0 then refuseReq l0 r
  else { l0 with ledger := { l0.ledger with waiting := insReq r l0.ledger.waiting } }

/-- Requests of one CLK_REG cycle in the order in which they are taken up: by class, then by the rank of the asker, which
within a class is the asker's number (R31, R90). -/
def insAsk (r : LReq) : List LReq → List LReq
  | [] => [r]
  | x :: t => if r.cls < x.cls ∨ (r.cls = x.cls ∧ r.who < x.who) then r :: x :: t else x :: insAsk r t

/-- A request of a class that the ledger has reaches it; it is decided at the end of the CLK_REG cycle (R90). -/
def Lane.ledgerAsk (l : Lane) (cls quanta dur who now : Nat) : Lane :=
  if l.hasClass cls then
    { l with ledger := { l.ledger with asked := insAsk ⟨cls, classSize cls quanta, dur, l.ledger.arrivals, now, who⟩ l.ledger.asked } }
  else l

/-- The requests of a CLK_REG cycle are decided, after every release in it (R90). -/
def Lane.ledgerDecide (l : Lane) (now : Nat) : Lane :=
  if l.ledger.asked = [] then l
  else (l.ledger.asked.foldl (ledgerTake now) { l with ledger := { l.ledger with asked := [] } }).ledgerShow

/-- A request of an asker in a class is before the ledger: not yet decided, waiting, or to return from a revoked operation. -/
def Lane.asking (l : Lane) (cls who : Nat) : Bool :=
  let mine (r : LReq) : Bool := r.cls == cls && r.who == who
  l.ledger.asked.any mine || l.ledger.waiting.any mine || l.ledger.stopping.any mine

/-- Release every grant, and withdraw every waiting request, of an asker in a class; then serve the queue (R90). -/
def Lane.ledgerRelease (l : Lane) (cls who now : Nat) : Lane :=
  Lane.ledgerServe
    { l with
        ledger := { l.ledger with
          grants := l.ledger.grants.filter (fun g => !(g.req.cls == cls && g.req.who == who)),
          waiting := l.ledger.waiting.filter (fun r => !(r.cls == cls && r.who == who)),
          stopping := l.ledger.stopping.filter (fun r => !(r.cls == cls && r.who == who)) } } now

/-- An operation that needs its grant no longer releases it, and withdraws what it has asked. -/
def Lane.ledgerFree (l : Lane) (cls who now : Nat) : Lane :=
  Lane.ledgerRelease { l with ledger := { l.ledger with asked := l.ledger.asked.filter (fun r => !(r.cls == cls && r.who == who)) } } cls who now

/-- A grant of a class is held for an asker. -/
def Lane.granted (l : Lane) (cls who : Nat) : Bool :=
  l.ledger.grants.any (fun g => g.req.cls == cls && g.req.who == who)

/-- Ticks of 2.5 ns in a number of ns, rounded up (R44). -/
def ticksOf (ns : Nat) : Nat := (2 * ns + 4) / 5

/-- A grant at the end of its window [g, g + D) (R89). -/
def grantEndAt (l : Lane) (now : Nat) : Option Grant := l.ledger.grants.find? (fun g => decide (g.g + ticksOf g.req.dur ≤ now))

/-- The first grant at its end returns to the pool; none, nothing (R89, R90). -/
def Lane.ledgerEnd (l : Lane) (now : Nat) : Lane :=
  match grantEndAt l now with
  | some g => Lane.ledgerServe { l with ledger := { l.ledger with grants := l.ledger.grants.erase g, news := l.ledger.news ++ [(2, g.req)] } } now
  | none => l

/-- The first waiting request that outlasts its class's LEDGER_WAIT is refused; 0xFFFF never refuses (R90). -/
def Lane.ledgerTimeout (l : Lane) (now : Nat) : Lane :=
  match l.ledger.waiting.find? (fun r =>
      let ms := l.get (F.LEDGER_WAIT.MS r.cls)
      decide (ms ≠ 0xFFFF ∧ r.since + ms * 400000 < now)) with
  | some r => (refuseReq { l with ledger := { l.ledger with waiting := l.ledger.waiting.erase r } } r).ledgerShow
  | none => l

/-- A revoked operation stops at its safe point: its request returns to the queue with its arrival order (R91). Its
LEDGER_WAIT starts afresh (DESIGN CHOICE, log entry 146: R91 does not say whether the wait runs on). -/
def Lane.ledgerStopped (l : Lane) (now : Nat) : Lane :=
  match l.ledger.stopping with
  | [] => l
  | r :: t =>
    Lane.ledgerServe { l with ledger := { l.ledger with stopping := t, waiting := insReq { r with since := now } l.ledger.waiting, news := l.ledger.news ++ [(2, r)] } } now

end Sys2Proof.Machine
end

