-- ==== Sys2Proof/Machine/Logic.lean ====
section
/-! DEFINITION. Cyclic programs (chapter 08): timers, counters and edge detectors, the activation of a task, the
commands to a program, withdrawal and trap. What a program itself computes is a free value (log entry 22). -/

namespace Sys2Proof.Machine

/-- LOGIC page of engine `n`. -/
def logicPage (n : Nat) : Nat := 0x300 + n
/-- Word `w` of timer `i` (R212). -/
def timerAddr (i w : Nat) : Nat := 0x01C00000 + 32 * i + 4 * w
/-- Word `w` of counter `i`. -/
def counterAddr (i w : Nat) : Nat := 0x01C80000 + 16 * i + 4 * w
/-- Edge detector `i`. -/
def edgeAddr (i : Nat) : Nat := 0x01CC0000 + 4 * i

/-! ### Timers, counters, edge detectors (R195–R197) -/

/-- A timer's state: IN of the last activation, Q, RUN, START, ET. -/
structure TimerSt where
  inp : Bool
  q : Bool
  run : Bool
  start : Nat
  et : Nat
  deriving DecidableEq, Repr

/-- One evaluation of a timer of a kind (0 TON, 1 TOF, 2 TP) at time `t` with input `i` and preset `pt` (R195). -/
def timerEval (kind : Nat) (s : TimerSt) (i : Bool) (pt t : Nat) : TimerSt :=
  match kind with
  | 0 =>
    if i then
      let start := if s.run then s.start else t
      ⟨true, decide (t - start ≥ pt), true, start, min (t - start) pt⟩
    else ⟨false, false, false, s.start, 0⟩
  | 1 =>
    if i then ⟨true, true, false, s.start, 0⟩
    else
      let start := if s.inp then t else s.start
      let run := s.inp || s.run
      if run then ⟨false, decide (t - start < pt), true, start, min (t - start) pt⟩ else ⟨false, false, false, start, s.et⟩
  | _ =>
    let start := if !s.run && i && !s.inp then t else s.start
    let run := s.run || (i && !s.inp)
    if run then
      if t - start < pt then ⟨i, true, true, start, t - start⟩
      else ⟨i, false, false, start, if i then pt else 0⟩
    else ⟨i, false, false, start, if i then s.et else 0⟩

/-- A timer entry as stored (R213). -/
def Lane.timerSt (l : Lane) (i : Nat) : TimerSt :=
  let w0 := l.win (timerAddr i 0)
  ⟨decide (bits w0 29 29 = 1), decide (bits w0 28 28 = 1), decide (bits w0 27 27 = 1),
   (l.win (timerAddr i 4)).toNat + (l.win (timerAddr i 5)).toNat * 2 ^ 32, l.u48 (timerAddr i 6)⟩

/-- 1 for true. -/
def b2n (b : Bool) : Nat := if b then 1 else 0

/-- Evaluate timer `i` of program `p` at `t`, its PT as given modulo 2^48. -/
def timerStep (p t : Nat) (w : Work) (x : Nat × Bool × Nat) : Work :=
  let i := x.1 % 16384
  let w0 := w.l.win (timerAddr i 0)
  if bits w0 31 30 = 3 ∨ bits w0 6 0 ≠ p then w else
    let pt := x.2.2 % 2 ^ 48
    let s := timerEval (bits w0 31 30) (w.l.timerSt i) x.2.1 pt t
    (((((((w.put (.win (timerAddr i 0) (withBits w0 29 27 (4 * b2n s.inp + 2 * b2n s.q + b2n s.run)))).put
      (.win (timerAddr i 1) (word pt))).put (.win (timerAddr i 2) (word (pt / 2 ^ 32)))).put
      (.win (timerAddr i 4) (word s.start))).put (.win (timerAddr i 5) (word (s.start / 2 ^ 32)))).put
      (.win (timerAddr i 6) (word s.et))).put (.win (timerAddr i 7) (word (s.et / 2 ^ 32))))

/-- The new count of a counter of a kind (0 CTU, 1 CTD, 2 CTUD): R over LD over counting, saturating (R196). -/
def counterVal (kind : Nat) (cv pv : Int) (up down r ld : Bool) : Int :=
  let lo : Int := -(2 ^ 31)
  let hi : Int := 2 ^ 31 - 1
  match kind with
  | 0 => if r then 0 else if up then clampI (cv + 1) lo hi else cv
  | 1 => if ld then pv else if down then clampI (cv - 1) lo hi else cv
  | _ => if r then 0 else if ld then pv
    else if up && !down then clampI (cv + 1) lo hi else if down && !up then clampI (cv - 1) lo hi else cv

/-- Evaluate counter `i` of program `p` (R196). -/
def counterStep (p : Nat) (w : Work) (x : Nat × Bool × Bool × Bool × Bool × Int) : Work :=
  let i := x.1 % 16384
  let w0 := w.l.win (counterAddr i 0)
  let kind := bits w0 31 30
  if kind = 3 ∨ bits w0 6 0 ≠ p then w else
    let cu := x.2.1
    let cd := x.2.2.1
    let pv := clampI x.2.2.2.2.2 (-(2 ^ 31)) (2 ^ 31 - 1)
    let cv := counterVal kind (signed 32 (w.l.win (counterAddr i 1)).toNat) pv (cu && decide (bits w0 27 27 = 0))
      (cd && decide (bits w0 26 26 = 0)) x.2.2.2.1 x.2.2.2.2.1
    let qu := decide (kind ≠ 1) && decide (cv ≥ pv)
    let qd := decide (kind ≠ 0) && decide (cv ≤ 0)
    ((w.put (.win (counterAddr i 0) (withBits w0 29 26 (8 * b2n qu + 4 * b2n qd + 2 * b2n cu + b2n cd)))).put
      (.win (counterAddr i 1) (word (twos 32 cv)))).put (.win (counterAddr i 2) (word (twos 32 pv)))

/-- Evaluate edge detector `i` of program `p` (R197); one new to the image takes its first input as PREV (R207). -/
def edgeStep (p : Nat) (w : Work) (x : Nat × Bool) : Work :=
  let i := x.1 % 65536
  let w0 := w.l.win (edgeAddr i)
  if bits w0 28 28 = 0 ∨ bits w0 6 0 ≠ p then w else
    let prev := if w.l.car.edgeNew.contains i then x.2 else decide (bits w0 30 30 = 1)
    let q := if bits w0 31 31 = 0 then x.2 && !prev else prev && !x.2
    (w.put (.win (edgeAddr i) (withBits w0 30 29 (2 * b2n x.2 + b2n q)))).put (.edgeOld i)

/-! ### Programs -/

/-- Program `p` of the running image. -/
def Lane.progImg (l : Lane) (p : Nat) : Option ProgImg := l.image.bind (fun im => im.progs.find? (fun x => x.prog == p))

/-- The state of program `p`; a slot without one reads STOP. -/
def Lane.prog (l : Lane) (p : Nat) : ProgI :=
  (l.car.progs.find? (fun e => e.prog == p)).getD ⟨p, 0, 0, 0, 0, false, false, false, false, 0, [], false, false⟩

/-- A program at a cold start, or new to an exchanged image: RUN with COLD due (R191, R207). -/
def progNew (p cause : Nat) : ProgI := ⟨p, 1, cause, 0, 0, false, true, false, false, 0, [], false, false⟩

/-- Store the state of a program. -/
def Lane.setProg (l : Lane) (e : ProgI) : Lane := l.apply (.progI e)

/-- The stations among the inputs of a program that are absent: those whose STATION_OK reads 0 (R202). -/
def Lane.downSta (l : Lane) (im : ProgImg) : List (Nat × Nat) :=
  ((im.reads.filter (fun x => l.absent x.ring x.sta)).map (fun x => (x.ring, x.sta))).eraseDups

/-- The cycle image as a program reads it: an input word of an absent station reads as its substitute (R203). -/
def Lane.progView (l : Lane) (im : ProgImg) : List Host.Cell :=
  (im.reads.filter (fun x => l.absent x.ring x.sta)).foldl (fun m x => match x.subst with
    | .last => putBytes m x.off x.len (bytesAt l.car.subst x.off x.len)
    | .value v => putBytes m x.off x.len v
    | .zero => putBytes m x.off x.len 0) l.car.img

/-- Run one task of program `p`: its data, timers, counters and edges, and its outputs unless they are discarded
(R193). The trap code, if it traps, and the time it takes. -/
def taskRun (w : Work) (im : ProgImg) (sl task t : Nat) (outs : Bool) : Work × Option Nat × Nat :=
  let e := w.l.prog im.prog
  let r := Config.progRun ⟨sl, im.prog, task, t, w.l.progView im, w.l.car.win, w.l.downSta im, w.l.cyc.stamps, e.errCount,
    e.errList, e.errMore⟩
  let eng := im.prog / 16
  match r.trap with
  | some c => (w, some (c % 5 + 1), r.time)
  | none =>
    let data := r.data.filter (fun d => decide (d.1 % 4 = 0 ∧ d.1 / 0x80000 = 0x30 + eng))
    let w1 := data.foldl (fun w d => w.put (.win d.1 d.2)) w
    let w2 := r.timers.foldl (timerStep im.prog t) w1
    let w3 := r.counters.foldl (counterStep im.prog) w2
    let w4 := r.edges.foldl (edgeStep im.prog) w3
    let w5 := if outs then (im.outs.zip r.outs).foldl (fun w o => w.put (.img o.1.1 o.1.2.1 o.2)) w4 else w4
    (w5, none, r.time)

/-- Run the tasks of a list one after another; the first trap ends the activation. -/
def tasksRun (im : ProgImg) (sl t : Nat) (outs : Bool) : List Nat → Work → Nat → Work × Option (Nat × Nat) × Nat
  | [], w, n => (w, none, n)
  | k :: ks, w, n =>
    match taskRun w im sl k t outs with
    | (w', none, d) => tasksRun im sl t outs ks w' (n + d)
    | (w', some c, d) => (w', some (c, k), n + d)

/-- The tasks due at a node of program `p`: COLD or WARM, then ERROR at the event node; the cyclic task at the cyclic
node in RUN, or in HOLD under STEP (R190–R194). -/
def dueTasks (e : ProgI) (event : Bool) : List Nat :=
  if event then (if e.cold then [1] else if e.warm then [2] else []) ++ (if e.err then [3] else [])
  else if e.st = 1 ∨ (e.st = 2 ∧ e.stepPend) then [0] else []

/-- The stop values of a program, written in its first cycle in STOP (R193). -/
def stopValues (w : Work) (im : ProgImg) : Work :=
  let e := w.l.prog im.prog
  if e.st = 0 ∧ e.stopDue then
    (im.stopVals.foldl (fun w o => w.put (.img o.1 o.2.1 o.2.2)) w).put (.progI { e with stopDue := false })
  else w

/-- An activation is withdrawn: OVERRUN, the counts, the latch, the record (R199); at OVR_LIMIT the program stops (R200).
Event tasks are due in their cycle only (R191; DEDUCED, log entry 23). -/
def withdraw (w : Work) (p task cyc : Nat) : Work :=
  let eng := p / 16
  let e0 := w.l.prog p
  let e := if task = 0 then e0
    else { e0 with cold := false, warm := false, err := false, errCount := 0, errList := [], errMore := false }
  let consec := min (e.consec + 1) 255
  let lim := w.l.get (F.LOGIC_PCTL.OVR_LIMIT eng (p % 16))
  let w1 := (w.put (.ev (logicPage eng) 0)).put (.cnt (Reg.LOGIC_OVR_COUNT eng) (F.LOGIC_OVR_COUNT.WITHDRAWN eng).hi
    (F.LOGIC_OVR_COUNT.WITHDRAWN eng).lo 1)
  let w2 := if w1.l.flag (F.LOGIC_OVR_LATCH.VALID eng) then w1
    else ((w1.put (.fld (Reg.LOGIC_OVR_LATCH eng) 31 0 (2 ^ 31 + task * 2 ^ 28 + p % 16))).put
      (.fld (Reg.LOGIC_OVR_CYC_LO eng) 31 0 cyc)).put (.fld (Reg.LOGIC_OVR_CYC_HI eng) 31 0 (cyc / 2 ^ 32))
  let w3 := w2.put (.ovrRec p)
  if lim ≠ 0 ∧ lim ≤ consec then
    ((w3.put (.progI { e with consec := consec, st := 0, cause := 2, stepPend := false, stopDue := true })).put
      (.ev (logicPage eng) 3)).put (.ev (logicPage eng) 2)
  else w3.put (.progI { e with consec := consec })

/-- The stop of a program by a trap (R201): the activation is withdrawn; CAUSE 3, the latch, EV_PEND.TRAP. -/
def trapStop (w0 : Work) (p code task cyc : Nat) : Work :=
  let w := withdraw w0 p task cyc
  let eng := p / 16
  let e := w.l.prog p
  let w1 := w.put (.progI { e with st := 0, cause := 3, trap := code, stepPend := false, cold := false, warm := false, err := false, stopDue := true })
  let w2 := ((w1.put (.ev (logicPage eng) 1)).put (.ev (logicPage eng) 2)).put (.cnt (Reg.LOGIC_OVR_COUNT eng) 31 16 1)
  if w.l.flag (F.LOGIC_TRAP_LATCH.VALID eng) then w2
  else ((w2.put (.fld (Reg.LOGIC_TRAP_LATCH eng) 31 0 (2 ^ 31 + task * 2 ^ 28 + code * 2 ^ 8 + p % 16))).put
    (.fld (Reg.LOGIC_TRAP_CYC_LO eng) 31 0 cyc)).put (.fld (Reg.LOGIC_TRAP_CYC_HI eng) 31 0 (cyc / 2 ^ 32))

/-- One activation of a LOGIC node of program `p` in cycle `cyc`: the writes and the time it takes (R190–R193). -/
def logicExec (w : Work) (im : ProgImg) (sl cyc t : Nat) (event : Bool) : Work × Nat :=
  let p := im.prog
  let eng := p / 16
  let e := w.l.prog p
  let w0 := if event then stopValues w im else w
  match dueTasks e event with
  | [] => (w0, 4)
  | ts =>
    let r := tasksRun im sl t (decide (e.st = 1) || !event) ts w0 0
    match r.2.1 with
    | some (c, k) => (trapStop w0 p c k cyc, max 4 r.2.2)
    | none =>
      let e1 := r.1.l.prog p
      let e2 := if event then { e1 with cold := false, warm := false, err := false, errCount := 0, errList := [], errMore := false, consec := 0 }
        else { e1 with stepPend := false, consec := 0 }
      let w1 := (r.1.put (.progI e2)).put (.inc (Reg.LOGIC_ACT_COUNT eng) 1)
      (if ts.contains 3 then w1.put (.ev (logicPage eng) 4) else w1, max 4 r.2.2)

/-- A command to a program: 1 RUN, 2 HOLD, 3 STOP, 4 STEP (R194). -/
def progCmd (l : Lane) (eng slot cmd source : Nat) : Lane :=
  let p := 16 * eng + slot
  let e := l.prog p
  let refuse := l.err (logicPage eng) 0x40 source (Reg.LOGIC_PCTL eng slot)
  let go (e' : ProgI) : Lane := (l.setProg { e' with cause := 1 }).ev (logicPage eng) 2
  if cmd = 0 ∨ 5 ≤ cmd then l
  else if (l.progImg p).isNone then refuse
  else match cmd with
    | 1 => if e.st = 1 then l else if e.st = 0 then go { e with st := 1, warm := true, stopDue := false }
           else go { e with st := 1, stepPend := false }
    | 2 => if e.st = 2 then l else go { e with st := 2, stepPend := false, stopDue := false }
    | 3 => if e.st = 0 then l else go { e with st := 0, stepPend := false, stopDue := true }
    | _ => if e.st = 2 then l.setProg { e with stepPend := true } else refuse

end Sys2Proof.Machine
end

