-- ==== Sys2Proof/Machine/Ring.lean ====
section
/-! DEFINITION. Field rings (chapter 10): the SKR frame (R241–R244), what a lane launches, how it takes a copy, the
receipt map, consumption, absence and return, acyclic traffic. -/

namespace Sys2Proof.Machine

/-! ### The SKR frame -/

/-- The fields of an SKR frame; its FCS is that of its bytes. -/
structure Skr where
  etype : Nat
  ver : Nat
  /-- 1 CYCLE, 2 HOLD, 3 FOLD, 4 ACYC -/
  kind : Nat
  outValid : Bool
  /-- leftward -/
  left : Bool
  lane : LaneId
  ring : Nat
  nsta : Nat
  foldPos : Nat
  cyc : Nat
  tNext : Nat
  period : Nat
  loop : Nat
  cfgId : Nat
  acycLen : Nat
  data : List Nat
  visited : Nat
  alert : Nat
  hops : Nat
  deriving DecidableEq, Repr

/-- The bytes of a frame, from the destination address to the trailer (R241, R242, R244). -/
def Skr.body (f : Skr) : List Nat :=
  [0x03, 0x5B, 0xC4, 0, 0, f.ring] ++ [0x02, 0x5B, 0xC4, if f.lane = .A then 0x0A else 0x0B, 0, f.ring] ++
  [f.etype / 256, f.etype % 256, 0, 0] ++
  [f.ver * 16 + f.kind, b2n f.outValid * 4 + b2n f.left * 2 + f.lane.num, f.ring, f.nsta] ++ leBytes 2 f.data.length ++
  [f.foldPos, 0] ++ leBytes 8 f.cyc ++ leBytes 8 f.tNext ++ leBytes 4 f.period ++ leBytes 4 f.loop ++ leBytes 4 f.cfgId ++
  leBytes 2 f.acycLen ++ List.replicate 26 0 ++ f.data ++
  leBytes 8 f.visited ++ leBytes 8 f.alert ++ leBytes 2 f.hops ++ List.replicate 6 0

/-- A frame as sent: its body and its FCS (R241). -/
def Skr.bytes (f : Skr) : List Nat := f.body ++ leBytes 4 (fcs32 f.body)

/-- `n` bytes of a list from place `o`. -/
def slice (bs : List Nat) (o n : Nat) : List Nat := (bs.drop o).take n

/-- A received FCS is good (R241). -/
def fcsGood (bs : List Nat) : Bool :=
  decide (4 ≤ bs.length ∧ leVal (bs.drop (bs.length - 4)) = fcs32 (bs.take (bs.length - 4)))

/-- Received bytes are an SKR frame of the ring's ETYPE, whatever else they hold (R241). -/
def isSkr (etype : Nat) (bs : List Nat) : Bool :=
  decide (108 ≤ bs.length ∧ bs.getD 12 0 * 256 + bs.getD 13 0 = etype)

/-- The frame that bytes spell; none where they are not as long as their DATA_LEN says (R241, R242, R244). -/
def Skr.ofBytes (bs : List Nat) : Option Skr :=
  let d := leVal (slice bs 20 2)
  if bs.length = 108 + d then
    let b (i : Nat) : Nat := bs.getD i 0
    some {
      etype := b 12 * 256 + b 13
      ver := b 16 / 16
      kind := b 16 % 16
      outValid := decide (b 17 / 4 % 2 = 1)
      left := decide (b 17 / 2 % 2 = 1)
      lane := if b 17 % 2 = 0 then .A else .B
      ring := b 18
      nsta := b 19
      foldPos := b 22
      cyc := leVal (slice bs 24 8)
      tNext := leVal (slice bs 32 8)
      period := leVal (slice bs 40 4)
      loop := leVal (slice bs 44 4)
      cfgId := leVal (slice bs 48 4)
      acycLen := leVal (slice bs 52 2)
      data := slice bs 80 d
      visited := leVal (slice bs (80 + d) 8)
      alert := leVal (slice bs (88 + d) 8)
      hops := leVal (slice bs (96 + d) 2) }
  else none

/-! ### Configuration -/

/-- RING page of ring `r`. -/
def ringPage (r : Nat) : Nat := 0x400 + r
/-- Stations configured on ring `r`. -/
def Lane.nsta (l : Lane) (r : Nat) : Nat := min (l.get (F.RING_CFG.NSTA r)) 64
/-- Rings in the running graph: those with stations. -/
def Lane.rings (l : Lane) : List Nat := (List.range 24).filter (fun r => decide (l.nsta r ≠ 0))
/-- The record of station `p` in a data area: bytes 0 to 7 + LEN (R243). -/
def Lane.record (l : Lane) (r p : Nat) (data : List Nat) : List Nat :=
  slice data (l.get (F.RING_STA_LAYOUT.OFFSET r p)) (8 + l.get (F.RING_STA_LAYOUT.LEN r p))

/-! ### Launching (R240, R253, R261) -/

/-- The output payload of station `p`: its bytes of the cycle image. -/
def Lane.outPayload (l : Lane) (r p : Nat) : List Nat :=
  let len := l.get (F.RING_STA_LAYOUT.LEN r p)
  match l.image.bind (fun im => im.outs.find? (fun m => m.ring == r && m.sta == p)) with
  | some m => padTo len (listAt l.car.img m.off (min m.len (l.get (F.RING_STA_IO.OUT_LEN r p))))
  | none => List.replicate len 0

/-- Station `p` answered discovery with an identity other than the image's, or not at all (R255). -/
def Lane.notFound (l : Lane) (r p : Nat) : Bool :=
  !(l.ring.found.any (fun x => x.1 == r && x.2.1 == p && x.2.2 == (l.rd (Reg.RING_STA_ID r p)).toNat))

/-- Overwrite a byte list at a place. -/
def overlay (bs : List Nat) (o : Nat) (x : List Nat) : List Nat := bs.take o ++ x ++ bs.drop (o + x.length)

/-- The station record as launched, with its safety PDUs (R243, R253, R345). -/
def Lane.txRecord (l : Lane) (r p : Nat) (outs : Bool) : List Nat :=
  let live := outs && !l.absent r p
  let len := l.get (F.RING_STA_LAYOUT.LEN r p)
  let pay := if live then l.outPayload r p else List.replicate len 0
  let pay := if l.absent r p then pay
    else (l.ring.pdus.filter (fun x => x.1 == r && x.2.1 == p)).foldl (fun b x => overlay b x.2.2.1 x.2.2.2) pay
  [p, b2n live] ++ leBytes 2 len ++ [0, 0, 0, 0] ++ pay

/-- The data area as launched. -/
def Lane.txData (l : Lane) (r : Nat) (outs : Bool) : List Nat :=
  (List.range (l.nsta r)).foldl (fun d p => overlay d (l.get (F.RING_STA_LAYOUT.OFFSET r p)) (l.txRecord r p outs))
    (List.replicate (l.get (F.RING_CFG.DATA_LEN r)) 0)

/-- A frame of this lane on ring `r`: kind, cycle number (0 in HOLD frames), T_NEXT. -/
def Lane.txFrame (l : Lane) (r kind cyc tNext : Nat) (data : List Nat) : Skr :=
  { etype := l.get (F.RING_ETYPE.ETYPE r), ver := 1, kind := kind, outValid := decide (kind = 1),
    left := decide (l.num = 1), lane := if l.num = 0 then .A else .B, ring := r, nsta := l.nsta r, foldPos := 0xFF,
    cyc := cyc, tNext := tNext, period := l.period, loop := l.get (F.RING_LOOP.NS r),
    cfgId := (l.rd (Reg.RING_CFG_ID r)).toNat, acycLen := l.get (F.RING_CFG.ACYC_LEN r), data := data, visited := 0,
    alert := 0, hops := 0 }

/-- Send bytes on a port of ring `r`. -/
def Lane.ringTx (l : Lane) (r port : Nat) (bs : List Nat) : Lane :=
  { l with ring := { l.ring with tx := l.ring.tx ++ [(r, port, bs)] } }

/-- Launch the CYCLE or HOLD frame of ring `r`; outputs discarded for absent stations are counted (R253). -/
def Lane.launch (l : Lane) (kind cyc tNext r : Nat) : Lane :=
  let l1 := (l.ringTx r 0 (l.txFrame r kind cyc tNext (l.txData r (decide (kind = 1)))).bytes).setB (F.RING_STAT.SENDING r) true
  if kind = 1 then
    (List.range (l.nsta r)).foldl (fun m p => if l.absent r p then m.cnt (F.RING_STA_DISC.FRAMES r p) 1 else m) l1
  else l1

/-- The tags of the ring engine's own requests start here: discovery, then the writes of a_p, by ring and station (log entry 154). -/
def discTag : Nat := 0x80000000

/-- The bytes of one item of an ACYC frame (R262). -/
def Acyc.bytes (a : Acyc) : List Nat := [a.pos, a.ty] ++ leBytes 2 a.data.length ++ leBytes 4 a.tag ++ a.data

/-- Take queued requests of ring `r` that fit the reserved slot: those sent, and those that wait. -/
def takeAcyc (r : Nat) : Nat → List Acyc → List Acyc × List Acyc
  | _, [] => ([], [])
  | room, a :: t =>
    if a.ring = r ∧ a.bytes.length ≤ room then
      let x := takeAcyc r (room - a.bytes.length) t
      (a :: x.1, x.2)
    else
      let x := takeAcyc r room t
      (x.1, a :: x.2)

/-- Send an ACYC frame with `len` data bytes and the queued requests of ring `r` that fit them. -/
def Lane.sendAcyc (l : Lane) (cyc tNext r len : Nat) : Lane :=
  let x := takeAcyc r len l.ring.acycQ
  let l1 := l.ringTx r 0 (l.txFrame r 4 cyc tNext (padTo len (x.1.map Acyc.bytes).flatten)).bytes
  { l1 with ring := { l1.ring with acycQ := x.2, acycOut := l1.ring.acycOut ++ x.1 } }

/-- Further ACYC frames of a period, while requests wait and the last byte of the next one leaves by t_N+1 − 1 µs (R261).
`t` is the time after t_N at which the port is free, in ns; a frame is as long as the slot, or as the first request. -/
def Lane.moreAcyc (cyc tNext r : Nat) : Nat → Nat → Lane → Lane
  | 0, _, l => l
  | k + 1, t, l =>
    match l.ring.acycQ.find? (fun a => a.ring == r) with
    | none => l
    | some a =>
      let len := max (l.get (F.RING_CFG.ACYC_LEN r)) ((a.bytes.length + 3) / 4 * 4)
      let e := t + 8 * (len + 128)
      if len ≤ 8192 ∧ e + 1000 ≤ l.period then Lane.moreAcyc cyc tNext r k e (l.sendAcyc cyc tNext r len) else l

/-- The acyclic traffic of a period on ring `r`: the frame of the reserved slot, empty when nothing is queued, then further
ones; from the primacy lane only (R261). -/
def Lane.launchAcyc (l : Lane) (cyc tNext r : Nat) : Lane :=
  if l.flag F.PAIR_STAT.PRIMACY then
    let len := l.get (F.RING_CFG.ACYC_LEN r)
    let l1 := l.sendAcyc cyc tNext r len
    Lane.moreAcyc cyc tNext r l1.ring.acycQ.length (8 * (l.get (F.RING_CFG.DATA_LEN r) + 128) + 8 * (len + 128)) l1
  else l

/-- The discovery of the stations of ring `r` (R248, R255): one request each, with a tag of the ring engine's own. -/
def Lane.discover (l : Lane) (r : Nat) : Lane :=
  { l with ring := { l.ring with
      acycQ := l.ring.acycQ ++ (List.range (l.nsta r)).map (fun p => ⟨r, p, 3, discTag + r * 64 + p, [0, 0, 0, 0]⟩) } }

/-! ### Receiving (R249, R251, R262) -/

/-- The stations that a copy passed. -/
def Skr.passed (f : Skr) (n : Nat) : List Nat :=
  (List.range n).filter (fun p => decide (f.kind = 1 ∨ f.kind = 2) ||
    (if f.lane = .A then decide (p ≤ f.foldPos) else decide (f.foldPos ≤ p)))

/-- A copy is processed for `p`. -/
def Skr.processed (f : Skr) (l : Lane) (p : Nat) : Bool :=
  f.visited.testBit p && decide ((l.record f.ring p f.data).getD 4 0xFF = p)

/-- The place of a copy in the order of R250. -/
def Skr.ord (f : Skr) : Nat := if f.kind = 3 then 2 + f.foldPos else if f.left then 1 else 0

/-- Value kept per ring. -/
def perRing (xs : List (Nat × Nat)) (r : Nat) : Nat := ((xs.find? (fun x => x.1 == r)).map Prod.snd).getD 0

/-- Set a value kept per ring. -/
def setRing (xs : List (Nat × Nat)) (r v : Nat) : List (Nat × Nat) := upsert Prod.fst (r, v) xs

/-- Measure L from the other lane's copy at the own end port: the mean of 64 delays, rounded to 1 ns (R247). -/
def Lane.measureL (l : Lane) (r delay : Nat) : Lane :=
  let s := ((l.ring.loopSum.find? (fun x => x.1 == r)).map Prod.snd).getD (0, 0)
  let sum := s.1 + delay
  let n := s.2 + 1
  let store (x : Nat × Nat) (m : Lane) : Lane := { m with ring := { m.ring with loopSum := upsert Prod.fst (r, x) m.ring.loopSum } }
  if n = 64 then
    let m := (store (0, 0) l).set (F.RING_LOOP.NS r) ((sum + 32) / 64)
    { m with ring := { m.ring with formed := r :: m.ring.formed.filter (· != r) } }
  else store (sum, n) l

/-- Where a lane has never formed L, it sends the Airex value: hop delays and cable, as they stand in T_ring (R247, R259). -/
def Lane.airexL (l : Lane) (r : Nat) : Lane :=
  if l.ring.formed.contains r then l
  else l.set (F.RING_LOOP.NS r) (l.get (F.RING_TRING.NS r) - 8 * (l.get (F.RING_CFG.DATA_LEN r) + 128) - 400)

/-- A processed record of a copy (R250). -/
def Lane.recOf (l : Lane) (f : Skr) (p : Nat) : OneSided := ⟨f.cyc, f.ring, p, f.ord, (l.record f.ring p f.data).drop 4⟩

/-- A joining lane stores the records of a copy by cycle, from its first buffered cycle on (R121). -/
def Lane.bufferCopy (l : Lane) (f : Skr) : Lane :=
  let got := ((f.passed (l.nsta f.ring)).filter (f.processed l)).map (l.recOf f)
  { l with pair := { l.pair with rejoin := l.pair.rejoin.map (fun q => { q with buf := q.buf ++ got }) } }

/-- A joining lane stores what it receives for cycle `n` (R121). -/
def Lane.buffers (l : Lane) (n : Nat) : Bool :=
  decide (l.st = .shadow) && (match l.pair.rejoin with | some q => decide (q.first ≤ n) | none => false)

/-- Take an accepted copy: its records, forwarded where one-sided (R251), its fold and its alerts. -/
def Lane.takeCopy (l : Lane) (f : Skr) (endPort : Bool) (ret : Nat) : Lane :=
  let r := f.ring
  let one := endPort && decide (l.st = .paired) && !l.flag (F.RING_STAT.XHOP_TX r)
  let ps := f.passed (l.nsta r)
  let got := (ps.filter (f.processed l)).map (l.recOf f)
  let l1 := { l with
    ring := { l.ring with
      recs := l.ring.recs ++ got.map (fun x => ⟨x, one, false⟩)
      unproc := l.ring.unproc ++ (ps.filter (fun p => !f.processed l p)).map (fun p => (r, p))
      folds := if f.kind = 3 then l.ring.folds ++ [(r, f.lane.num, f.foldPos)] else l.ring.folds
      alerts := setRing l.ring.alerts r (Nat.lor (perRing l.ring.alerts r) f.alert)
      ret := setRing l.ring.ret r (max (perRing l.ring.ret r) ret) }
    cyc := { l.cyc with ringLast := max l.cyc.ringLast ret } }
  if one then
    ((l1.sendOneSided got).cnt (F.RING_REC_COUNT.ONE_SIDED r) got.length).ev (ringPage r) 5
  else l1

/-- The items of an ACYC data area. -/
def parseAcyc (r : Nat) : Nat → List Nat → List Acyc
  | 0, _ => []
  | n + 1, bs =>
    let len := leVal (slice bs 2 2)
    if bs.length < 8 + len then []
    else
      let a : Acyc := ⟨r, bs.getD 0 0, bs.getD 1 0, leVal (slice bs 4 4), slice bs 8 len⟩
      if a.ty = 0 then [] else a :: parseAcyc r n (bs.drop (8 + len))

/-- At discovery the ring engine measures a_p of a station and writes it to the station (R248). What it measures is the
wiring's: a free value; the object that takes it is not given (log entry 154). -/
def Lane.writeDelay (l : Lane) (r p : Nat) : Lane :=
  let d := Config.stationDelay l.num r p l.t64
  { l with ring := { l.ring with
      ap := l.ring.ap.filter (fun x => !(x.1 == r && x.2.1 == p)) ++ [(r, p, d)]
      acycQ := l.ring.acycQ ++ [⟨r, p, 2, discTag + 0x1000 + r * 64 + p, [0, 0] ++ leBytes 4 d⟩] } }

/-- Take one response: the request is answered; a discovery response gives the station's identity (R255, R262). -/
def Lane.takeResponse (l : Lane) (a : Acyc) : Lane :=
  if a.ty < 0x80 then l else
  let mine := l.ring.acycOut.any (fun x => x.ring == a.ring && x.pos == a.pos && x.tag == a.tag)
  let l1 := { l with
    ring := { l.ring with
      acycOut := l.ring.acycOut.filter (fun x => !(x.ring == a.ring && x.pos == a.pos && x.tag == a.tag))
      acycQ := l.ring.acycQ.filter (fun x => !(x.ring == a.ring && x.pos == a.pos && x.tag == a.tag && decide (discTag ≤ x.tag)))
      acycIn := if mine && decide (a.tag < discTag) then l.ring.acycIn ++ [a] else l.ring.acycIn } }
  if a.ty = 0x83 then
    let id := leVal (a.data.take 4)
    let l1b := { l1 with ring := { l1.ring with found := (a.ring, a.pos, id) :: l1.ring.found.filter (fun x => !(x.1 == a.ring && x.2.1 == a.pos)) } }
    let l2 := if mine then l1b.writeDelay a.ring a.pos else l1b
    if id = (l2.rd (Reg.RING_STA_ID a.ring a.pos)).toNat then l2
    else l2.err (ringPage a.ring) 0x40 0x13 (Reg.RING_STA_ID a.ring a.pos)
  else l1

/-- Discard a copy and count it (R249). -/
def Lane.discardCopy (l : Lane) (r : Nat) : Lane := l.cnt (F.RING_REC_COUNT.DISCARDED r) 1

/-- The FOLD_POS seen towards an end in this cycle: the lowest; 0xFF for none. -/
def Lane.foldSeen (l : Lane) (r lane : Nat) : Nat :=
  ((l.ring.folds.filter (fun x => x.1 == r && x.2.1 == lane)).map (fun x => x.2.2)).foldl min 0xFF

/-- Show a fold position: a change counts, FOLD or UNFOLD is set (R257). -/
def Lane.showFold (l : Lane) (r : Nat) (f : Fld) (v : Nat) : Lane :=
  if l.get f = v then l
  else (((l.set f v).cnt (F.RING_FOLDS.COUNT r) 1)).ev (ringPage r) (if v = 0xFF then 3 else 2)

/-- A FOLD frame seen is shown (R257): at the cut where it is a copy of the cycle in progress, else as it arrives. -/
def Lane.foldNow (l : Lane) (f : Skr) : Lane :=
  if f.kind = 3 then
    let l1 := { l with ring := { l.ring with folds := l.ring.folds ++ [(f.ring, f.lane.num, f.foldPos)] } }
    l1.showFold f.ring (if f.lane = .A then F.RING_STAT.FOLD_POS_A f.ring else F.RING_STAT.FOLD_POS_B f.ring)
      (l1.foldSeen f.ring f.lane.num)
  else l

/-- The folds of a period of a lane in which no cycle is cut (R257). -/
def Lane.foldPeriod (l : Lane) : Lane :=
  let l1 := l.rings.foldl (fun m r => (m.showFold r (F.RING_STAT.FOLD_POS_A r) (l.foldSeen r 0)).showFold r
    (F.RING_STAT.FOLD_POS_B r) (l.foldSeen r 1)) l
  { l1 with ring := { l1.ring with folds := [] } }

/-- The cut-through relay of a driving lane, of every SKR frame that its end port receives (R240). -/
def Lane.relay (l : Lane) (r : Nat) (endPort : Bool) (bs : List Nat) : Lane :=
  if endPort && (l.drives || decide (l.st = .keeper)) && l.flag (F.RING_STAT.XHOP_TX r) && isSkr (l.get (F.RING_ETYPE.ETYPE r)) bs then
    l.ringTx r 1 bs
  else l

/-- A copy that comes after the ring cut of its cycle: discarded, its records counted as late (R134, R249). -/
def Lane.lateCopy (l : Lane) (f : Skr) : Lane :=
  let k := ((f.passed (l.nsta f.ring)).filter (f.processed l)).length
  let l1 := (l.foldNow f).discardCopy f.ring
  if k = 0 then l1 else (l1.cnt F.CYCLE_OVR_COUNT.LATE_REC k).ev 0x100 3

/-- A copy of the cycle in progress: taken before the ring cut, late after it (R134, R249). -/
def Lane.takeCycle (l : Lane) (f : Skr) (endPort : Bool) (sfd ret : Nat) : Lane :=
  if l.cyc.cutDone then l.lateCopy f
  else
    let l1 := if endPort && decide (f.kind = 1) && decide (f.lane.num ≠ l.num) then l.measureL f.ring sfd else l
    l1.takeCopy f endPort ret

/-- A frame of this lane's ring and configuration (R249, R255, R257, R262). -/
def Lane.takeFrame (l : Lane) (f : Skr) (endPort : Bool) (sfd ret : Nat) : Lane :=
  if f.kind = 4 then (parseAcyc f.ring 1024 f.data).foldl Lane.takeResponse l
  else if (f.kind = 1 ∨ f.kind = 3) ∧ l.buffers f.cyc = true then (l.foldNow f).bufferCopy f
  else if f.kind = 2 ∧ l.running = false then
    { l with ring := { l.ring with holdSeen := (l.ring.holdSeen.filter (fun x => x.1 != f.ring)) ++
        ((f.passed (l.nsta f.ring)).filter (f.processed l)).map (fun p => (f.ring, p)) } }
  else if (f.kind = 1 ∨ f.kind = 3) ∧ f.cyc = l.cycN ∧ l.running then l.takeCycle f endPort sfd ret
  else if (f.kind = 1 ∨ f.kind = 3) ∧ f.cyc < l.cycN ∧ l.running then l.lateCopy f
  else (l.foldNow f).discardCopy f.ring

/-- Bytes reach a lane on ring `r`: on its end port or over the cross hop, with no code error on the line (`fcs`), their
SFD `sfd` and their last byte `ret` ns after t_N (R240, R241, R247, R249, R262, R134). -/
def Lane.ringReceive (l : Lane) (r : Nat) (endPort fcs : Bool) (sfd ret : Nat) (bs : List Nat) : Lane :=
  let l0 := l.relay r endPort bs
  if !(fcs && fcsGood bs) then
    ((l0.cnt (if endPort then F.RING_ERR_COUNT.END_FCS r else F.RING_ERR_COUNT.XHOP_FCS r) 1).ev (ringPage r) 6).discardCopy r
  else match Skr.ofBytes bs with
    | none => l0.discardCopy r
    | some f =>
      if f.etype ≠ l.get (F.RING_ETYPE.ETYPE r) ∨ f.ver ≠ 1 ∨ f.ring ≠ r then l0.discardCopy r
      else if f.cfgId ≠ (l.rd (Reg.RING_CFG_ID r)).toNat then (l0.ev (ringPage r) 9).discardCopy r
      else l0.takeFrame f endPort sfd ret

/-! ### The ring cut (R249, R256, R260) -/

/-- The receipt code of station `p` of ring `r` (R249). -/
def Lane.code (l : Lane) (r p : Nat) : Nat :=
  let mine := l.ring.recs.filter (fun x => x.r.ring == r && x.r.station == p && (!x.oneSided || x.acked))
  let un := l.ring.unproc.contains (r, p)
  match mine with
  | [] => if un then 2 else 0
  | x :: t => if t.any (fun y => decide (y.r.bytes ≠ x.r.bytes)) then 2 else if un then 3 else 1

/-- The receipt map of a ring: code of station `p` at bits 2p + 1 : 2p (R249). -/
def Lane.ringMap (l : Lane) (r : Nat) : Nat :=
  (List.range (l.nsta r)).foldl (fun m p => m + l.code r p * 4 ^ p) 0

/-- The code of station `p` in a receipt map. -/
def mapCode (m p : Nat) : Nat := m / 4 ^ p % 4

/-- What the ring engine of ring `r` does at the cut of the cycle: codes shown, folds, alerts, return times, budget. -/
def Lane.cutRing (l : Lane) (r : Nat) : Lane :=
  let l1 := (List.range (l.nsta r)).foldl (fun m p => m.set (F.RING_STA_STAT.RX r p) (l.code r p)) l
  let l2 := (l1.showFold r (F.RING_STAT.FOLD_POS_A r) (l.foldSeen r 0)).showFold r (F.RING_STAT.FOLD_POS_B r) (l.foldSeen r 1)
  let ret := perRing l.ring.ret r
  let l3 := l2.set (F.RING_RET_LAST.NS r) ret
  let l4 := if l.get (F.RING_RET_MAX.NS r) < ret then l3.set (F.RING_RET_MAX.NS r) ret else l3
  let al := perRing l.ring.alerts r
  let old := l.get64 (Reg.RING_ALERT_LO r) (Reg.RING_ALERT_HI r)
  let l5 := if l.ring.recs.any (fun x => x.r.ring == r) then
      let m := l4.set64 (Reg.RING_ALERT_LO r) (Reg.RING_ALERT_HI r) al
      if Nat.lor old al ≠ old then m.ev (ringPage r) 7 else m
    else l4
  let meas := l.get (F.RING_LOOP.NS r) + 8 * (l.get (F.RING_CFG.DATA_LEN r) + 128) + 400
  let n := if l.get (F.RING_TRING.NS r) < meas then min (perRing l.ring.excess r + 1) 17 else 0
  let l6 := { l5 with ring := { l5.ring with excess := setRing l5.ring.excess r n } }
  if n = 16 then (l6.ev (ringPage r) 8).err (ringPage r) 0x42 0x13 (Reg.RING_TRING r) else l6

/-- The ring cut on a lane: the receipt maps, by ring (R134, R249). -/
def Lane.cutMaps (l : Lane) : List (Nat × Nat) := l.rings.map (fun r => (r, l.ringMap r))

/-! ### Consumption (R250) -/

/-- The consumed content of station `p`, of the copies that count as held (R249): rightward, leftward, then FOLD by the lowest
FOLD_POS. -/
def Lane.content (l : Lane) (r p : Nat) : Option OneSided :=
  (l.ring.recs.filter (fun x => x.r.ring == r && x.r.station == p && (!x.oneSided || x.acked))).foldl
    (fun b x => match b with
      | none => some x.r
      | some y => if x.r.ord < y.ord then some x.r else some y) none

/-- Consume the record of station `p`, if the maps say so; note loss evidence (R250). -/
def Lane.consume (l : Lane) (own oth : List (Nat × Nat)) (solo : Bool) (r p : Nat) : Lane :=
  let a := mapCode (perRing own r) p
  let b := mapCode (perRing oth r) p
  let ok (c : Nat) : Bool := decide (c = 1 ∨ c = 3)
  let bad (c : Nat) : Bool := decide (c = 2 ∨ c = 3)
  let l1 := if bad a || (!solo && bad b) then { l with ring := { l.ring with loss := l.ring.loss ++ [(r, p)] } } else l
  if ok a && (solo || ok b) then
    match l.content r p with
    | none => l1
    | some x =>
      let st := x.bytes.getD 1 0
      let l2 := (l1.set (F.RING_STA_STAT.SSTATE r p) (st % 16))
      let l3 := { l2 with ring := { l2.ring with cons := l2.ring.cons ++ [⟨r, p, st % 16, decide (st / 16 % 2 = 1)⟩] } }
      match l.image.bind (fun im => im.ins.find? (fun m => m.ring == r && m.sta == p)) with
      | some m => { l3 with car := { l3.car with img := putList l3.car.img m.off (padTo m.len (x.bytes.drop 4)) } }
      | none => l3
  else l1

/-- Consume the records of every station in the merge phase. -/
def Lane.consumeAll (l : Lane) (own oth : List (Nat × Nat)) (solo : Bool) : Lane :=
  l.rings.foldl (fun m r => (List.range (m.nsta r)).foldl (fun k p => k.consume own oth solo r p) m) l

/-! ### Absence and return (R252–R255) -/

/-- Show how many stations of ring `r` are present. -/
def Lane.showPresent (l : Lane) (r : Nat) : Lane :=
  l.set (F.RING_STAT.PRESENT r) ((List.range (l.nsta r)).filter (fun p => !l.absent r p)).length

/-- The payload of a station as it stands in the cycle image is kept for its reads while it is absent (R203). -/
def Lane.keepPayload (l : Lane) (r p : Nat) : Lane :=
  match l.image.bind (fun im => im.ins.find? (fun m => m.ring == r && m.sta == p)) with
  | some m => { l with car := { l.car with subst := putList l.car.subst m.off (listAt l.car.img m.off m.len) } }
  | none => l

/-- Set or clear the absence bit of a station. -/
def Lane.setAbsent (l0 : Lane) (r p : Nat) (b : Bool) : Lane :=
  let l := if b then l0.keepPayload r p else l0
  let m := l.get64 (Reg.RING_ABSENT_LO r) (Reg.RING_ABSENT_HI r)
  let m' := if m.testBit p then m - 2 ^ p else m
  (((l.set64 (Reg.RING_ABSENT_LO r) (Reg.RING_ABSENT_HI r) (if b then m' + 2 ^ p else m')).setB
    (F.RING_STA_STAT.PRESENT r p) (!b)).showPresent r)

/-- Mark a station absent at the end of cycle `n` (R252): registers, event, one event record. -/
def Lane.markAbsent (l : Lane) (r p cause n : Nat) : Lane :=
  ((((((l.setAbsent r p true).set (F.RING_STA_STAT.CAUSE r p) cause).set (F.RING_STA_STAT.OK_RUN r p) 0).set64
    (Reg.RING_STA_ABS_CYC_LO r p) (Reg.RING_STA_ABS_CYC_HI r p) n).cnt (F.RING_STA_ABSENCES.ABSENCES r p) 1).ev
    (ringPage r) 0).logEv (ringPage r) 0 p 1

/-- Mark a station present (R254). -/
def Lane.markPresent (l : Lane) (r p : Nat) : Lane :=
  let l1 := (((l.setAbsent r p false).cnt (F.RING_STA_ABSENCES.RETURNS r p) 1).ev (ringPage r) 1).logEv (ringPage r) 1 p 1
  { l1 with car := { l1.car with retOk := l1.car.retOk.filter (fun x => x != (r, p)) } }

/-- The station cycle: MISS and OK_RUN count, absence and return are decided at the end of cycle `n`. -/
def Lane.staEnd (l : Lane) (n r p : Nat) : Lane :=
  let c := l.ring.cons.find? (fun x => x.ring == r && x.station == p)
  let loss := l.ring.loss.contains (r, p)
  let cmd := l.ring.absCmd.contains (r, p)
  let miss := match c with | some _ => 0 | none => min (l.get (F.RING_STA_STAT.MISS r p) + 1) 7
  let bad := match c with | some x => decide (x.sstate = 2 ∨ x.sstate = 3 ∨ x.sstate = 4) || !x.inValid | none => false
  let good := match c with | some x => decide (x.sstate ≤ 1) && x.inValid && !loss | none => false
  let ok := if good then min (l.get (F.RING_STA_STAT.OK_RUN r p) + 1) 255 else 0
  let l1 := (l.set (F.RING_STA_STAT.MISS r p) miss).set (F.RING_STA_STAT.OK_RUN r p) ok
  if l.absent r p then
    if !cmd && decide (l.get (F.RING_CTRL.RETURN_CYCLES r) ≤ ok) &&
        (l.flag (F.RING_CTRL.AUTO_RETURN r) || l.car.retOk.contains (r, p)) then l1.markPresent r p
    else l1
  else if loss then l1.markAbsent r p 0 n
  else if bad then l1.markAbsent r p 1 n
  else if l.get (F.RING_MISS.LIMIT r) ≤ miss then l1.markAbsent r p 2 n
  else if cmd then l1.markAbsent r p 3 n
  else l1

/-- Tell the programs that read stations marked absent at the end of a cycle: ERR_COUNT, ERR_LIST, ERR_MORE (R202, R204). -/
def Lane.tellPrograms (l : Lane) (lost : List (Nat × Nat)) : Lane :=
  match l.image with
  | none => l
  | some im =>
    im.progs.foldl (fun m pi =>
      let mine := lost.filter (fun x => pi.reads.any (fun y => y.ring == x.1 && y.sta == x.2))
      if mine = [] then m
      else m.setProg { m.prog pi.prog with err := true, errCount := mine.length, errList := mine.take 32, errMore := decide (32 < mine.length) }) l

/-- The program in trial learns the same (R204, R209). -/
def Lane.tellTrial (l : Lane) (lost : List (Nat × Nat)) : Lane :=
  match l.trial with
  | some t =>
    { l with trial := some { t with
        car := t.car.map (fun c => (Lane.tellPrograms { l with car := c, image := some t.im } lost).car) } }
  | none => l

/-- The end of cycle `n` on the rings: absence and return of every station, and what the programs learn. -/
def Lane.ringEnd (l : Lane) (n : Nat) : Lane :=
  let l1 := l.rings.foldl (fun m r => (List.range (m.nsta r)).foldl (fun k p => k.staEnd n r p) m) l
  let lost := (l.rings.map (fun r => ((List.range (l.nsta r)).filter (fun p => !l.absent r p && l1.absent r p)).map
    (fun p => (r, p)))).flatten
  let l2 := { l1 with ring := { l1.ring with recs := [], unproc := [], folds := [], alerts := [], ret := [], cons := [], loss := [], absCmd := [], tx := [], lost := lost } }
  (l2.tellPrograms lost).tellTrial lost

/-- Absence at S2 after a cold start (R255). -/
def Lane.ringColdStart (l : Lane) (cyc : Nat) : Lane :=
  l.rings.foldl (fun m r => (List.range (m.nsta r)).foldl (fun k0 p =>
    let k := (k0.set (F.RING_STA_STAT.OK_RUN r p) 0).set (F.RING_STA_STAT.MISS r p) 0
    if k.ring.holdSeen.contains (r, p) && !k.notFound r p then k.setAbsent r p false
    else ((k.setAbsent r p true).set (F.RING_STA_STAT.CAUSE r p) 4).set64 (Reg.RING_STA_ABS_CYC_LO r p)
      (Reg.RING_STA_ABS_CYC_HI r p) cyc) m) l

/-- A mirrored write of RING_STA_CMD takes effect (R252, R254). -/
def Lane.staCmd (l : Lane) (r p v source : Nat) : Lane :=
  let l1 := if v / 2 % 2 = 1 then { l with ring := { l.ring with absCmd := l.ring.absCmd ++ [(r, p)] } } else l
  if v % 2 = 1 then
    if l1.absent r p then { l1 with car := { l1.car with retOk := l1.car.retOk.filter (fun x => x != (r, p)) ++ [(r, p)] } }
    else l1.err (ringPage r) 0x41 source (Reg.RING_STA_CMD r p)
  else l1

/-! ### Links (R258) -/

/-- The end port of ring `r` comes up in a mode. -/
def Lane.linkUp (l : Lane) (r mode : Nat) : Lane :=
  let l1 : Lane := { l with ring := { l.ring with dropped := l.ring.dropped.filter (· != r), modes := setRing l.ring.modes r mode } }
  (l1.setB (F.RING_STAT.LINK r) true).ev (ringPage r) 4

/-- A link of ring `r` goes up or down: 0 the end port, 1 the cross hop to the other lane, 2 the cross hop from it. An end
port that has dropped asks for a PHY_TRAIN grant and comes up again only under it; a port comes up in the image's mode. -/
def Lane.ringLink (l : Lane) (r which : Nat) (up : Bool) (now : Nat) : Lane :=
  match which with
  | 0 =>
    if up then
      if l.ring.dropped.contains r && !l.granted 3 r then l else l.linkUp r (l.get (F.RING_CFG.MODE r))
    else
      let l1 : Lane := { l with ring := { l.ring with dropped := r :: l.ring.dropped.filter (· != r) } }
      ((l1.setB (F.RING_STAT.LINK r) false).ev (ringPage r) 4).ledgerAsk 3 (classQuanta 3) (2 ^ 48) r now
  | 1 => (l.setB (F.RING_STAT.XHOP_TX r) up).ev (ringPage r) 4
  | _ => (l.setB (F.RING_STAT.XHOP_RX r) up).ev (ringPage r) 4

/-- A ring port completes training under its grant: the link is up, the grant returns; a port mode other than the
image's is an error (R258). -/
def Lane.trainDone (l : Lane) (r mode now : Nat) : Lane :=
  if l.granted 3 r then
    let l1 := (l.ledgerFree 3 r now).linkUp r mode
    if mode = l.get (F.RING_CFG.MODE r) then l1 else l1.err (ringPage r) 0x43 0x13 (Reg.RING_CFG r)
  else l

/-- A lane whose PHY_TRAIN request was refused asks again 1 s later (R88). -/
def Lane.trainRetry (l : Lane) (r now : Nat) : Lane :=
  match l.ring.train.find? (fun x => x.1 == r && decide (x.2 + 400000000 ≤ now)) with
  | some _ => Lane.ledgerAsk { l with ring := { l.ring with train := l.ring.train.filter (fun x => x.1 != r) } } 3 (classQuanta 3) (2 ^ 48) r now
  | none => l

end Sys2Proof.Machine
end

