-- ==== Sys2Proof/Machine/Analog.lean ====
section
/-! DEFINITION. Analogue inputs and outputs (chapter 11): conversions and raw words, agreement, open-wire test, band
comparators, converter rates, outputs and their readback. -/

namespace Sys2Proof.Machine

/-- First page of the analogue block. -/
def ainPage : Nat := 0x600

/-- Channel `ch` is converted (R264). -/
def Lane.ainOn (l : Lane) (ch : Nat) : Bool := decide (l.get (F.AIN_CH_CFG.RANGE ch) ≠ 3)

/-- Gain of channel `ch`: 1, 2, 4 or 8. -/
def Lane.gain (l : Lane) (ch : Nat) : Nat := 2 ^ l.get (F.AIN_CH_CFG.GAIN ch)

/-- The precision converters are to run in low-power mode: Economy, without a CONV_FULL grant in use (R281). Profile, request
and grant are the same on both lanes. -/
def Lane.lowPower (l : Lane) : Bool := l.economy && !(l.flag F.AIN_CTRL.FULL_REQ && l.granted 0 0)

/-- Conversion time in ns, as both lanes judge it (R265, R267). -/
def Lane.convTime (l : Lane) : Nat := if l.lowPower then 4000 else 1000

/-! ### Open-wire schedule (R274, R275) -/

/-- The next channel with OW_EN above `c`, wrapping. -/
def Lane.owNext (l : Lane) (c : Nat) : Option Nat :=
  ((List.range 64).map (fun k => (c + 1 + k) % 64)).find? (fun ch => l.flag (F.AIN_CH_CFG.OW_EN ch) && l.ainOn ch)

/-- The channel of the next slot. -/
def Lane.owChan (l : Lane) : Option Nat :=
  match l.car.ow.again with
  | some c => if l.flag (F.AIN_CH_CFG.OW_EN c) then some c else l.owNext l.car.ow.last
  | none => l.owNext l.car.ow.last

/-- Cycle `b` begins at a slot boundary (R274). -/
def Lane.owAtSlot (l : Lane) (b : Nat) : Bool := decide (b % max 1 (l.get F.AIN_OW_CFG.SPACING) = 0)

/-- T_OW in ns. -/
def Lane.owTime (l : Lane) : Nat := l.get F.AIN_OW_CFG.SLOT_US * 1000

/-- The channel of the slot at boundary `b`, once fixed. -/
def Lane.owSel (l : Lane) (b : Nat) : Option Nat := (l.car.ow.slots.find? (fun x => x.1 == b)).map Prod.snd

/-- Slot boundary `b` is due: its channel is the next of the round and the pointer moves on (R274). -/
def Lane.owPick (l : Lane) (b : Nat) : Lane :=
  if l.owAtSlot b && (l.owSel b).isNone then
    match l.owChan with
    | some c => { l with car := { l.car with ow := ⟨c, none, ((b, c) :: l.car.ow.slots).take 8⟩ } }
    | none => l
  else l

/-- In cycle `n` the slot of the next boundary takes its channel as the channels are set at t_B − T_OW: at t_N where the merge
phase ends after that instant, else in the merge phase (R267, R274). -/
def Lane.owLatch (l : Lane) (n : Nat) (merge : Bool) : Lane :=
  if decide (l.tOf n + l.get F.CYCLE_TRING.NS + l.get F.CYCLE_MERGE.NS + l.owTime ≤ l.tOf (n + 1)) = merge then l.owPick (n + 1) else l

/-- An instant lies in a test window [t_B − T_OW, t_B + 51 µs) of channel `ch` (R274). -/
def Lane.inTest (l : Lane) (ch t : Nat) : Bool :=
  l.car.ow.slots.any (fun x => decide (x.2 = ch ∧ l.tOf x.1 ≤ t + l.owTime ∧ t < l.tOf x.1 + 51000))

/-! ### Conversions and raw words (R264–R270) -/

/-- What a channel's conversions keep, or a channel never converted. -/
def Lane.convH (l : Lane) (ch : Nat) : ConvH :=
  (l.ain.convs.find? (fun e => e.ch == ch)).getD ⟨ch, [], 0, none, 0⟩

/-- Store what a channel's conversions keep. -/
def Lane.setConv (l : Lane) (e : ConvH) : Lane := { l with ain := { l.ain with convs := upsert ConvH.ch e l.ain.convs } }

/-- A conversion is over-range (R269): an end code, or beyond the limits of ranges 1 and 2. -/
def overRange (range : Nat) (code v : Int) : Bool :=
  decide (code ≤ -131072 ∨ 131071 ≤ code) || (decide (range = 1) && decide (v < -20480)) ||
    (decide (range = 2) && decide (v < 73728 ∨ 430080 < v))

/-- A conversion of channel `ch` held at TIME64 `t`, by its converter code in LSB. -/
def Lane.convert (l : Lane) (ch : Nat) (code : Int) (t : Nat) : Lane :=
  let e := l.convH ch
  let v := code * (8 / l.gain ch : Nat)
  let srcSettles := match e.src with | some t0 => decide (t < t0 + 2000) | none => false
  let c : Conv := ⟨v, overRange (l.get (F.AIN_CH_CFG.RANGE ch)) code v, l.inTest ch t, srcSettles || decide (0 < e.left)⟩
  l.setConv { e with hist := (c :: e.hist).take 46, left := e.left - 1, src := none, holds := e.holds + 1 }

/-- Holds of a channel in one period (R266). -/
def Lane.holdsDue (l : Lane) (ch : Nat) : Nat :=
  if l.get (F.AIN_CH_CFG.FILT_K ch) = 0 then 1 else max 1 (l.get (F.AIN_CH_CFG.FILT_D ch))

/-- The instant of hold `j` of the period that ends at t_N, in whole ns: t_N − P + j × P / D (R266). -/
def Lane.holdAt (l : Lane) (ch n j : Nat) : Nat := l.tOf n - l.period + j * l.period / l.holdsDue ch

/-- The last hold of a period, at t_N, after those before it that no command gave a code for (R266). -/
def Lane.holdLast (l : Lane) (ch : Nat) (code : Int) (n : Nat) : Lane :=
  let j := (l.convH ch).holds
  let l1 := (List.range (l.holdsDue ch - 1 - j)).foldl (fun m k =>
    let t := m.holdAt ch n (j + 1 + k)
    m.convert ch (Config.heldCode m.num ch t) t) l
  let l2 := l1.convert ch code (l.tOf n)
  l2.setConv { l2.convH ch with holds := 0 }

/-- A lane that computes a cycle from another lane's words uses up what its own conversions of that cycle would: both lanes
tag the same conversions (R270). -/
def Lane.spend (l : Lane) : Lane :=
  { l with ain := { l.ain with convs := l.ain.convs.map (fun e => { e with left := e.left - l.holdsDue e.ch, src := none }) } }

/-- One boxcar of length `d` over weights: their running sums. -/
def boxcar (d : Nat) (ws : List Nat) : List Nat :=
  (List.range (ws.length + d - 1)).map (fun i => ((List.range d).map (fun j => if j ≤ i then ws.getD (i - j) 0 else 0)).sum)

/-- The weights of a sinc^K filter of decimation D: K boxcars (R266). -/
def sincWeights (d : Nat) : Nat → List Nat
  | 0 => [1]
  | k + 1 => boxcar d (sincWeights d k)

/-- Division rounded to nearest, halves towards +∞. -/
def roundDiv (a : Int) (b : Nat) : Int := Int.fdiv (2 * a + b) (2 * b)

/-- The raw word of channel `ch` from its conversions (R266, R268, R270). What a filter draws on before the lane's first
conversion is open (log entry 159). -/
def Lane.rawWord (l : Lane) (ch : Nat) : Word :=
  let k := l.get (F.AIN_CH_CFG.FILT_K ch)
  let d := l.get (F.AIN_CH_CFG.FILT_D ch)
  let ws := if k = 0 then [1] else sincWeights d k
  let free (j : Nat) : Conv := ⟨Config.heldCode l.num ch j, false, false, false⟩
  let own := (l.convH ch).hist.take ws.length
  let hs := own ++ (List.range (ws.length - own.length)).map free
  let v := roundDiv ((ws.zip hs).map (fun x => (x.1 : Int) * x.2.v)).sum (max 1 ws.sum)
  let ovr := hs.any Conv.ovr
  let tag := if ovr then 3 else if hs.any Conv.test then 2
    else if hs.any Conv.settling then 1 else 0
  let opn := (l.car.ains.find? (fun e => e.ch == ch)).any AinC.opn
  word (tag * 2 ^ 30 + b2n ovr * 2 ^ 29 + b2n opn * 2 ^ 27 + twos 24 v)

/-- The precision inputs at t_N: each configured channel is held and its raw word formed (R265, R268). -/
def Lane.sampleAi (l : Lane) (codes : List (Nat × Int)) (n : Nat) : Lane :=
  ((List.range 64).filter l.ainOn).foldl (fun m ch =>
    let code := ((codes.find? (fun x => x.1 == ch)).map Prod.snd).getD 0
    let m1 := m.holdLast ch code n
    m1.wr (Reg.AIN_RAW ch) (m1.rawWord ch)) l

/-! ### Agreement (R271–R273) -/

/-- The carried state of channel `ch`, or of one never agreed. -/
def Lane.ainC (l : Lane) (ch : Nat) : AinC :=
  (l.car.ains.find? (fun e => e.ch == ch)).getD ⟨ch, 0, 0, false, 0, false, 0, 0#32, 0, 0#32, 0⟩

/-- The maps and counts of faulted and open channels, shown from the carried state. -/
def Lane.ainShow (l : Lane) : Lane :=
  let m := ((l.car.ains.filter AinC.faulted).map (fun x => 2 ^ x.ch)).sum
  ((l.set64 Reg.AIN_FAULT_LO Reg.AIN_FAULT_HI m).set F.AIN_STAT.FAULTED (l.car.ains.filter AinC.faulted).length).set
    F.AIN_STAT.OPEN (l.car.ains.filter AinC.opn).length

/-- Store the carried state of a channel, and show the counts and maps. -/
def Lane.setAinC (l : Lane) (e : AinC) : Lane := Lane.ainShow { l with car := { l.car with ains := upsert AinC.ch e l.car.ains } }

/-- VALUE of a word. -/
def valueOf (w : Word) : Int := signed 24 (bits w 23 0)
/-- TAG of a word. -/
def tagBits (w : Word) : Nat := bits w 31 30

/-- The counters of the agreement state for raw words `a` and `b` (R271). -/
def agreeStep (e : AinC) (a b : Word) (tol clearN : Nat) : AinC :=
  let e1 := if tagBits a = 0 ∧ tagBits b = 0 then
      if (valueOf a - valueOf b).natAbs ≤ tol then { e with dis := 0, run := e.run + 1 }
      else { e with dis := e.dis + 1, run := 0 }
    else e
  let e2 := if 3 ≤ e1.dis then { e1 with faulted := true } else e1
  if e2.faulted ∧ 0 < clearN ∧ clearN ≤ e2.run then { e2 with faulted := false } else e2

/-- An agreed word from its parts. -/
def agreedWord (v : Int) (tag : Nat) (ovr dis opn one : Bool) : Word :=
  word ((if opn then 3 else tag) * 2 ^ 30 + b2n ovr * 2 ^ 29 + b2n dis * 2 ^ 28 + b2n opn * 2 ^ 27 + b2n one * 2 ^ 26 + twos 24 v)

/-- Agreement on one channel: the state with the new word in it. `oth` is the other lane's raw word with whether it is
lane A's and whether the own lane holds primacy (R271). -/
def agreeWord (e : AinC) (own : Word) (oth : Option Word) (ownIsA ownPrime : Bool) (tol clearN : Nat) : AinC :=
  let keep (x : AinC) (w : Word) (tag : Nat) : AinC := { x with word := w, tag := tag, wordPrev := e.word, tagPrev := e.tag }
  match oth with
  | none =>
    keep e (agreedWord (valueOf own) (tagBits own) (decide (bits own 29 29 = 1)) (decide (0 < e.dis)) e.opn true) (tagBits own)
  | some o =>
    let a := if ownIsA then own else o
    let b := if ownIsA then o else own
    let ovr := decide (bits a 29 29 = 1) || decide (bits b 29 29 = 1)
    let x := agreeStep e a b tol clearN
    if x.faulted then
      keep x (agreedWord (valueOf (if ownPrime then own else o)) 3 ovr (decide (0 < x.dis)) x.opn true) 3
    else if 0 < x.dis then keep x (agreedWord x.last 1 ovr true x.opn false) 1
    else
      let v := Int.fdiv (valueOf a + valueOf b) 2
      keep { x with last := v } (agreedWord v (max (tagBits a) (tagBits b)) ovr false x.opn false) (max (tagBits a) (tagBits b))

/-- The band comparator on an agreed word (R278): the new state. -/
def bandStep (st : Nat) (valid : Bool) (v lo hi h : Int) : Nat :=
  let inner := decide (lo + h ≤ v ∧ v < hi - h)
  let inside := decide (lo ≤ v ∧ v < hi)
  if !valid then st
  else match st with
    | 1 => if inside then 1 else 2
    | 2 => if inside && inner then 1 else 2
    | _ => if inside && inner then 1 else 0

/-- Evaluate the band of channel `ch` on its agreed word. -/
def Lane.bandEval (l : Lane) (ch : Nat) : Lane :=
  if l.flag (F.AIN_CH_CFG.BAND_EN ch) then
    let e := l.ainC ch
    let st := bandStep e.band (decide (tagBits e.word = 0)) (valueOf e.word) (signed 24 (l.get (F.AIN_BAND_LO.BOUND ch)))
      (signed 24 (l.get (F.AIN_BAND_HI.BOUND ch))) (l.get (F.AIN_BAND_LO.HYS ch) * 64 : Nat)
    let l1 := l.setAinC { e with band := st }
    if e.band = 1 ∧ st = 2 then
      let a := if ch < 32 then Reg.AIN_BAND_OUT_LO else Reg.AIN_BAND_OUT_HI
      (l1.wr a (l1.rd a ||| word (2 ^ (ch % 32)))).ev ainPage 5
    else l1
  else l

/-- Agree channel `ch` in the merge phase: word in register and cycle image, events, records, band (R268, R271, R273, R278). -/
def Lane.agreeCh (l : Lane) (oth : Option Word) (ownPrime : Bool) (ch : Nat) : Lane :=
  let e := l.ainC ch
  let tol := l.get (F.AIN_CH_CFG.TOL ch) * (8 / l.gain ch)
  let x := agreeWord e (l.rd (Reg.AIN_RAW ch)) oth (decide (l.num = 0)) ownPrime tol (l.get F.AIN_CTRL.CLEAR_N)
  let l0 := (l.setAinC x).wr (Reg.AIN_VAL ch) x.word
  let l1 := match l0.image.bind (fun im => im.ais.find? (fun y => y.1 == ch)) with
    | some y => l0.putImg y.2 4 x.word.toNat
    | none => l0
  let l2 := if oth.isSome && decide (x.dis = e.dis + 1) then
      (l1.cnt F.AIN_DIS_COUNT.COUNT 1).ev ainPage 2 else l1
  let l3 := if x.faulted && !e.faulted then (l2.ev ainPage 0).logEv ainPage 0 ch 1 else l2
  let l4 := if e.faulted && !x.faulted then (l3.ev ainPage 1).logEv ainPage 1 ch 1 else l3
  let l5 := if bits x.word 29 29 = 1 ∧ bits e.word 29 29 = 0 then l4.ev ainPage 3 else l4
  l5.bandEval ch

/-- Agree every configured channel; the words of the others read 0xC000_0000 (R271). -/
def Lane.agreeAll (l : Lane) (oth : Option (List (Nat × Nat))) (ownPrime : Bool) : Lane :=
  (List.range 64).foldl (fun m ch =>
    if m.ainOn ch then
      m.agreeCh (oth.map (fun xs => word (((xs.find? (fun x => x.1 == ch)).map Prod.snd).getD 0))) ownPrime ch
    else m.wr (Reg.AIN_VAL ch) 0xC0000000#32) l

/-- ACK of channel `ch` at its effect cycle (R273). -/
def Lane.ainAck (l : Lane) (ch : Nat) : Lane :=
  let e := l.ainC ch
  if e.faulted then ((l.setAinC { e with faulted := false, dis := 0, run := 0 }).ev ainPage 1).logEv ainPage 1 ch 1
  else l.setAinC { e with dis := 0, run := 0 }

/-! ### Channel configuration (R265, R267) -/

/-- Conversions due per period on the converter of channel `ch`, were its word `w` (R265). -/
def Lane.convsDue (l : Lane) (ch : Nat) (w : Word) : Nat × Nat :=
  let word (c : Nat) : Word := if c = ch then w else l.rd (Reg.AIN_CH_CFG c)
  let cs := ((List.range 8).map (fun k => ch / 8 * 8 + k)).filter (fun c => decide (bits (word c) 31 30 ≠ 3))
  ((cs.map (fun c => if bits (word c) 25 24 = 0 then 1 else bits (word c) 23 20)).sum, cs.length)

/-- A channel's word is refused (R267). -/
def Lane.chRefused (l : Lane) (ch : Nat) (w : Word) : Bool :=
  let current := decide (bits w 31 30 = 2)
  let due := l.convsDue ch w
  (current && decide (bits w 27 26 ≠ 1)) ||
  (decide (bits w 19 19 = 1) && (current || decide (bits w 25 24 ≠ 0))) ||
  (decide (bits w 25 24 ≠ 0) && decide (bits w 23 20 < 2)) ||
  decide (l.get F.CYCLE_TRING.NS < due.2 * l.convTime ∨ 9 * l.period < 10 * (due.1 * l.convTime))

/-- A mirrored write of AIN_CH_CFG takes effect after the words of its cycle are formed, at the end of its merge phase, `t`
(R267, R270, R278). -/
def Lane.chCfg (l : Lane) (ch : Nat) (w : Word) (source t : Nat) : Lane :=
  let old := l.rd (Reg.AIN_CH_CFG ch)
  if l.chRefused ch w then l.err ainPage 0x40 source (Reg.AIN_CH_CFG ch)
  else
    let l1 := l.wr (Reg.AIN_CH_CFG ch) w
    let e := l1.convH ch
    let gainChg := decide (bits w 27 26 ≠ bits old 27 26)
    let filtChg := decide (bits w 25 24 ≠ bits old 25 24 ∨ bits w 23 20 ≠ bits old 23 20)
    let n := max e.left (max (if gainChg then 4 else 0) (if filtChg then bits w 25 24 * bits w 23 20 else 0))
    let src := if bits w 29 28 ≠ bits old 29 28 then some t else e.src
    let l2 := l1.setConv { e with left := n, src := src }
    if bits w 18 18 = 1 ∧ bits old 18 18 = 0 then l2.setAinC { l2.ainC ch with band := 0 } else l2

/-- A write of a band bound returns the comparator to UNARMED (R278). -/
def Lane.bandWrite (l : Lane) (ch : Nat) : Lane := l.setAinC { l.ainC ch with band := 0 }

/-! ### Open-wire test (R274–R277) -/

/-- The slot decision in the compute of cycle `n` (R276). -/
def Lane.owDecide (l : Lane) (n : Nat) : Lane :=
  match l.owSel n with
    | none => l
    | some ch =>
      let e := l.ainC ch
      let tB := l.tOf n
      let chg := match l.pair.primAt with
        | some t => decide (tB ≤ t + l.owTime ∧ t < tB + 1000)
        | none => false
      let void := chg || decide (e.tagPrev ≠ 0)
      let opn := decide (bits e.word 29 29 = 1) ||
        decide (valueOf e.wordPrev + (l.get F.AIN_OW_CFG.THRESH * 1024 : Nat) < valueOf e.word)
      let res := if void then 2 else if opn then 1 else 0
      let l1 := ((l.setB F.AIN_OW_LAST.VALID true).set F.AIN_OW_LAST.RESULT res).set F.AIN_OW_LAST.CH ch
      let l2 := if void then { l1 with car := { l1.car with ow := { l1.car.ow with again := some ch } } } else l1
      if void then l2
      else if opn then ((l2.setAinC { e with opn := true }).ev ainPage 4).logEv ainPage 4 ch 1
      else l2.setAinC { e with opn := false }

/-- An entry that hands primacy over at its effect boundary: a transfer, or the leaving of this lane. -/
def Lane.handsOver (l : Lane) (e : Entry) : Bool :=
  match e.pay with
  | .transfer => true
  | .leave i _ _ => decide (i.num = l.num)
  | _ => false

/-- A planned handover's effect boundary lies in the slot of boundary `b` (R277). -/
def Lane.transferIn (l : Lane) (b : Nat) : Bool :=
  l.pair.entries.any (fun x => l.handsOver x &&
    decide (l.tOf b ≤ l.tOf x.effect + l.owTime ∧ l.tOf x.effect < l.tOf b + 1000))

/-- The test current flows in the slot of boundary `b`: from t_B − T_OW until t_B + 1 µs, in the lane that holds primacy, unless
a transfer falls into the slot (R274, R277). -/
def Lane.owFlows (l : Lane) (b : Nat) : Bool :=
  l.flag F.PAIR_STAT.PRIMACY && l.drives && l.running && !l.transferIn b && decide (l.tOf b ≤ l.t64 + l.owTime ∧ l.t64 < l.tOf b + 1000)

/-- The test current as it is at the present instant. -/
def Lane.owNow (l : Lane) : Lane :=
  { l with ain := { l.ain with owCur := (l.car.ow.slots.find? (fun x => l.owFlows x.1)).map Prod.snd } }

/-- An entry that has reached the lane stops a current that it forbids at once (R277). -/
def Lane.owHalt (l : Lane) : Lane := match l.ain.owCur with | none => l | some _ => l.owNow

/-- The instants at which the current of the next slot starts and at which that of the slot in progress stops. -/
def Lane.owStart (l : Lane) : Nat := l.tOf (l.cycN + 1) - l.owTime
def Lane.owEnd (l : Lane) : Nat := l.tOf l.cycN + 1000

/-- The test current stops. -/
def Lane.owOff (l : Lane) : Lane := { l with ain := { l.ain with owCur := none } }

/-! ### Converter rates and fast inputs (R280, R281) -/

/-- At a cycle boundary the precision converters take the rate that the CONV_FULL grant gives (R281). -/
def Lane.ainRate (l : Lane) : Lane :=
  if l.flag F.AIN_STAT.LOWPOWER = l.lowPower then l else (l.setB F.AIN_STAT.LOWPOWER l.lowPower).ev ainPage 7

/-- A mirrored write of FULL_REQ takes effect (R281). -/
def Lane.fullReq (l : Lane) (v : Nat) (source now : Nat) : Lane :=
  if v = 0 then (l.set F.AIN_CTRL.FULL_REQ 0).ledgerFree 0 0 now
  else if l.economy then
    if l.flag F.AIN_CTRL.FULL_REQ then l else (l.set F.AIN_CTRL.FULL_REQ 1).ledgerAsk 0 (classQuanta 0) (2 ^ 48) 0 now
  else l.err ainPage 0x41 source Reg.AIN_CTRL

/-- The fast converters start under a FAST_ARM grant, and stop when it ends (R280). -/
def Lane.fiPower (l : Lane) (on : Bool) (now : Nat) : Lane :=
  let l1 := { l with ain := { l.ain with fiAt := if on then some now else none } }
  if on then l1.set F.FI_CTRL.RUNNING 1 else (l1.set F.FI_CTRL.RUNNING 0).set F.FI_CTRL.READY 0

/-- 100 µs after the grant the fast converters deliver their first sample (R280). -/
def Lane.fiReady (l : Lane) (now : Nat) : Lane :=
  match l.ain.fiAt with
  | some t => if t + 40000 ≤ now ∧ l.flag F.FI_CTRL.READY = false then (l.set F.FI_CTRL.READY 1).ev ainPage 8 else l
  | none => l

/-- FI_CTRL.OVR shows the fast inputs that were over range in the cycle that ends. -/
def Lane.fiShow (l : Lane) : Lane := Lane.set { l with ain := { l.ain with fiOvr := 0 } } F.FI_CTRL.OVR (l.ain.fiOvr % 256)

/-! ### Outputs (R282–R284) -/

/-- At a boundary each DAC latches the code of the cycle image (R282). -/
def Lane.aoLatch (l : Lane) : Lane :=
  match l.image with
  | none => l
  | some im => im.aos.foldl (fun m x => m.set (F.AOUT_STAT.CODE x.1) (m.img x.2 2)) l

/-- The hold values of a cold start: the start values of the image entries (R73). -/
def Lane.aoStart (l : Lane) : Lane :=
  match l.image with
  | none => l
  | some im => im.aos.foldl (fun m x => m.set (F.AOUT_STAT.CODE x.1) (m.get (F.AOUT_CFG.START x.1))) l

/-- The hold values of a warm start: the codes in the latest snapshot of the warm store (R73). -/
def Lane.aoWarm (l : Lane) : Lane :=
  let latest := ((l.slots.filter Snap.complete).map Snap.cyc).foldl max 0
  match l.image, l.slots.find? (fun x => x.complete && x.cyc == latest) with
  | some im, some sn => im.aos.foldl (fun m x => m.set (F.AOUT_STAT.CODE x.1) (bytesAt sn.car.img x.2 2)) l
  | _, _ => l

/-- The code at the terminal: 0 for an unused output, no negative code on the unipolar ranges (R282). -/
def Lane.aoCode (l : Lane) (ch : Nat) : Int :=
  let c := signed 16 (l.get (F.AOUT_STAT.CODE ch))
  match l.get (F.AOUT_CFG.RANGE ch) with
  | 0 => c
  | 3 => 0
  | _ => max c 0

/-- Show which lane's DACs reach the terminals. -/
def Lane.aoDriving (l : Lane) (b : Bool) : Lane := (List.range 32).foldl (fun m ch => m.setB (F.AOUT_STAT.DRIVING ch) b) l

/-- The readback of output `ch` in code units, 20 µs after a latch (R284): more than 0.5 % of span off is a fault. -/
def Lane.aoReadback (l : Lane) (ch : Nat) (rb : Int) : Lane :=
  let span := if l.get (F.AOUT_CFG.RANGE ch) = 0 then 65536 else 32768
  if span < (rb - l.aoCode ch).natAbs * 200 then
    ((l.setB (F.AOUT_STAT.RB_FAULT ch) true).ev ainPage 6).logEv ainPage 6 ch 1
  else l

end Sys2Proof.Machine
end

