-- ==== Sys2Proof/Machine/Node.lean ====
section
/-! DEFINITION. The node table of the running graph (R140–R145). -/

namespace Sys2Proof.Machine

/-- Address of word `w` of node `i` (R141). -/
def nodeAddr (i w : Nat) : Nat := 0x01100000 + 32 * i + 4 * w

/-- Number of nodes of the running graph. -/
def Lane.nodes (l : Lane) : Nat := l.get F.CYCLE_GRAPH_SIZE.NODES

def Lane.ndKind (l : Lane) (i : Nat) : Nat := l.wu (nodeAddr i 0) 31 28
def Lane.ndClass (l : Lane) (i : Nat) : Nat := l.wu (nodeAddr i 0) 27 26
def Lane.ndEngine (l : Lane) (i : Nat) : Nat := l.wu (nodeAddr i 0) 25 20
def Lane.ndFlow (l : Lane) (i : Nat) : Nat := l.wu (nodeAddr i 0) 11 0
def Lane.ndPos (l : Lane) (i : Nat) : Nat := l.wu (nodeAddr i 1) 31 16
def Lane.ndObj (l : Lane) (i : Nat) : Nat := l.wu (nodeAddr i 1) 15 0
def Lane.ndEst (l : Lane) (i : Nat) : Nat := l.wu (nodeAddr i 2) 23 0
def Lane.ndDead (l : Lane) (i : Nat) : Nat := l.wu (nodeAddr i 3) 23 0
def Lane.ndOfs (l : Lane) (i : Nat) : Nat := l.wu (nodeAddr i 4) 31 16
def Lane.ndDiv (l : Lane) (i : Nat) : Nat := l.wu (nodeAddr i 4) 15 0
def Lane.ndCost (l : Lane) (i : Nat) : Nat := l.wu (nodeAddr i 5) 15 0
def Lane.ndTrace (l : Lane) (i : Nat) : Bool := decide (l.wu (nodeAddr i 6) 31 31 = 1)

/-- The loop instances of the running graph. -/
def Lane.loopInsts (l : Lane) : List Nat :=
  (List.range l.nodes).filterMap (fun i => if l.ndKind i = 1 ∨ l.ndKind i = 2 then some (l.ndObj i) else none)

/-- LOOP_FAULT_COUNT.ACTIVE of every loop engine: its instances that are in input fault. -/
def Lane.faultsShow (l : Lane) : Lane :=
  (List.range 64).foldl (fun m e =>
    let n := ((List.range l.nodes).filter (fun i => decide ((l.ndKind i = 1 ∨ l.ndKind i = 2) ∧ l.ndEngine i = e) &&
      decide (l.wu (peAddr (l.ndObj i) 21) 24 24 = 1))).length
    if m.get (F.LOOP_FAULT_COUNT.ACTIVE e) = n then m else m.set (F.LOOP_FAULT_COUNT.ACTIVE e) n) l

/-- Data predecessors of a node. -/
def Lane.ndPreds (l : Lane) (i : Nat) : List Nat := (l.image.map (fun im => im.preds.getD i [])).getD []

/-- A node is selected in cycle `n` (R143). -/
def Lane.selected (l : Lane) (i n : Nat) : Bool := decide (i < l.nodes ∧ l.ndDiv i ≠ 0 ∧ n % l.ndDiv i = l.ndOfs i)

/-- Node `j` stands before node `i` in the static order of one engine (R142). -/
def Lane.before (l : Lane) (j i : Nat) : Bool :=
  decide (l.ndClass j = l.ndClass i ∧ l.ndEngine j = l.ndEngine i ∧ (l.ndEst j < l.ndEst i ∨ (l.ndEst j = l.ndEst i ∧ j < i)))

/-- The selected nodes of cycle `n`, in the order of EST and number. -/
def Lane.selNodes (l : Lane) (n : Nat) : List Nat :=
  ((List.range l.nodes).filter (fun i => l.selected i n)).foldr
    (fun i acc => (acc.filter (fun j => decide (l.ndEst j < l.ndEst i ∨ (l.ndEst j = l.ndEst i ∧ j < i)))) ++
      i :: acc.filter (fun j => decide (¬(l.ndEst j < l.ndEst i ∨ (l.ndEst j = l.ndEst i ∧ j < i))))) []

/-- The member of a flow that must complete before node `i`: the selected one with the next lower position (R144). -/
def Lane.flowPred (l : Lane) (i n : Nat) : Option Nat :=
  if l.ndFlow i = 0 then none
  else ((l.selNodes n).filter (fun j => decide (l.ndFlow j = l.ndFlow i ∧ l.ndPos j < l.ndPos i))).foldl
    (fun (b : Option Nat) j => match b with
      | some k => if l.ndPos k < l.ndPos j then some j else b
      | none => some j) none

/-- The page of the engine whose node serves a loop, a generator or a group of the loop tables, or that of loop engine 0
(R183). -/
def Lane.loopServer (l : Lane) (a : Nat) : Nat :=
  let loops (k : Nat) : Bool := decide (k = 1 ∨ k = 2)
  let serves (i : Nat) : Bool :=
    if a < 0x01500000 then loops (l.ndKind i) && decide (l.ndObj i = (a - 0x01400000) / 128)
    else if a < 0x01600000 then loops (l.ndKind i) && decide (l.ndObj i = (a - 0x01500000) / 256)
    else if a < 0x01700000 then loops (l.ndKind i) && decide (l.wu (peAddr (l.ndObj i) 7) 15 0 = (a - 0x01600000) / 64)
    else (decide (l.ndKind i = 3) && decide (l.ndObj i = (a - 0x01700000) / 64)) ||
      (loops (l.ndKind i) && decide (l.wu (peAddr (l.ndObj i) 7) 31 16 = (a - 0x01700000) / 64))
  match (List.range l.nodes).find? serves with
  | some i => loopPage (l.ndEngine i)
  | none => loopPage 0

end Sys2Proof.Machine
end

