-- ==== Sys2Proof/Machine/Axis.lean ====
section
/-! DEFINITION. Motion axes (chapter 12): lines and their debouncing, commands and states, stops and faults, homing,
trajectory, current, one execution of an AXIS node. -/

namespace Sys2Proof.Machine

/-! ### Parameters (R304) -/

/-- Word `w` of AXIS_PE entry `a`. -/
def axAddr (a w : Nat) : Nat := 0x04000000 + 128 * a + 4 * w
/-- MOTOR: 0 stepper, 1 PMSM, 2 ring. -/
def Lane.motor (l : Lane) (a : Nat) : Nat := l.wu (axAddr a 0) 31 30
/-- ENC: 0 none, 1 ABZ, 2 SSI. -/
def Lane.enc (l : Lane) (a : Nat) : Nat := l.wu (axAddr a 0) 29 28
/-- DEBOUNCE in ns. -/
def Lane.debounce (l : Lane) (a : Nat) : Nat := l.wu (axAddr a 20) 15 0 * 1000
/-- HOME_METHOD. -/
def Lane.homeMethod (l : Lane) (a : Nat) : Nat := l.wu (axAddr a 21) 31 28
/-- A 32-bit signed parameter word. -/
def Lane.axS (l : Lane) (a w : Nat) : Int := signed 32 (l.win (axAddr a w)).toNat

/-- A write of AXIS_PE would break a limit of R304. -/
def Lane.axRefused (l : Lane) (a : Nat) : Bool :=
  decide (20000 < l.wu (axAddr a 20) 15 0) ||
  decide (l.u48 (axAddr a 10) < l.u48 (axAddr a 6)) || decide (l.u48 (axAddr a 12) < l.u48 (axAddr a 8)) ||
  decide (l.wu (axAddr a 16) 31 16 < l.wu (axAddr a 16) 15 0) || decide (l.wu (axAddr a 16) 31 16 < l.wu (axAddr a 17) 31 16) ||
  (decide (l.homeMethod a = 5) && !(decide (l.motor a < 2) && decide (l.enc a = 1))) ||
  decide (7 < l.homeMethod a) || decide (l.wu (axAddr a 18) 1 0 = 3) || decide (8 ≤ l.wu (axAddr a 26) 31 28)

/-- Bits of AXIS_PE word `w` that a write reaches (R304); none in reserved words. -/
def axMask (w : Nat) : Nat :=
  if w < 4 ∨ 28 < w then 0
  else if w < 14 then (if w % 2 = 0 then 0xFFFFFFFF else 0x0000FFFF)
  else match w with
    | 14 => 0xFFFFF000 | 15 => 0xFFFFF000 | 18 => 0xFFFFFF03 | 21 => 0xF0FFFFFF | _ => 0xFFFFFFFF

/-- A mirrored write of AXIS_PE takes effect or is refused (R304); words 0–3 are bound (R182). -/
def Lane.axisPe (l : Lane) (addr : Nat) (data mask : Word) (source : Nat) : Lane :=
  let a := (addr - 0x04000000) / 128 % 256
  let w := (addr - 0x04000000) % 128 / 4
  let m := word (axMask w) &&& mask
  let l1 := l.putWin addr ((l.win addr &&& ~~~m) ||| (data &&& m))
  if l1.axRefused a then l.err 0x680 0x41 source addr else l1

/-! ### Lines (R296, R297) -/

/-- The debounced level of a line at `t`. -/
def Line.settle (x : Line) (t deb : Nat) : Line := if x.since + deb ≤ t then { x with deb := x.raw } else x

/-- A raw level seen at `t`: a change is a transition. -/
def Line.see (x : Line) (b : Bool) (t deb : Nat) : Line :=
  let y := x.settle t deb
  if b = y.raw then y
  else ({ y with raw := b, since := t, trans := (t :: y.trans.filter (fun u => decide (t < u + 50000000))).take 16 } : Line).settle t deb

/-- The line is in chatter at `t`: more than 8 transitions in [t − 50 ms, t) (R297). -/
def Line.chatter (x : Line) (t : Nat) : Bool := decide (8 < (x.trans.filter (fun u => decide (t ≤ u + 50000000 ∧ u < t))).length)

/-- A line never seen. -/
def line0 : Line := ⟨false, 0, false, []⟩

/-! ### Hardware of a direct axis (R287–R291) -/

/-- No setpoint: gates off. -/
def axSet0 : AxSet := ⟨false, none, 0, 0, 0⟩

/-- The hardware of direct axis `a`. -/
def Lane.axHw (l : Lane) (a : Nat) : AxHw :=
  (l.axis.hw.find? (fun e => e.ax == a)).getD
    ⟨a, line0, line0, line0, 0, 0, false, false, false, [], false, axSet0, axSet0, 0, 0, 0⟩

/-- Store the hardware of a direct axis. -/
def Lane.setAxHw (l : Lane) (e : AxHw) : Lane := { l with axis := { l.axis with hw := upsert AxHw.ax e l.axis.hw } }

/-- A raw transition of LIM_NEG (0), LIM_POS (1), HOME (2) or the index (3) of a direct axis, at encoder position `pos`
with fine stamp `ts`; a rising home or index edge, or the limit edge that HOME_METHOD names, latches (R296, R299). -/
def Lane.limitInput (l : Lane) (a which : Nat) (level : Bool) (pos : Int) (ts : Nat) : Lane :=
  let e := l.axHw a
  let t := l.t64
  let d := l.debounce a
  let e1 := match which with
    | 0 => { e with lneg := e.lneg.see level t d }
    | 1 => { e with lpos := e.lpos.see level t d }
    | 2 => { e with lhome := e.lhome.see level t d }
    | _ => e
  let m := l.homeMethod a
  let latches := level && (decide (2 ≤ which) || (decide (which = 0) && decide (m = 1)) || (decide (which = 1) && decide (m = 2)))
  l.setAxHw (if latches then { e1 with latch := pos, ts := ts % 2 ^ 32, latchNew := true } else e1)

/-- The node of axis `a` does not execute in cycle `n`, though the graph has one (R285, R293). -/
def Lane.axSkips (l : Lane) (a n : Nat) : Bool :=
  let own := (List.range l.nodes).filter (fun i => decide (l.ndKind i = 7 ∧ l.ndObj i = a))
  decide (own ≠ []) && !own.any (fun i => l.selected i n)

/-- The feedback record of a direct axis at t_N (R287). Its flags start anew with the record that the node reads; until then
they stay (DEDUCED, log entry 198). -/
def Lane.axRecord (l : Lane) (a n0 : Nat) (pos : Int) (load amp : Nat) (encFault : Bool) (t : Nat) : AxFb × AxHw :=
  let e := l.axHw a
  let held := l.axSkips a n0
  let d := l.debounce a
  let n := e.lneg.settle t d
  let p := e.lpos.settle t d
  let h := e.lhome.settle t d
  let st := b2n n.deb + 2 * b2n p.deb + 4 * b2n h.deb + 8 * b2n (n.chatter t) + 16 * b2n (p.chatter t) + 32 * b2n e.latchNew +
    64 * b2n encFault + 128 * b2n e.excess + 256 * b2n e.mclk
  (⟨pos, e.latch, e.ts, load % 2 ^ 16, amp % 2 ^ 16, st⟩, { e with lneg := n, lpos := p, lhome := h, latchNew := held && e.latchNew, excess := held && e.excess, mclk := held && e.mclk })

/-! ### Axes -/

/-- An axis never used: DISABLED. -/
def axisNew (a : Nat) : AxisI :=
  { ax := a, st := 0, pos := 0, vel := 0, acc := 0, plan := none, goal := 0, mode := 0, replan := 0, act := 0, ofs := 0,
    hPhase := 0, hStart := 0, hSeen := false, homed := false, homeRes := 0, cmdRes := 0, limStop := false, doneF := false,
    fault := 0, stallN := 0, rest := 0, iset := 0, load := 0, angle := 0, iq := 0, cmds := [], ackOut := false,
    lneg := line0, lpos := line0, lhome := line0, latchTog := false, latch := 0, resync := false,
    off := false, homeWas := false }

/-- Axis `a`. -/
def Lane.axisI (l : Lane) (a : Nat) : AxisI := (l.car.axes.find? (fun e => e.ax == a)).getD (axisNew a)

/-- Store an axis. -/
def Lane.setAxis (l : Lane) (e : AxisI) : Lane := l.apply (.axisI e)

/-- Where the payload of the station of ring axis `a` begins in the cycle image, inputs or outputs. -/
def Lane.axPayload (l : Lane) (a : Nat) (ins : Bool) : Option Nat :=
  let r := l.wu (axAddr a 1) 31 24
  let s := l.wu (axAddr a 1) 23 16
  l.image.bind (fun im => ((if ins then im.ins else im.outs).find? (fun m => m.ring == r && m.sta == s)).map StaMap.off)

/-- The station of ring axis `a` is absent. -/
def Lane.axAbsent (l : Lane) (a : Nat) : Bool := l.absent (l.wu (axAddr a 1) 31 24) (l.wu (axAddr a 1) 23 16)

/-- Per-cycle samples of the lines of ring axis `a`, at t_N (R296). -/
def Lane.ringLines (l : Lane) (a t : Nat) : Lane :=
  match l.axPayload a true with
  | none => l
  | some o =>
    let e := l.axisI a
    let st := l.img (o + l.wu (axAddr a 2) 15 0 + 8) 1
    let d := l.debounce a
    l.setAxis { e with lneg := e.lneg.see (st.testBit 0) t d, lpos := e.lpos.see (st.testBit 1) t d, lhome := e.lhome.see (st.testBit 2) t d }

/-- What an execution sees: actual raw position, latch and whether it is new, load, debounced lines and chatter, fault
bits (encoder, overcurrent, MCLK, absent, drive). -/
structure AxSeen where
  raw : Int
  latch : Int
  latchNew : Bool
  tog : Bool
  load : Nat
  neg : Bool
  pos : Bool
  home : Bool
  chNeg : Bool
  chPos : Bool
  drive : Nat

/-- Extend a 32-bit ring position against the previous one by the nearest rule (R288). -/
def nearest32 (v : Nat) (ref : Int) : Int :=
  let d := ((v : Int) - ref) % (2 ^ 32)
  if d < 2 ^ 31 then ref + d else ref + d - 2 ^ 32

/-- Read the feedback of axis `e` (R286, R287, R288). -/
def Lane.axSee (l : Lane) (e : AxisI) (t : Nat) : AxSeen :=
  if e.ax < 16 then
    match l.axis.fb.find? (fun x => x.1 == e.ax) with
    | some (_, f) =>
      let b (i : Nat) : Bool := f.status.testBit i
      ⟨f.pos, f.latch, b 5, false, f.load, b 0, b 1, b 2, b 3, b 4, if b 6 then 5 else if b 7 then 6 else if b 8 then 7 else 0⟩
    | none => ⟨e.act - e.ofs, e.latch, false, false, e.load, false, false, false, false, false, 0⟩
  else
    let prev := e.act - e.ofs
    match l.axPayload e.ax true with
    | none => ⟨prev, e.latch, false, e.latchTog, e.load, false, false, false, false, false, 8⟩
    | some o0 =>
      let o := o0 + l.wu (axAddr e.ax 2) 15 0
      let st := l.img (o + 8) 1
      ⟨nearest32 (l.img o 4) prev, nearest32 (l.img (o + 4) 4) prev, decide (st.testBit 3 ≠ e.latchTog), st.testBit 3,
       l.img (o + 10) 2, e.lneg.deb, e.lpos.deb, e.lhome.deb, e.lneg.chatter t, e.lpos.chatter t,
       if l.axAbsent e.ax then 8 else if st.testBit 4 then 9 else 0⟩

/-- An execution of an axis in progress: the axis, the events set (bits of EV_PEND), records to write. -/
structure AxRun where
  e : AxisI
  ev : List Nat
  recs : List Nat

/-- Set an event. -/
def AxRun.sig (r : AxRun) (b : Nat) : AxRun := { r with ev := r.ev ++ [b] }
/-- Write one event record, about an event. -/
def AxRun.log (r : AxRun) (b : Nat) : AxRun := { r with ev := r.ev ++ [b], recs := r.recs ++ [b] }

/-- A command is refused (R292). -/
def AxRun.refuse (r : AxRun) : AxRun := { r with e := { r.e with cmdRes := 2 } }.sig 8

/-- Motion toward an active limit. -/
def toward (s : AxSeen) (d : Int) : Bool := (decide (d < 0) && s.neg) || (decide (0 < d) && s.pos)

/-- Direction of a homing method: −1, 0 or 1 (R298). -/
def homeDir (m : Nat) : Int := match m with | 1 => -1 | 2 => 1 | 3 => 1 | 4 => -1 | 5 => 1 | 6 => -1 | 7 => 1 | _ => 0

/-- The commanded position in counts. -/
def AxisI.cpos (e : AxisI) : Int := Int.fdiv e.pos (2 ^ 32)

/-- Put the commanded position on the actual one, at rest. -/
def AxisI.sync (e : AxisI) : AxisI :=
  { e with pos := e.act * 2 ^ 32, vel := 0, acc := 0, plan := none, goal := e.act, mode := 0, replan := 0 }

/-- The present target in counts; that of a velocity is the commanded position (log entry 197). -/
def AxisI.target (e : AxisI) : Int := if e.mode = 1 then e.cpos else e.goal

/-- Shift the position scale so that `ref` reads `v` (R299). -/
def AxisI.shift (e : AxisI) (ref v : Int) : AxisI :=
  let d := v - ref
  { e with act := e.act + d, pos := e.pos + d * 2 ^ 32, ofs := e.ofs + d, goal := e.goal + d, hStart := e.hStart + d }

/-- The target of FOLLOW: none where the value is not valid (R293). -/
def Lane.followTgt (l : Lane) (a : Nat) : Option Int :=
  let v := l.readRef (l.win (axAddr a 26)).toNat
  if v.2 = 0 then some (l.axS a 28 + Int.fdiv (v.1 * l.axS a 27 + 2 ^ 14) (2 ^ 15)) else none

/-- A stop from a cause (R295): state STOPPING, to rest on a ramp (2 programmed, 3 limit). -/
def AxRun.stop (r : AxRun) (ramp bit : Nat) : AxRun := { r with e := { r.e with st := 4, replan := ramp } }.log bit

/-- One command, in the state the previous one left (R292–R295). -/
def axCommand (l : Lane) (s : AxSeen) (r : AxRun) (c : Nat × Int) : AxRun :=
  let e := r.e
  let ok (e' : AxisI) : AxRun := { r with e := { e' with cmdRes := 1 } }
  let canMove := decide (e.st = 1 ∨ e.st = 2)
  match c.1 with
  | 1 => if e.st = 0 then ok { e.sync with st := 1, rest := 0, off := false } else r.refuse
  | 2 => if e.st = 1 ∨ e.st = 5 then ok { e with st := 0, plan := none, vel := 0, acc := 0, replan := 0 } else r.refuse
  | 3 => if canMove && !toward s (c.2 - e.cpos) then ok { e with st := 2, goal := c.2, mode := 0, replan := 1, doneF := false, limStop := false } else r.refuse
  | 4 => if canMove && !toward s (e.target + c.2 - e.cpos) then
      ok { e with st := 2, goal := e.target + c.2, mode := 0, replan := 1, doneF := false, limStop := false } else r.refuse
  | 5 =>
    let v := signed 32 (twos 32 c.2)
    if canMove && !toward s v then ok { e with st := 2, goal := v, mode := 1, replan := 1, doneF := false, limStop := false } else r.refuse
  | 6 =>
    let g := (l.followTgt e.ax).getD e.target
    if canMove && !toward s (g - e.cpos) then ok { e with st := 2, goal := g, mode := 2, replan := 1, doneF := false, limStop := false } else r.refuse
  | 7 =>
    if e.st = 2 then { r with e := { e with cmdRes := 1 } }.stop 2 0
    else if e.st = 3 then ({ r with e := { e with cmdRes := 1, homeRes := 2 } }.stop 2 0).sig 3
    else r.refuse
  | 8 =>
    if e.st = 2 ∨ e.st = 4 then { r with e := { e with cmdRes := 1 } }.stop 3 0
    else if e.st = 3 then ({ r with e := { e with cmdRes := 1, homeRes := 2 } }.stop 3 0).sig 3
    else r.refuse
  | 9 =>
    let m := l.homeMethod e.ax
    if e.st ≠ 1 then r.refuse
    else if m = 0 then
      { r with e := { e.shift e.act (l.axS e.ax 22) with cmdRes := 1, homed := true, homeRes := 1 } }.sig 2
    else if toward s (homeDir m) then r.refuse
    else ok { e with st := 3, hPhase := 0, hStart := e.cpos, hSeen := false, homeWas := s.home, homeRes := 0, stallN := 0, mode := 1,
                     goal := homeDir m * (l.wu (axAddr e.ax 21) 23 0 : Nat), replan := 1, doneF := false, limStop := false }
  | 10 =>
    let gone : Bool := match e.fault with
      | 1 => !s.chNeg && !s.chPos
      | 4 => !(s.neg && s.pos)
      | 5 => decide (s.drive ≠ 5) | 6 => decide (s.drive ≠ 6) | 7 => decide (s.drive ≠ 7)
      | 8 => decide (s.drive ≠ 8) | 9 => decide (s.drive ≠ 9)
      | _ => true
    if decide (e.st = 5) && decide (e.vel = 0) && e.plan.isNone && gone then ok { e.sync with st := 1, fault := 0, rest := 0, ackOut := true, off := false } else r.refuse
  | _ => r

/-- A fault: the cause is kept if none is held (R295). -/
def AxRun.fail (r : AxRun) (code ramp : Nat) : AxRun :=
  { r with e := { r.e with st := 5, fault := if r.e.fault = 0 then code else r.e.fault, replan := if ramp = 0 then 0 else ramp } }.log 7

/-- The axis at rest at once, its drive off. -/
def AxRun.off (r : AxRun) : AxRun := { r with e := { r.e with plan := none, vel := 0, acc := 0, replan := 0, off := true } }

/-- Limits, chatter, stall, following error and faults, the row of R294 listed first first (R294–R302). -/
def axJudge (l : Lane) (s : AxSeen) (r : AxRun) : AxRun :=
  let e := r.e
  let a := e.ax
  let m := l.homeMethod a
  let moving := decide (e.st = 2 ∨ e.st = 3 ∨ e.st = 4)
  let ferr := l.wu (axAddr a 25) 31 0
  let sn := l.wu (axAddr a 18) 15 8
  let hot := decide ((l.axS a 18) / 65536 ≤ signed 16 s.load) && decide (l.wu (axAddr a 19) 31 0 * 65536 ≤ e.vel.natAbs)
  let stallN := if hot then min (e.stallN + 1) 255 else 0
  let stalled := decide (sn ≠ 0) && decide (sn ≤ stallN)
  let r := { r with e := { e with stallN := stallN } }
  if e.st ≠ 0 ∧ e.off = false ∧ s.drive ≠ 0 then
    let r1 := (r.fail s.drive 0).off
    if s.drive = 5 then { r1 with e := { r1.e with homed := false } } else r1
  else if moving && (s.chNeg || s.chPos) then
    let r1 := ((r.fail 1 3).sig 5)
    if e.st = 3 then { r1 with e := { r1.e with homeRes := 2 } }.sig 3 else r1
  else if moving && decide (ferr ≠ 0) && decide (ferr * 2 ^ 32 < (e.pos - e.act * 2 ^ 32).natAbs) then r.fail 2 3
  else if moving && stalled && !(decide (e.st = 3) && decide (m = 6 ∨ m = 7) && decide (e.hPhase = 0)) then
    let r1 := (r.fail 3 0).sig 6
    { r1 with e := { r1.e.sync with homed := false } }
  else if moving && s.neg && s.pos then r.fail 4 3
  else if e.st = 3 ∧ ((s.neg ∧ m ≠ 1) ∨ (s.pos ∧ m ≠ 2)) then
    ({ r with e := { r.e with homeRes := 2 } }.stop 3 3).sig 4
  else if e.st = 2 ∧ ((s.neg ∧ e.vel < 0) ∨ (s.pos ∧ 0 < e.vel)) then
    { r with e := { r.e with limStop := true } }.stop 3 4
  else if e.st = 3 ∧ e.hPhase = 0 then
    let rises := s.home && !e.homeWas
    let ev := match m with
      | 1 => s.neg | 2 => s.pos | 3 => rises | 4 => rises
      | 5 => e.hSeen && s.latchNew | 6 => stalled | _ => stalled
    let r1 := { r with e := { r.e with hSeen := e.hSeen || rises } }
    if ev then
      let ref := if m ≤ 5 then s.latch + e.ofs else e.act
      let r2 := { r1 with e := { r1.e.shift ref (l.axS a 22) with hPhase := 1, replan := 2 } }
      if m = 6 ∨ m = 7 then r2.sig 6 else r2
    else if l.wu (axAddr a 24) 31 0 < (e.cpos - e.hStart).natAbs then
      { r1 with e := { r1.e with homeRes := 3, st := 4, replan := 2 } }
    else r1
  else r

/-- Plan what the axis is to do (R293, R295, R299), from the state that its motion has reached (log entry 150). -/
def axPlan (l : Lane) (e : AxisI) : AxisI :=
  let a := e.ax
  let v := if e.st = 3 ∧ e.hPhase = 0 then l.wu (axAddr a 21) 23 0 * 65536 else l.u48 (axAddr a 4)
  let lim := decide (e.replan = 3)
  let ac := if lim then l.u48 (axAddr a 10) else l.u48 (axAddr a 6)
  let j := if lim then l.u48 (axAddr a 12) else l.u48 (axAddr a 8)
  let course (c : Int) (tgt : Option Int) : Plan := planMoving e.pos e.vel e.acc c tgt (max v c.natAbs) ac j
  match e.replan with
  | 0 => e
  | 1 =>
    if e.mode = 1 then
      let c := e.goal * 65536
      { e with replan := 0, plan := if e.vel = c ∧ e.acc = 0 then none else some (course c none) }
    else if e.vel = 0 ∧ e.acc = 0 then
      let tgt := e.goal * 2 ^ 32
      { e with replan := 0, plan := if tgt = e.pos ∨ v = 0 ∨ ac = 0 ∨ j = 0 then none else some (planRest e.pos tgt v ac j) }
    else { e with replan := 0, plan := some (course 0 (some (e.goal * 2 ^ 32))) }
  | _ => { e with replan := 0, plan := if e.vel = 0 ∧ e.acc = 0 then none else some (course 0 none) }

/-- What follows when the trajectory is at its end (R294, R299). -/
def axArrive (l : Lane) (r : AxRun) : AxRun :=
  let e := r.e
  let rest := decide (e.plan.isNone ∧ e.vel = 0 ∧ e.acc = 0)
  if e.st = 4 ∧ rest then { r with e := { e with st := 1, goal := e.cpos, rest := 0 } }
  else if e.st = 2 ∧ e.mode = 0 ∧ rest ∧ e.pos = e.goal * 2 ^ 32 then
    { r with e := { e with st := 1, doneF := true, rest := 0 } }.sig 1
  else if e.st = 3 ∧ e.hPhase = 1 ∧ rest then
    { r with e := { e with hPhase := 2, mode := 0, goal := l.axS e.ax 23, replan := 1 } }
  else if e.st = 3 ∧ e.hPhase = 2 ∧ rest ∧ e.pos = e.goal * 2 ^ 32 then
    { r with e := { e with st := 1, homed := true, homeRes := 1, rest := 0 } }.sig 2
  else r

/-- One execution of the motion in progress: the plan, or a velocity kept (R293). -/
def axMove (e : AxisI) : AxisI :=
  match e.plan with
  | some q =>
    let s := q.next
    { e with pos := s.2.1, vel := s.2.2.1, acc := s.2.2.2, plan := if s.1.total ≤ s.1.done then none else some s.1 }
  | none => { e with pos := e.pos + e.vel }

/-- Advance the trajectory by one execution; a new plan begins from where the motion then is (R286). -/
def axAdvance (l : Lane) (r : AxRun) : AxRun :=
  let e := axMove r.e
  if r.e.replan ≠ 0 then axArrive l { r with e := axPlan l e }
  else if r.e.plan.isNone ∧ e.vel ≠ 0 then { r with e := e }
  else axArrive l { r with e := e }

/-- The current setpoint of an execution (R300, R301). -/
def axCurrent (l : Lane) (e : AxisI) : Int :=
  let a := e.ax
  let run : Int := signed 16 (l.wu (axAddr a 16) 31 16)
  let imin : Int := signed 16 (l.wu (axAddr a 17) 31 16)
  let off := decide (e.st = 0) || e.off
  if off then 0
  else if e.vel ≠ 0 ∨ e.plan.isSome then
    if l.motor a = 1 then run
    else
      let want := clampI (imin + round15 (signed 16 (l.wu (axAddr a 17) 15 0) * signed 16 e.load)) imin run
      clampI want (e.iset - run / 16) (e.iset + run / 16)
  else match l.wu (axAddr a 18) 1 0 with
    | 2 => if e.rest * (l.period * max 1 (l.wu (axAddr a 1) 15 0)) < l.wu (axAddr a 20) 31 16 * 1000000 then run
           else signed 16 (l.wu (axAddr a 16) 15 0)
    | _ => 0

/-- The command record of a ring axis (R288). -/
def axRecordOut (l : Lane) (e : AxisI) : List Nat :=
  let div := max 1 (l.wu (axAddr e.ax 1) 15 0)
  let on := decide (e.st ≠ 0) && !e.off
  let mode := if on then l.wu (axAddr e.ax 18) 1 0 else 0
  leBytes 4 (twos 32 (e.cpos - e.ofs)) ++ leBytes 4 (twos 32 (Int.fdiv e.vel (65536 * div))) ++
    leBytes 2 (b2n on + 2 * mode + 8 * b2n (decide (e.st = 3)) + 16 * b2n e.ackOut) ++ leBytes 2 (twos 16 e.iset)

/-- Show an axis in its slot. -/
def axShow (w : Work) (e : AxisI) (s : AxSeen) : Work :=
  let st := e.homeRes * 2 ^ 14 + e.cmdRes * 2 ^ 12 + b2n e.limStop * 2 ^ 11 + b2n e.doneF * 2 ^ 10 + b2n e.homed * 2 ^ 9 +
    b2n s.home * 2 ^ 8 + b2n s.pos * 2 ^ 7 + b2n s.neg * 2 ^ 6 + e.st
  let p := twos 64 e.act
  let n := ((upsert AxisI.ax e w.l.car.axes).filter (fun x => x.st == 5)).length
  (((((((w.put (.axisI e)).put (.fld (Reg.AXIS_STAT e.ax) 31 0 st)).put (.fld (Reg.AXIS_POS_LO e.ax) 31 0 p)).put
    (.fld (Reg.AXIS_POS_HI e.ax) 31 0 (p / 2 ^ 32))).put (.fld (Reg.AXIS_FAULT e.ax) 31 0 (if e.fault = 0 then 0 else 2 ^ 31 + e.fault))).put
    (.fld (Reg.AXIS_LOAD e.ax) 31 0 (twos 16 e.iset * 65536 + e.load))).put (.fld Reg.AXIS_SUMMARY 31 24 n))

/-- Commands that a stop or DISABLE of the same execution leaves (R292). -/
def axOrder (cs : List (Nat × Int)) : List (Nat × Int) :=
  if cs.any (fun c => decide (c.1 = 7 ∨ c.1 = 8 ∨ c.1 = 2)) then
    cs.filter (fun c => decide (¬ ((3 ≤ c.1 ∧ c.1 ≤ 6) ∨ c.1 = 9)))
  else cs

/-- Zero a command word of the image that has been consumed. -/
def Work.takeCmd (w : Work) (off : Option Nat) : Work := match off with | some o => w.put (.img o 4 0) | none => w

/-- One execution of the node of axis `a` (R286). -/
def axisExec (w0 : Work) (a t : Nat) : Work :=
  let l := w0.l
  let e0 := l.axisI a
  let s := l.axSee e0 t
  let off := l.image.bind (fun im => (im.axCmds.find? (fun x => x.1 == a)).map Prod.snd)
  let img := match off with | some o => l.img o 4 % 16 | none => 0
  let tgt := signed 64 (l.get64 (Reg.AXIS_TGT_LO a) (Reg.AXIS_TGT_HI a))
  let e1 := { e0 with act := s.raw + e0.ofs, load := s.load, latchTog := s.tog, latch := s.latch, cmds := [], ackOut := false }
  let e2 := if e1.resync then { e1.sync with resync := false } else e1
  let cs := axOrder (e0.cmds ++ (if img = 0 then [] else [(img, tgt)]))
  let r1 := cs.foldl (axCommand l s) ⟨e2, [], []⟩
  let r2 := axJudge l s r1
  let e3 := r2.e
  let e4 := if e3.st = 2 ∧ e3.mode = 2 then
      match l.followTgt a with
      | some g => if g = e3.goal then e3 else { e3 with goal := g, replan := 1 }
      | none => e3
    else e3
  let r3 := axAdvance l { r2 with e := e4 }
  let e5 := { r3.e with iset := axCurrent l r3.e, rest := if r3.e.st = 1 then r3.e.rest + 1 else 0 }
  let e6 := { e5 with
      homeWas := s.home
      angle := (e5.pos * (l.wu (axAddr a 3) 31 0 : Nat) / 2 ^ 32 % 2 ^ 32).toNat
      iq := if l.motor a = 1 then
          clampI (Config.pmsmIq [e5.pos, e5.act, e5.vel, l.ws (axAddr a 14) 31 16, l.wu (axAddr a 14) 15 12, l.ws (axAddr a 15) 31 16, l.wu (axAddr a 15) 15 12])
            (-e5.iset) e5.iset
        else 0 }
  let w1 := axShow (w0.takeCmd (if img = 0 then none else off)) e6 s
  let w2 := r3.ev.foldl (fun w b => w.put (.ev 0x680 b)) w1
  let w3 := if e6.st ≠ e0.st then w2.put (.ev 0x680 0) else w2
  let w4 := if e6.cmdRes = 2 ∧ r3.ev.contains 8 then w3.put (.err 0x680 0x40 0x12 (Reg.AXIS_CMD a)) else w3
  let w5 := r3.recs.foldl (fun w b => w.put (.log 0x68 0 b [(8, l.cycN), (4, (w.l.rd (Reg.ERR_CODE 0x680)).toNat), (4, (w.l.rd (Reg.ERR_ADDR 0x680)).toNat),
    (2, a), (4, 1)])) w4
  if l.motor a = 2 then
    match l.axPayload a false with
    | some o => (axRecordOut l e6).zipIdx.foldl (fun w x => w.put (.img (o + l.wu (axAddr a 2) 31 16 + x.2) 1 x.1)) w5
    | none => w5
  else w5

/-- A command to axis `a` applied at the start of its effect cycle, with the target as it stands (R292). -/
def Lane.axisCmd (l : Lane) (a cmd : Nat) : Lane :=
  if cmd = 0 ∨ 10 < cmd then l
  else
    let e := l.axisI a
    l.setAxis { e with cmds := e.cmds ++ [(cmd, signed 64 (l.get64 (Reg.AXIS_TGT_LO a) (Reg.AXIS_TGT_HI a)))] }

/-- An axis at a warm resumption (R303). -/
def axWarm (l : Lane) (e : AxisI) : AxisI :=
  let homed := e.homed && !(decide (e.ax < 16) && decide (l.enc e.ax = 1))
  if e.st = 2 ∨ e.st = 3 ∨ e.st = 4 then
    { e with st := 5, fault := if e.fault = 0 then 10 else e.fault, plan := none, vel := 0, acc := 0, replan := 0, homed := homed }
  else { e with resync := decide (e.st = 1), homed := homed }

/-- The axes at a warm resumption (R303): those that moved enter FAULT with code 10, with its events and record (R295), and
every slot shows its axis again. -/
def Lane.axesWarm (l : Lane) : Lane :=
  l.car.axes.foldl (fun m e =>
    let x := axWarm m e
    let m1 := (axShow ⟨m, []⟩ x (m.axSee x m.t64)).l
    if x.st ≠ e.st then ((m1.ev 0x680 0).ev 0x680 7).logEv 0x680 7 e.ax 1 else m1) l

/-! ### PWM (R289–R291, R295) -/

/-- The gate setpoints that the node of axis `a` leaves (R286, R294, R300). -/
def Lane.axSetpoint (l : Lane) (a : Nat) : AxSet :=
  let e := l.axisI a
  let mode := l.wu (axAddr a 18) 1 0
  ⟨decide (e.st ≠ 0) && !e.off && !(decide (e.st = 1) && decide (mode = 0)), if e.st = 1 then some mode else none, e.iset, e.angle, e.iq⟩

/-- The direct axes of the graph: those with an AXIS node. -/
def Lane.directAxes (l : Lane) : List Nat :=
  (List.range 16).filter (fun a => decide (l.motor a ≠ 2) &&
    (List.range l.nodes).any (fun i => decide (l.ndKind i = 7 ∧ l.ndObj i = a)))

/-- At a boundary the current loop of each direct axis adopts the setpoints of the cycle that ends; its PWM periods begin
anew (R132, R136, R289). -/
def Lane.axLatch (l : Lane) : Lane :=
  l.directAxes.foldl (fun m a =>
    let h := m.axHw a
    m.setAxHw { h with set := m.axSetpoint a, setOld := h.set, k := 0 }) l

/-- T_PWM in ns, and the instant of PWM boundary `k` of cycle `n` (R289). -/
def Lane.pwmDiv (l : Lane) (a : Nat) : Nat := max 1 (l.wu (axAddr a 0) 21 15)
def Lane.pwmAt (l : Lane) (a n k : Nat) : Nat := l.tOf n + k * l.period / l.pwmDiv a

/-- The commutation setpoint of PWM period `k`: linear from the value of the cycle before, the shorter way round (R289). -/
def pwmAngle (old new k div : Nat) : Nat :=
  let d := signed 32 ((new + 2 ^ 32 - old % 2 ^ 32) % 2 ^ 32)
  ((old : Int) + Int.fdiv (d * k) div).toNat % 2 ^ 32

/-- A PWM boundary of axis `a` on a lane: its duties, the other lane's, and whether it holds primacy (R289, R290). -/
def Lane.pwm (l : Lane) (a : Nat) (own oth : List Nat) (prime both : Bool) : Lane :=
  let e := l.axHw a
  let differ := both && (own.zip oth).any (fun x => decide (x.1 + 1 < x.2 ∨ x.2 + 1 < x.1))
  let l1 := l.setAxHw { e with
    duties := own, gates := prime && e.set.on && !(l.axisI a).off && !e.excess && l.drives, k := e.k + 1,
    angle := if l.motor a = 0 then pwmAngle e.setOld.angle e.set.angle e.k (l.pwmDiv a) else e.set.angle,
    dead := l.wu (axAddr a 0) 14 4 }
  if differ then (l1.cnt (F.AXIS_DUTY_DIFF.COUNT a) 1).ev 0x680 9 else l1

/-- A current sample above I_TRIP turns the gates off (R295). -/
def Lane.overcurrent (l : Lane) (a sample : Nat) : Lane :=
  if l.get (F.AXIS_HW_CFG.I_TRIP a) < sample then l.setAxHw { l.axHw a with excess := true, gates := false } else l

/-- No bitstream edge for a whole PWM period while gates are driven (R291). -/
def Lane.mclkFault (l : Lane) (a : Nat) (prime : Bool) : Lane :=
  if prime && (l.axHw a).gates then l.setAxHw { l.axHw a with mclk := true, gates := false } else l

end Sys2Proof.Machine
end

