-- ==== Sys2Proof/Machine/Pbus.lean ====
section
/-! DEFINITION. Priority buses (chapter 13): message objects, release, supersession, cancellation, arbitration, retry,
receptions, error counters and bus-off, handover. -/

namespace Sys2Proof.Machine

/-- Page of bus `n`. -/
def busPage (n : Nat) : Nat := 0x700 + n
/-- Word `w` of object `k` of bus `n` (R307). -/
def objAddr (n k w : Nat) : Nat := 0x04800000 + 0x100000 * n + 32 * k + 4 * w

/-! ### Objects (R307, R308) -/

/-- Object `k` of bus `n` is configured by the running image. -/
def Lane.objOn (l : Lane) (n k : Nat) : Bool :=
  match l.image with
  | none => false
  | some im => im.busObjs.any (fun x => x.1 == n && x.2.1 == k)

/-- Object `k` is a send object. -/
def Lane.isSend (l : Lane) (n k : Nat) : Bool := l.objOn n k && decide (l.wu (objAddr n k 0) 31 31 = 1)

/-- The identifier word of an object, as in a reception record: bit 31 FD, bit 30 XTD, bits 28:0 identifier. -/
def Lane.objIdw (l : Lane) (n k : Nat) : Nat :=
  let w := l.win (objAddr n k 0)
  bits w 29 29 * 2 ^ 31 + bits w 30 30 * 2 ^ 30 + bits w 28 0

/-- The receive object that a frame is stored in: the lowest that agrees in every MASK bit and in XTD (R308). -/
def Lane.rxObj (l : Lane) (n idw : Nat) : Option Nat :=
  (List.range 128).find? (fun k => l.objOn n k && decide (l.wu (objAddr n k 0) 31 31 = 0) &&
    decide (l.wu (objAddr n k 0) 30 30 = idw / 2 ^ 30 % 2) &&
    decide ((BitVec.ofNat 29 (l.wu (objAddr n k 0) 28 0) ^^^ BitVec.ofNat 29 idw) &&& BitVec.ofNat 29 (l.wu (objAddr n k 1) 28 0) = 0#29))

/-- Per-lane state of an object. -/
def Lane.pobj (l : Lane) (n k : Nat) : PObj :=
  (l.pbus.objs.find? (fun e => e.bus == n && e.obj == k)).getD ⟨n, k, false, 0, 0, 0⟩

/-- Store the per-lane state of an object. -/
def Lane.setPobj (l : Lane) (e : PObj) : Lane :=
  { l with pbus := { l.pbus with objs := upsert (fun x => x.bus * 128 + x.obj) e l.pbus.objs } }

/-- The pending frame of an object. -/
def Lane.pend (l : Lane) (n k : Nat) : Option PFrame := l.pbus.queue.find? (fun f => f.bus == n && f.obj == k)

/-- Replace, or enter, the pending frame of an object; none removes it. -/
def Lane.setPend (l : Lane) (n k : Nat) (f : Option PFrame) : Lane :=
  let rest := l.pbus.queue.filter (fun x => !(x.bus == n && x.obj == k))
  { l with pbus := { l.pbus with queue := match f with | some x => rest ++ [x] | none => rest } }

/-- Words 4 and 5 of an object as read (R307). -/
def Lane.objWord (l : Lane) (n k w : Nat) : Word :=
  let e := l.pobj n k
  if w = 5 then word (e.cancelled % 2 ^ 16 * 2 ^ 16 + e.received % 2 ^ 16)
  else match l.pend n k with
    | some f => word (2 ^ 31 + b2n f.held * 2 ^ 30 + b2n e.spent * 2 ^ 29 + min f.tries 255 * 2 ^ 16 + e.sent % 2 ^ 16)
    | none => word (b2n e.spent * 2 ^ 29 + e.sent % 2 ^ 16)

/-! ### Controllers (R312, R316) -/

/-- The controller of bus `n`. -/
def Lane.pctl (l : Lane) (n : Nat) : PCtl := (l.pbus.ctls.find? (fun e => e.bus == n)).getD ⟨n, 0, 0, 0, false⟩

/-- Counted retry is in force (R312). -/
def Lane.counted (l : Lane) (n : Nat) : Bool :=
  decide (l.stage < 3) || decide (l.get (F.PBUS_CTRL.MODE n) = 1) || (l.pctl n).counted

/-- Store a controller and show it: counters, WARN with its event, state. -/
def Lane.setPctl (l : Lane) (e : PCtl) : Lane :=
  let l1 := { l with pbus := { l.pbus with ctls := upsert PCtl.bus e l.pbus.ctls } }
  let ewl := l.get (F.PBUS_CTRL.EWL e.bus)
  let warn := decide (ewl ≤ e.tec ∨ ewl ≤ e.rxe)
  let l2 := ((((l1.set (F.PBUS_STAT.TEC e.bus) (min e.tec 255)).set (F.PBUS_STAT.REC e.bus) (min e.rxe 255)).set
    (F.PBUS_STAT.STATE e.bus) e.st).setB (F.PBUS_STAT.WARN e.bus) warn).setB (F.PBUS_STAT.COUNTED e.bus) (l1.counted e.bus)
  if warn && !l.flag (F.PBUS_STAT.WARN e.bus) then l2.ev (busPage e.bus) 0 else l2

/-- The error state that counters give: 1 from 128 on. -/
def errState (tec rxe : Nat) : Nat := if 128 ≤ tec ∨ 128 ≤ rxe then 1 else 0

/-! ### Queue (R309–R311) -/

/-- A frame is cancelled or superseded: counted (R310, R311). -/
def Lane.countCancel (l : Lane) (n k : Nat) : Lane :=
  (l.setPobj { l.pobj n k with cancelled := (l.pobj n k).cancelled + 1 }).cnt (F.PBUS_COUNT_TX.CANCELLED n) 1

/-- Queue a released frame; it supersedes one still pending (R310). -/
def Lane.enqueue (l : Lane) (f : PFrame) : Lane :=
  let l0 := l.setPobj { l.pobj f.bus f.obj with spent := false }
  match l.pend f.bus f.obj with
  | none => l0.setPend f.bus f.obj (some f)
  | some p =>
    (l0.setPend f.bus f.obj (some (if p.active then { p with next := some f.data } else { p with data := f.data }))).countCancel f.bus f.obj

/-- The data of a send object in the cycle image, and its REQ (R308). -/
def Lane.sendData (l : Lane) (n k : Nat) : List Nat × Nat :=
  let o := l.wu (objAddr n k 2) 23 0
  (listAt l.car.img (o + 4) (min (l.wu (objAddr n k 3) 7 0) 64), l.img o 2)

/-- The frame of a release. -/
def Lane.relFrame (l : Lane) (n k : Nat) : PFrame :=
  ⟨n, k, l.objIdw n k, decide (l.wu (objAddr n k 3) 31 31 = 1), (l.sendData n k).1, false, none, 0, false, false⟩

/-- Note the release of an object. -/
def Lane.noteRel (l : Lane) (n k : Nat) : Lane :=
  { l with car := { l.car with rels := upsert Prod.fst (128 * n + k, l.sendData n k) l.car.rels } }

/-- The last release of an object: data and REQ. -/
def Lane.lastRel (l : Lane) (n k : Nat) : Option (List Nat × Nat) := (l.car.rels.find? (fun x => x.1 == 128 * n + k)).map Prod.snd

/-- The TRIG condition of a send object holds; `sel` says whether its producing node was selected (R307, R309). -/
def Lane.trigHolds (l : Lane) (n k : Nat) (sel : Bool) : Bool :=
  let d := l.sendData n k
  match l.wu (objAddr n k 3) 29 28 with
  | 0 => sel
  | 1 => match l.lastRel n k with | some r => decide (r.1 ≠ d.1) | none => true
  | 2 => match l.lastRel n k with | some r => decide (r.2 ≠ d.2) | none => true
  | _ => false

/-- At compute completion each send object whose TRIG holds is released: its data are captured (R309). -/
def Lane.busRelease (l : Lane) (sel : Nat → Bool) : Lane :=
  match l.image with
  | none => l
  | some im =>
    im.busObjs.foldl (fun m x =>
      if m.isSend x.1 x.2.1 && m.trigHolds x.1 x.2.1 (sel x.2.2) then
        let m1 := m.noteRel x.1 x.2.1
        { m1 with pbus := { m1.pbus with captured := m1.pbus.captured ++ [m.relFrame x.1 x.2.1] } }
      else m) l

/-- At the boundary the captured frames are queued (R309). -/
def Lane.busQueue (l : Lane) : Lane :=
  l.pbus.captured.foldl Lane.enqueue { l with pbus := { l.pbus with captured := [] } }

/-- The keep-alive objects sent in S1 (R73). -/
def Lane.busKeepalive (l : Lane) : Lane :=
  match l.image with
  | none => l
  | some im => im.busObjs.foldl (fun m x =>
      if m.isSend x.1 x.2.1 && decide (m.wu (objAddr x.1 x.2.1 3) 30 30 = 1) then m.enqueue (m.relFrame x.1 x.2.1) else m) l

/-- A command to an object at its effect cycle: 1 CANCEL, 2 SEND (R311). -/
def Lane.busObjCmd (l : Lane) (n k cmd source : Nat) : Lane :=
  if cmd ≠ 1 ∧ cmd ≠ 2 then l
  else if l.isSend n k = false then l.err (busPage n) 0x40 source (Reg.PBUS_OBJ_CMD n)
  else if cmd = 2 then (l.noteRel n k).enqueue (l.relFrame n k)
  else match l.pend n k with
    | some f => if f.active then l else ((l.setPend n k none).countCancel n k).ev (busPage n) 5
    | none => l

/-! ### Arbitration (R309, R317) -/

/-- Order on the wire: base before extended with the same top 11 bits. -/
def wireKey (idw : Nat) : Nat :=
  let id := idw % 2 ^ 29
  if idw / 2 ^ 30 % 2 = 0 then id % 2 ^ 11 * 2 ^ 19 else id / 2 ^ 18 * 2 ^ 19 + 2 ^ 18 + id % 2 ^ 18

/-- The pending frame with the lowest identifier on bus `n`. -/
def Lane.lowest (l : Lane) (n : Nat) : Option PFrame :=
  (l.pbus.queue.filter (fun f => f.bus == n)).foldl
    (fun b f => match b with | none => some f | some x => if wireKey f.idw < wireKey x.idw then some f else some x) none

/-- The frame offered: BO_HELD, then one cut off at a handover, then the lowest (R111, R317). -/
def Lane.offered (l : Lane) (n : Nat) : Option PFrame :=
  match l.pbus.queue.find? (fun f => f.bus == n && f.held && decide (f.tries < l.get (F.PBUS_CTRL.RETRY_LIMIT n))) with
  | some f => some f
  | none => match l.pbus.queue.find? (fun f => f.bus == n && f.first) with
    | some f => some f
    | none => l.lowest n

/-- This lane starts or stops transmitting on bus `n`; the error counters of a lane that does not stay at 0 (R306). -/
def Lane.busRole (l : Lane) (n : Nat) (b : Bool) : Lane :=
  if l.flag (F.PBUS_STAT.TRANSMITTER n) = b then l
  else
    let l1 := (l.setB (F.PBUS_STAT.TRANSMITTER n) b).ev (busPage n) 8
    if b then l1 else l1.setPctl ⟨n, 0, 0, 0, false⟩

/-- A controller whose state was `old` has another: a status entry in the mirror set (R314). -/
def Lane.busTell (l : Lane) (old n : Nat) : Lane :=
  let c := l.pctl n
  if c.st ≠ old ∧ l.running = true then l.enter (.busStat n c.st (min c.tec 255) (min c.rxe 255)) none 0 else l

/-- The lane may transmit on bus `n` now. -/
def Lane.mayTx (l : Lane) (n : Nat) : Bool :=
  decide (l.get (F.PBUS_CTRL.MODE n) < 2) && decide ((l.pctl n).st < 2) && (l.drives || decide (l.st = .keeper))

/-- Mark the frame of object `k` begun; the other lane of the pair marks its copy, as the frame that it tracks (R111). -/
def Lane.begin (l : Lane) (n k : Nat) : Lane :=
  match l.pend n k with
  | some f => l.setPend n k (some { f with active := true })
  | none => l

/-! ### Attempts that end (R310, R312, R316, R317) -/

/-- The attempt in progress on bus `n`. -/
def Lane.attempt (l : Lane) (n : Nat) : Option PFrame := l.pbus.queue.find? (fun f => f.bus == n && f.active)

/-- The attempt on bus `n` ends in an error, or in a lost arbitration: the frame stays, with superseding data, or is
dropped at its retry limit (R310, R312). -/
def Lane.attemptFails (l : Lane) (n : Nat) (lost counted : Bool) : Lane :=
  match l.attempt n with
  | none => l
  | some f =>
    let f1 := { f with active := false, data := f.next.getD f.data, next := none, tries := if !lost && counted then f.tries + 1 else f.tries }
    if counted && decide (l.get (F.PBUS_CTRL.RETRY_LIMIT n) ≤ f1.tries) && !lost then
      ((l.setPend n f.obj none).setPobj { l.pobj n f.obj with spent := true }).ev (busPage n) 4
    else l.setPend n f.obj (some f1)

/-- Bus-off is entered: counted, recorded, the lowest pending frame held, recovery started with AUTO_REC (R316, R317). -/
def Lane.busOff (l : Lane) (n : Nat) : Lane :=
  let st := if l.flag (F.PBUS_CTRL.AUTO_REC n) then 3 else 2
  let l1 := (l.setPctl { l.pctl n with st := st, counted := true }).cnt (F.PBUS_ERR.BUS_OFF n) 1
  let l2 := match l1.lowest n with
    | some f => l1.setPend n f.obj (some { f with held := true })
    | none => l1
  (l2.ev (busPage n) 2).logEv (busPage n) 2 n 1

/-- Raise the error counters of the transmitting lane: new state and its events (R316). -/
def Lane.busErr (l : Lane) (n dTec dRec : Nat) : Lane :=
  let c := l.pctl n
  let tec := c.tec + dTec
  let rxe := c.rxe + dRec
  if 256 ≤ tec then ({ l with pbus := { l.pbus with ctls := upsert PCtl.bus { c with tec := tec, rxe := rxe } l.pbus.ctls } }).busOff n
  else
    let st := errState tec rxe
    let l1 := l.setPctl { c with tec := tec, rxe := rxe, st := st }
    if st = 1 ∧ c.st = 0 then l1.ev (busPage n) 1 else l1

/-- A frame sent or received well lowers the counters (R316, ISO 11898-1). -/
def Lane.busOk (l : Lane) (n : Nat) (sent : Bool) : Lane :=
  let c := l.pctl n
  if 2 ≤ c.st then l
  else
    let tec := if sent then c.tec - 1 else c.tec
    let rxe := if sent then c.rxe else if 127 < c.rxe then 119 + Config.recDrop % 9 else c.rxe - 1
    l.setPctl { c with tec := tec, rxe := rxe, st := errState tec rxe, counted := c.counted && !sent }

/-- The end of recovery: error-active, counters 0 (R316). -/
def Lane.busRecovered (l : Lane) (n : Nat) : Lane :=
  if (l.pctl n).st = 3 then (l.setPctl { l.pctl n with tec := 0, rxe := 0, st := 0 }).ev (busPage n) 3 else l

/-- REC_REQ at its effect cycle starts recovery when AUTO_REC is 0 (R314, R316). -/
def Lane.busRecReq (l : Lane) (n : Nat) : Lane :=
  if (l.pctl n).st = 2 ∧ l.flag (F.PBUS_CTRL.AUTO_REC n) = false then (l.setPctl { l.pctl n with st := 3 }).busTell 2 n else l

/-! ### Frames accepted (R308, R309, R313) -/

/-- The frame is the module's own: equal to the attempt's in identifier and data. -/
def Lane.isOwn (l : Lane) (n : Nat) (f : BusFrame) : Bool :=
  match l.attempt n with
  | some p => decide (p.idw = f.idw ∧ p.data = f.data) && !f.remote
  | none => false

/-- An accepted frame that the module sent leaves the queue; superseding data queue as a new frame (R309, R310). -/
def Lane.frameSent (l : Lane) (n : Nat) (f : BusFrame) (tx : Bool) : Lane :=
  match l.pbus.queue.find? (fun p => p.bus == n && decide (p.idw = f.idw ∧ p.data = f.data)) with
  | none => l
  | some p =>
    let l1 := l.setPend n p.obj (p.next.map (fun d => { p with data := d, active := false, next := none, tries := 0, held := false, first := false }))
    if tx then (l1.setPobj { l1.pobj n p.obj with sent := (l1.pobj n p.obj).sent + 1 }).cnt (F.PBUS_COUNT_TX.SENT n) 1 else l1

/-- What a lane does with an accepted frame, beside its queue: counts, match, and the reception to be entered (R308,
R313). -/
def Lane.frameSeen (l : Lane) (n : Nat) (f : BusFrame) (own : Bool) (t subns : Nat) : Lane × Option Payload :=
  let l1 := l.cnt (F.PBUS_COUNT_RX.RECEIVED n) 1
  let flags := b2n f.brs + 2 * b2n f.esi + 4 * b2n own
  if f.remote then (l1.cnt (F.PBUS_COUNT_RX.NO_MATCH n) 1, none)
  else match l1.rxObj n f.idw with
    | some k => (l1, some (.busRx n k flags f.idw f.data t subns))
    | none => ((l1.cnt (F.PBUS_COUNT_RX.NO_MATCH n) 1).ev (busPage n) 6, none)

/-- Two frame-start stamps name the same frame (R104). -/
def sameFrame (a b : Nat) : Bool := decide (a ≤ b + 2000 ∧ b ≤ a + 2000)

/-- A reception reaches its effect cycle: the reception record is written (R308, R315). -/
def Lane.storeRx (l : Lane) (n k flags idw : Nat) (data : List Nat) (t subns : Nat) : Lane :=
  let o := l.wu (objAddr n k 2) 23 0
  let sq := l.img (o + 6) 2 + 1
  let bytes := leBytes 4 idw ++ [data.length % 256, flags] ++ leBytes 2 sq ++ leBytes 4 t ++ [subns % 256, 0, 0, 0] ++ padTo 64 data
  let l1 := { l with car := { l.car with img := putList l.car.img o bytes } }
  let l2 := l1.setPobj { l1.pobj n k with received := (l1.pobj n k).received + 1 }
  let l3 := { l2 with pair := { l2.pair with lastRx := upsert Prod.fst (n, max t (((l2.pair.lastRx.find? (fun x => x.1 == n)).map Prod.snd).getD 0)) l2.pair.lastRx }, pbus := { l2.pbus with
    stored := l2.pbus.stored ++ [(n, k)]
    seen := l2.pbus.seen.filter (fun x => match x.2 with
      | .busRx m _ _ _ _ u _ => !(m == n && sameFrame u t)
      | _ => true) } }
  if l.pbus.stored.contains (n, k) then l3.ev (busPage n) 7 else l3

/-- A status entry reaches its effect cycle: the bus's status word in the image (R314). -/
def Lane.storeStat (l : Lane) (n st tec rxe : Nat) : Lane :=
  match l.image.bind (fun im => (im.busStats.find? (fun x => x.1 == n)).map Prod.snd) with
  | some o => l.putImg o 4 (st % 256 + tec % 256 * 2 ^ 8 + rxe % 256 * 2 ^ 16)
  | none => l

/-- Receptions that this lane alone saw are counted once their entry would have taken effect (R313). -/
def Lane.busAlone (l : Lane) (n : Nat) : Lane :=
  let old := l.pbus.seen.filter (fun x => decide (x.1 + 2 ≤ n))
  ({ l with pbus := { l.pbus with seen := l.pbus.seen.filter (fun x => decide (n < x.1 + 2)), stored := [] } }).cnt F.PAIR_DIFF.PBUS old.length

/-! ### Handover (R111, R316) -/

/-- A lane takes primacy: counters 0, error-active; at an unplanned loss the frame cut off is its first (R111). -/
def Lane.busTake (l : Lane) (planned : Bool) : Lane :=
  (List.range 12).foldl (fun m n =>
    let m1 := m.setPctl ⟨n, 0, 0, 0, false⟩
    if planned then m1
    else
      let m2 := match m1.attempt n with
        | some f => m1.setPend n f.obj (some { f with active := false, first := true, data := f.next.getD f.data, next := none })
        | none => m1
      m2.busRole n (m.drives || decide (m.st = .keeper))) l

/-- A lane loses primacy unplanned: it stops transmitting at once, its frame in progress cut off. -/
def Lane.busDrop (l : Lane) : Lane := (List.range 12).foldl (fun m n => (m.attemptFails n true false).busRole n false) l

/-- A lane that tracks the other's attempt on bus `n` follows it to its end in an error (R111, R312). -/
def Lane.trackFails (l : Lane) (n : Nat) (counted : Bool) : Lane :=
  match l.attempt n with
  | none => l
  | some f => if counted && decide (l.get (F.PBUS_CTRL.RETRY_LIMIT n) ≤ f.tries + 1) then l.setPend n f.obj none
    else l.attemptFails n false counted

end Sys2Proof.Machine
end

