-- ==== Sys2Proof/Machine/Safe.lean ====
section
/-! DEFINITION. The pip (chapter 14): interlock matrix in two channels, filters, pairs, loading and activation, base
bridges, switch tests, and the Skoine safety layer. Times are ticks of 2.5 ns; REF is 16 ticks. -/

namespace Sys2Proof

open Machine

/-! ### Tables (R324, R326, R343) -/

/-- Word of a matrix at a byte offset. -/
def MatrixImg.w (m : MatrixImg) (o : Nat) : Word := Sparse.find word0 m.words o
/-- DI entry. -/
def MatrixImg.di (m : MatrixImg) (i : Nat) : Word := m.w (0x40 + 4 * i)
/-- Word `k` of connection entry `c` (outputs are 64 to 95). -/
def MatrixImg.conn (m : MatrixImg) (c k : Nat) : Word := m.w (0x240 + 16 * c + 4 * k)
/-- Literal slot `s` of term `t`. -/
def MatrixImg.slot (m : MatrixImg) (t s : Nat) : Nat :=
  let w := m.w (0x840 + 16 * t + 4 * (s / 2))
  if s % 2 = 0 then bits w 15 0 else bits w 31 16
/-- Word `k` of output entry `n`. -/
def MatrixImg.out (m : MatrixImg) (n k : Nat) : Word := m.w (0x2840 + 16 * n + 4 * k)
/-- Term reference `j` of output `n`. -/
def MatrixImg.termRef (m : MatrixImg) (n j : Nat) : Nat :=
  let w := m.out n (j / 2)
  if j % 2 = 0 then bits w 15 0 else bits w 31 16
/-- Outputs with an entry: those whose entry is not all zero. -/
def MatrixImg.outputs (m : MatrixImg) : List Nat :=
  (List.range 400).filter (fun n => decide (m.out n 0 ≠ 0#32 ∨ m.out n 1 ≠ 0#32 ∨ m.out n 2 ≠ 0#32 ∨ m.out n 3 ≠ 0#32))
/-- The literals of an output's used terms, with their INV bits. -/
def MatrixImg.terms (m : MatrixImg) (n : Nat) : List (List (Nat × Bool)) :=
  ((List.range 4).filter (fun j => decide (2 ^ 15 ≤ m.termRef n j))).map (fun j =>
    let t := m.termRef n j % 512
    ((List.range 8).filter (fun s => decide (2 ^ 15 ≤ m.slot t s))).map (fun s => (m.slot t s % 2 ^ 11, decide (m.slot t s / 2 ^ 14 % 2 = 1))))
/-- LATCH of output `n`. -/
def MatrixImg.latch (m : MatrixImg) (n : Nat) : Bool := decide (bits (m.out n 2) 31 31 = 1)
/-- RESET literal. -/
def MatrixImg.resetLit (m : MatrixImg) (n : Nat) : Nat := bits (m.out n 2) 26 16
/-- OFF_DELAY in ticks. -/
def MatrixImg.offDelay (m : MatrixImg) (n : Nat) : Nat := bits (m.out n 2) 15 0 * 400000
/-- EDM. -/
def MatrixImg.edm (m : MatrixImg) (n : Nat) : Bool := decide (bits (m.out n 3) 31 31 = 1)
/-- FB_TIME in ticks. -/
def MatrixImg.fbTime (m : MatrixImg) (n : Nat) : Nat := bits (m.out n 3) 15 0 * 400000

/-- Filter time of a code, in ticks (R326). -/
def filtTicks (c : Nat) : Nat :=
  match c with
  | 0 => 12 | 1 => 800 | 2 => 4000 | 3 => 40000 | 4 => 400000 | 5 => 800000 | 6 => 2000000 | 7 => 4000000 | 8 => 8000000 | _ => 12

/-- The seal of the X table: CRC-32C over bytes 0x0040 to 0x413F (R324). -/
def MatrixImg.sealX (m : MatrixImg) : Nat :=
  crc32c (((List.range 4160).map (fun k => leBytes 4 (m.w (0x40 + 4 * k)).toNat)).flatten)

/-- The outputs that an output's literals name. -/
def MatrixImg.deps (m : MatrixImg) (n : Nat) : List Nat :=
  (((m.terms n).flatten.map Prod.fst) ++ [m.resetLit n]).filterMap (fun x => if 0x300 ≤ x ∧ x < 0x490 then some (x - 0x300) else none)

/-- Outputs in an order in which each comes after those it names; Airex refuses loops (R324). -/
def evalOrder (m : MatrixImg) : Nat → List Nat → List Nat → List Nat
  | 0, todo, acc => acc ++ todo
  | k + 1, todo, acc =>
    let ready := todo.filter (fun n => (m.deps n).all (fun d => !todo.contains d))
    if ready = [] then acc ++ todo else evalOrder m k (todo.filter (fun n => !ready.contains n)) (acc ++ ready)

/-- The longest filter among the DI literals that reach an output, its RESET literal among them, in ticks (R320). -/
def MatrixImg.fMax (m : MatrixImg) : Nat → Nat → Nat
  | 0, _ => 0
  | k + 1, n => ((m.terms n).flatten.map Prod.fst ++ [m.resetLit n]).foldl (fun b x =>
      if x < 0x80 then max b (filtTicks (bits (m.di x) 3 0))
      else if x < 0xC0 then max b (max (filtTicks (bits (m.di (2 * (x - 0x80))) 3 0)) (filtTicks (bits (m.di (2 * (x - 0x80) + 1)) 3 0)))
      else if 0x300 ≤ x ∧ x < 0x490 then max b (m.fMax k (x - 0x300)) else b) 0

end Sys2Proof

namespace Sys2Proof.Machine

/-- Bits of a list of outputs. -/
def maskOf (p : Nat → Bool) (base n : Nat) : Nat := ((List.range n).map (fun j => if p (base + j) then 2 ^ j else 0)).sum

/-! ### Lines, pairs and connections as the matrix sees them -/

/-- Line `i`, low for ever if never seen. -/
def PipH.line (h : PipH) (i : Nat) : DiL := (h.lines.find? (fun e => e.i == i)).getD ⟨i, false, 0, false, false⟩

/-- Filter the lines of a channel at a tick: a level that held throughout [t, t + F) is accepted (R326), by channel Y at its
sample of each 1 µs (R318). -/
def PipH.filter (h : PipH) (isX : Bool) (now : Nat) : PipH :=
  { h with
      lines := h.lines.map (fun e =>
      if e.since + filtTicks (bits (h.bank.di e.i) 3 0) ≤ (if isX then now else now / 400 * 400) then (if isX then { e with fx := e.raw } else { e with fy := e.raw }) else e) }

/-- DI `i` permits in a channel. -/
def PipH.diPermit (h : PipH) (isX : Bool) (i : Nat) : Bool :=
  let e := h.line i
  (if isX then e.fx else e.fy) != decide (bits (h.bank.di i) 8 8 = 1)

/-- The two inputs of pair `k` permit, the odd one inverted in an antivalent pair (R327). -/
def PipH.pairIns (h : PipH) (isX : Bool) (k : Nat) : Bool × Bool :=
  (h.diPermit isX (2 * k), h.diPermit isX (2 * k + 1) != decide (bits (h.bank.di (2 * k)) 17 16 = 2))

/-- A channel. -/
def PipH.chan (h : PipH) (isX : Bool) : PChan := if isX then h.x else h.y
/-- Store a channel. -/
def PipH.setChan (h : PipH) (isX : Bool) (c : PChan) : PipH := if isX then { h with x := c } else { h with y := c }

/-- Pair `k` of a channel. -/
def PChan.pair (c : PChan) (k : Nat) : PPair := (c.pairs.find? (fun e => e.k == k)).getD ⟨k, false, none⟩
/-- Output `n` of a channel. -/
def PChan.out (c : PChan) (n : Nat) : POut := (c.outs.find? (fun e => e.n == n)).getD ⟨n, false, false, false, none, none, none⟩
/-- Input connection `k` of a channel: in SAFE from the start. -/
def PChan.conn (c : PChan) (k : Nat) : PConn := (c.conns.find? (fun e => e.c == k)).getD ⟨k, 0, 0, 0, 0, [], 0⟩

/-- The value of a literal in a channel (R323). -/
def PipH.literal (h : PipH) (isX : Bool) (c : PChan) (n : Nat) : Bool :=
  if n < 0x80 then h.diPermit isX n
  else if n < 0xC0 then
    let v := h.pairIns isX (n - 0x80)
    v.1 && v.2 && !(c.pair (n - 0x80)).fault
  else if n < 0x100 then false
  else if n < 0x300 then
    let e := c.conn ((n - 0x100) / 8)
    decide (e.st = 2) && e.data.testBit ((n - 0x100) % 8)
  else if n < 0x490 then (c.out (n - 0x300)).cmd
  else decide (n = 0x7FF)

/-- The feedback input of output `n` reads as released; 1 without EDM (R325). -/
def PipH.released (h : PipH) (isX : Bool) (n : Nat) : Bool :=
  if h.bank.edm n then
    let e := h.line (bits (h.bank.out n 3) 22 16)
    (if isX then e.fx else e.fy) == decide (bits (h.bank.out n 3) 30 30 = 1)
  else true

/-- One evaluation of an output at a tick (R325). -/
def evalOut (latch edm permit reset released : Bool) (offDelay now : Nat) (o : POut) : POut :=
  let o1 := if latch && !permit then { o with tripped := true } else o
  let o2 := if reset && permit && released then { o1 with tripped := false, edm := false } else o1
  let want := permit && !o2.tripped && !o2.edm
  if want then
    if !o2.cmd && edm && !released then { o2 with delay := none, edm := true } else { o2 with delay := none, cmd := true }
  else
    let d := match o2.delay with
      | none => if o2.cmd then some now else none
      | some t => some t
    let off := match d with | some t => o2.cmd && decide (t + offDelay ≤ now) | none => false
    { o2 with delay := if off then none else d, cmd := o2.cmd && !off }

/-- The RESET literal's pulse: the time since which it holds 1, and whether a valid pulse ends now (R325). -/
def resetPulse (lit : Bool) (rst : Option Nat) (now : Nat) : Option Nat × Bool :=
  if lit then (some (rst.getD now), false)
  else match rst with
    | some t => (none, decide (t + 40000000 ≤ now ∧ now < t + 2000000000))
    | none => (none, false)

/-- Evaluate output `n` in a channel. -/
def PipH.evalOne (h : PipH) (isX : Bool) (now : Nat) (c : PChan) (n : Nat) : PChan :=
  let o := c.out n
  let permit := (h.bank.terms n).any (fun t => decide (t ≠ []) && t.all (fun x => h.literal isX c x.1 != x.2))
  let lit := h.bank.resetLit n
  let p := if lit = 0x7FF then (none, false) else resetPulse (h.literal isX c lit) o.rst now
  let rel := h.released isX n
  let o1 := evalOut (h.bank.latch n) (h.bank.edm n) permit p.2 rel (h.bank.offDelay n) now { o with rst := p.1 }
  let fb := if !h.bank.edm n then none
    else if o1.cmd != o.cmd then some (now, !o1.cmd)
    else match o.fb with
      | some (t, e) => if e = rel then none else some (t, e)
      | none => none
  { c with outs := upsert POut.n { o1 with fb := fb } c.outs }

/-- Pair monitoring: a fault clears when both inputs show demand; the time of a single permit runs (R327). -/
def PipH.evalPairs (h : PipH) (isX : Bool) (now : Nat) (c : PChan) : PChan :=
  ((List.range 64).filter (fun k => decide (bits (h.bank.di (2 * k)) 17 16 = 1 ∨ bits (h.bank.di (2 * k)) 17 16 = 2))).foldl (fun c k =>
    let v := h.pairIns isX k
    let e := c.pair k
    let e1 := if !v.1 && !v.2 then { e with fault := false } else e
    { c with pairs := upsert PPair.k { e1 with single := if v.1 != v.2 then some (e1.single.getD now) else none } c.pairs }) c

/-- Commands after the readback faults of TO lines (R335). -/
def PipH.cmd (h : PipH) (isX : Bool) (n : Nat) : Bool := ((h.chan isX).out n).cmd && !h.toBad.contains n

/-- This lane's commands both close or permit output `n`. -/
def PipH.both (h : PipH) (n : Nat) : Bool := h.cmd true n && h.cmd false n

/-- A lane's commands stand at a tick: for 5 µs after a pip fault and 20 µs after the fall of supply valid they are unchanged,
then they are demand (R320, R332). -/
def PipH.stands (h : PipH) (now : Nat) : Bool :=
  (match h.faultAt with | some t => decide (now < t + 2000) | none => true) &&
    (match h.downAt with | some t => decide (now < t + 8000) | none => true)

/-- What a lane drives to the base at a tick for output `n` by channel X (0) or Y (1). -/
def PipH.drive (h : PipH) (n sw now : Nat) : Bool :=
  h.cmd (sw == 0) n && !(match h.testing with | some (m, _, os) => decide (m % 2 = sw) && os.contains n | none => false) && h.stands now

/-- The commands of outputs `base` to `base + n - 1` that X and Y both give at a tick. -/
def PipH.given (h : PipH) (base n now : Nat) : Nat :=
  if h.stands now then maskOf h.both base n else 0

/-! ### Events and registers -/

/-- First page of the SAFE block. -/
def safePage : Nat := 0x780

/-- Latch a first fault (SAFE_FAULT). -/
def Lane.safeFault (l : Lane) (cause index : Nat) : Lane :=
  if l.flag F.SAFE_FAULT.VALID then l
  else ((l.setB F.SAFE_FAULT.VALID true).set F.SAFE_FAULT.CAUSE cause).set F.SAFE_FAULT.INDEX index

/-- Show the pip in its registers. -/
def Lane.safeShow (l : Lane) : Lane :=
  let h := l.pip
  let trip (n : Nat) : Bool := (h.x.out n).tripped || (h.y.out n).tripped
  let l1 := (l.set F.SAFE_STAT.TRIPPED (min 255 (h.bank.outputs.filter (fun n => h.bank.latch n && trip n)).length)).set F.SAFE_STAT.SKS_SAFE
    ((List.range 64).filter (fun c => decide (bits (h.bank.conn c 3) 31 31 = 1) && decide ((h.x.conn c).st = 0))).length
  let l2 := (List.range 4).foldl (fun m k => m.set (F.SAFE_DI.PERMIT k) (maskOf (h.diPermit true) (32 * k) 32)) l1
  let l3 := l2.set64 Reg.SAFE_PAIR_LO Reg.SAFE_PAIR_HI (maskOf (fun k => (h.x.pair k).fault || (h.y.pair k).fault) 0 64)
  let l4 := (h.bank.outputs.filter (fun n => decide (n < 64))).foldl (fun m n =>
    ((m.setB (F.SAFE_SO.TRIPPED n) (trip n)).setB (F.SAFE_SO.EDM_FAULT n) ((h.x.out n).edm || (h.y.out n).edm)).setB (F.SAFE_SO.DELAY n)
      ((h.x.out n).delay.isSome || (h.y.out n).delay.isSome)) l3
  let l5 := h.x.conns.foldl (fun m e =>
    (((m.set (F.SAFE_SKS_IN.STATE e.c) e.st).set (F.SAFE_SKS_IN.CAUSE e.c) e.cause).set (F.SAFE_SKS_IN.DATA e.c) (if e.st = 2 then e.data else 0)).set
      (F.SAFE_SKS_IN.SEQ e.c) e.seq) l4
  h.outs.foldl (fun m e => (m.set (F.SAFE_SKS_OUT.SEQ e.c) e.seq)) l5

/-- The data byte of output connection `c`: the outputs that X and Y both permit (R324, R345). -/
def PipH.outByte (h : PipH) (c : Nat) : Nat := maskOf (fun j => h.both (80 + 8 * c + j)) 0 8

/-- Note the changes of the output connections' bytes. -/
def PipH.noteBytes (h : PipH) (now : Nat) : PipH :=
  { h with
      outs := h.outs.map (fun e =>
      let b := h.outByte e.c
      if (e.hist.headD (0, 0)).2 = b then e else { e with hist := ((now, b) :: e.hist).take 16 }) }

/-- Evaluate a channel at a tick, with what follows: latches shared, TRIP and EDM events, mismatches noted (R318–R327). -/
def Lane.pipEval (l : Lane) (isX : Bool) (now : Nat) : Lane :=
  if l.flag F.SAFE_STAT.PIP_RUN = false then l else
  let h0 := l.pip.filter isX now
  let c1 := h0.evalPairs isX now (h0.chan isX)
  let c2 := (evalOrder h0.bank 400 h0.bank.outputs []).foldl (h0.evalOne isX now) c1
  let h1 := h0.setChan isX c2
  -- a latched trip set by either channel is set in the other at once (R320)
  let oth := h1.chan (!isX)
  let oth' := h0.bank.outputs.foldl (fun c n =>
    if h0.bank.latch n && (c2.out n).tripped && !((h0.chan isX).out n).tripped then
      { c with outs := upsert POut.n { c.out n with tripped := true } c.outs } else c) oth
  let h2 := h1.setChan (!isX) oth'
  let mis := h0.bank.outputs.filterMap (fun n =>
    if h2.cmd true n != h2.cmd false n then some (n, ((h2.mis.find? (fun x => x.1 == n)).map Prod.snd).getD now) else none)
  let fell := h0.bank.outputs.filter (fun n => l.pip.both n && !h2.both n)
  let edm := h0.bank.outputs.filter (fun n => (c2.out n).edm && !((h0.x.out n).edm || (h0.y.out n).edm))
  let l1 := { l with pip := { h2 with mis := mis }.noteBytes now }
  let l2 := if fell = [] then l1 else (l1.cnt F.SAFE_TRIP_COUNT.COUNT fell.length).ev safePage 0
  let l3 := edm.foldl (fun m n => ((m.safeFault 7 n).ev safePage 4).logEv safePage 4 n 1) l2
  l3.safeShow

/-- A DI level changes (R326). -/
def Lane.diEdge (l : Lane) (i : Nat) (level : Bool) (now : Nat) : Lane :=
  let h := (l.pip.filter true now).filter false now
  let e := h.line i
  let l1 := { l with pip := { h with lines := upsert DiL.i (if e.raw = level then e else { e with raw := level, since := now }) h.lines } }
  l1.pipEval true now

/-- A filter of channel X has a level to accept at this tick. -/
def PipH.due (h : PipH) (now : Nat) : Bool :=
  h.lines.any (fun e => decide (e.raw ≠ e.fx) && decide (e.since + filtTicks (bits (h.bank.di e.i) 3 0) ≤ now))

/-- PIP_RUN is asserted: the start of both channels (R319): latched outputs start tripped, connections in SAFE. -/
def Lane.pipStart (l : Lane) (now : Nat) : Lane :=
  let h := l.pip
  let outs := h.bank.outputs.map (fun n => (⟨n, h.bank.latch n, false, false, none, none, none⟩ : POut))
  let ch : PChan := ⟨outs, [], []⟩
  let so := ((List.range 32).filter (fun c => decide (bits (h.bank.conn (64 + c) 3) 31 31 = 1))).map (fun c => (⟨c, 0, true, []⟩ : SksOut))
  let l1 := { l with pip := { h with x := ch, y := ch, outs := so, yAt := now } }
  let l2 := (((l1.setB F.SAFE_STAT.PIP_RUN true).setB F.SAFE_STAT.X_OK true).setB F.SAFE_STAT.Y_OK true).setB F.SAFE_STAT.TABLES_OK true
  let l3 := ((l2.wr Reg.SAFE_MATRIX_ID (h.bank.w 0)).wr Reg.SAFE_SEAL_X (h.bank.w 8)).wr Reg.SAFE_SEAL_Y (word h.bank.sealY)
  ((l3.set F.SAFE_TEST_CFG.INTERVAL h.bank.interval).pipEval true now).pipEval false now

/-! ### Faults (R320, R325, R327, R335) -/

/-- The command mismatch whose DISC_TIME = 50 µs + 2 × F_max ends first: its output, and the tick from which it is a pip
fault (R320). -/
def PipH.mismatch (h : PipH) : Option (Nat × Nat) :=
  h.mis.foldl (fun (b : Option (Nat × Nat)) x =>
    let t := x.2 + 20001 + 2 * h.bank.fMax 64 x.1
    match b with
    | some y => if t < y.2 then some (x.1, t) else b
    | none => some (x.1, t)) none

/-- A pip fault: PIP_RUN drops, the commands stand for 5 µs, then demand (R320). -/
def Lane.pipFail (l : Lane) (cause index now : Nat) : Lane :=
  let l1 := ((l.safeFault cause index).setB F.SAFE_STAT.PIP_RUN false).ev safePage 1
  ({ l1 with pip := { l1.pip with faultAt := some now }, start := { l1.start with pipRun := false } }).logEv safePage 1 index 1

/-- Exactly one input of a pair has permitted for DISC: a discrepancy fault (R327). -/
def Lane.pairFail (l : Lane) (k now : Nat) : Lane :=
  let due (c : PChan) : Bool := match (c.pair k).single with
    | some t => decide (t + bits (l.pip.bank.di (2 * k)) 31 24 * 4000000 ≤ now) && !(c.pair k).fault
    | none => false
  let set (c : PChan) : PChan := if due c then { c with pairs := upsert PPair.k { c.pair k with fault := true } c.pairs } else c
  if due l.pip.x || due l.pip.y then
    let l1 := { l with pip := { l.pip with x := set l.pip.x, y := set l.pip.y } }
    ((((l1.safeFault 8 k).ev safePage 6).logEv safePage 6 k 1).pipEval true now).pipEval false now
  else l

/-- Contactor feedback misses its window (R325). -/
def Lane.edmFail (l : Lane) (n now : Nat) : Lane :=
  let due (c : PChan) : Bool := match (c.out n).fb with | some (t, _) => decide (t + l.pip.bank.fbTime n ≤ now) | none => false
  let set (c : PChan) : PChan := if due c then { c with outs := upsert POut.n { c.out n with edm := true, fb := none } c.outs } else c
  if due l.pip.x || due l.pip.y then
    let l1 := { l with pip := { l.pip with x := set l.pip.x, y := set l.pip.y } }
    ((((l1.safeFault 7 n).ev safePage 4).logEv safePage 4 n 1).pipEval true now).pipEval false now
  else l

/-- A TO line differs from its counting commands for 1 µs: the lane commands trip on it through both channels (R335). -/
def Lane.toFail (l : Lane) (n now : Nat) : Lane :=
  let l0 := { l with pip := { l.pip with toBad := n :: l.pip.toBad.filter (fun x => x != n) } }
  let l1 := if l.pip.both n then (l0.cnt F.SAFE_TRIP_COUNT.COUNT 1).ev safePage 0 else l0
  ((((l1.safeFault 9 n).logEv safePage 5 n 1)).pipEval true now).safeShow

/-! ### Pip time, switch tests (R321, R333, R334) -/

/-- Pip time: TIME64 at 40 ns resolution (R321). -/
def Lane.pipTime (l : Lane) : Nat := l.t64 / 40 * 40

/-- Switch test interval in ns. -/
def Lane.testNs (l : Lane) : Nat := l.get F.SAFE_TEST_CFG.INTERVAL * 1000000000

/-- Test instant `m` of a lane in pip time (R334). -/
def Lane.testAt (l : Lane) (m : Nat) : Nat := m * l.testNs + l.num * (l.testNs / 2)

/-- At test instant `m` the lane opens its X switch (m even) or Y switch (m odd) of every energised tested output. -/
def Lane.switchTest (l : Lane) (m now : Nat) (on : Nat → Bool) : Lane :=
  if l.pip.aligned && decide (l.testNs ≠ 0) && decide (l.testAt m ≤ l.pipTime ∧ l.pipTime < l.testAt m + 200000) &&
      l.pip.testing.isNone then
    let os := l.pip.bank.outputs.filter (fun n => decide (n < 64) && decide (bits (l.pip.bank.out n 3) 29 29 = 1) && on n)
    { l with pip := { l.pip with testing := some (m, now, os) } }
  else l

/-- The end of a test, 200 µs after its opening: per output, 0 good, 1 stuck closed, 2 stuck open (R333, R334). -/
def Lane.switchJudge (l : Lane) (res : List (Nat × Nat)) (now : Nat) : Lane :=
  match l.pip.testing with
  | none => l
  | some (m, t, os) =>
    if now < t + 80000 then l else
    let sw := m % 2
    let id := l.num * 2 + sw
    let l1 := { l with pip := { l.pip with testing := none } }
    os.foldl (fun k n =>
      let r := ((res.find? (fun x => x.1 == n)).map Prod.snd).getD 0
      let ok := k.get (F.SAFE_SO.SW_OK n)
      let ok' := if ok.testBit id then ok else ok + 2 ^ id
      if r = 0 then
        let k1 := { k with pip := { k.pip with bad := k.pip.bad.filter (fun x => x != (n, sw) && x != (n, sw + 2)) } }
        (((k1.set (F.SAFE_SO.SW_OK n) ok').set (F.SAFE_SO.TESTS n) (k.get (F.SAFE_SO.TESTS n) + 1)).setB (F.SAFE_SO.SW_FAULT n)
          (k1.pip.bad.any (fun x => x.1 == n)))
      else
        let k1 := { k with
          pip := { k.pip with bad := (n, sw + 2 * (r - 1)) :: k.pip.bad.filter (fun x => x != (n, sw) && x != (n, sw + 2)) } }
        ((((k1.set (F.SAFE_SO.SW_OK n) (ok' - 2 ^ id)).setB (F.SAFE_SO.SW_FAULT n) true).safeFault (if r = 1 then 5 else 6) (id * 2 ^ 14 + n)).ev
          safePage 5).logEv safePage 5 n 1) l1

/-! ### Loading and activation (R328, R329) -/

/-- LOAD at its effect cycle: the image goes into the inactive banks (R328). -/
def Lane.safeLoad (l : Lane) (source : Nat) : Lane :=
  match l.pip.store with
  | none => l.err safePage 0x40 source Reg.SAFE_LOAD_CTRL
  | some m =>
    if l.get F.SAFE_LOAD_STAT.OWN = 1 then l.err safePage 0x40 source Reg.SAFE_LOAD_CTRL
    else ({ l with pip := { l.pip with inact := m } }).set F.SAFE_LOAD_STAT.OWN 1

/-- Each channel has read back its bank and computed its seal (R328). -/
def Lane.loadDone (l : Lane) (okX okY : Bool) : Lane :=
  if l.get F.SAFE_LOAD_STAT.OWN = 1 then
    let m := l.pip.inact
    let l1 := ((l.wr Reg.SAFE_LOAD_ID (m.w 0)).wr Reg.SAFE_LOAD_SEAL_X (word m.sealX)).wr Reg.SAFE_LOAD_SEAL_Y (word m.sealY)
    let ok := okX && okY && decide (m.sealX = (m.w 8).toNat)
    let l2 := (l1.set F.SAFE_LOAD_STAT.OWN (if ok then 2 else 3)).ev safePage 7
    if ok then l2 else l2.err safePage 0x41 0x11 Reg.SAFE_LOAD_CTRL
  else l

/-- ACTIVATE at its effect cycle `e` (R328). -/
def Lane.safeActivate (l : Lane) (e source : Nat) : Lane :=
  if l.get F.SAFE_LOAD_STAT.OWN = 2 ∧ l.get F.SAFE_LOAD_STAT.OTHER = 2 ∧ (l.rd Reg.SAFE_LOAD_ID).toNat = l.pip.othId ∧
      l.rd Reg.SAFE_ACT_SX = l.rd Reg.SAFE_LOAD_SEAL_X ∧ l.rd Reg.SAFE_ACT_SY = l.rd Reg.SAFE_LOAD_SEAL_Y then
    { l with pip := { l.pip with actAt := some e } }
  else l.err safePage 0x42 source Reg.SAFE_LOAD_CTRL

/-- The output entries and term entries that an output reaches are bit-identical in both matrices (R329). -/
def sameReach (a b : MatrixImg) : Nat → Nat → Bool
  | 0, _ => false
  | k + 1, n =>
    (List.range 4).all (fun w => a.out n w == b.out n w) &&
    ((List.range 4).filter (fun j => decide (2 ^ 15 ≤ a.termRef n j))).all (fun j =>
      let t := a.termRef n j % 512
      (List.range 8).all (fun s => a.slot t s == b.slot t s)) &&
    (a.deps n).all (fun d => if 336 ≤ d then sameReach a b k d else true)

/-- Both channels switch banks (R329). -/
def Lane.switchBanks (l : Lane) (now : Nat) : Lane :=
  let h := l.pip
  let a := h.bank
  let b := h.inact
  let keepC (c : PChan) : PChan :=
    ⟨b.outputs.map (fun n =>
        let o := c.out n
        if b.latch n && !sameReach a b 65 n then { o with tripped := true, delay := none, fb := none } else { o with n := n }),
     c.pairs.filter (fun e => a.di (2 * e.k) == b.di (2 * e.k) && a.di (2 * e.k + 1) == b.di (2 * e.k + 1)),
     c.conns.map (fun e => if (List.range 4).all (fun w => a.conn e.c w == b.conn e.c w) then e
       else ⟨e.c, 0, e.seq, 0, 0, [], 4⟩)⟩
  let lines := h.lines.map (fun e =>
    if a.di e.i = b.di e.i then e
    else
      let dem := decide (bits (b.di e.i) 8 8 = 1)
      { e with since := now, fx := dem, fy := dem })
  let outs := ((List.range 32).filter (fun c => decide (bits (b.conn (64 + c) 3) 31 31 = 1))).map (fun c =>
    let o := (h.outs.find? (fun e => e.c == c)).getD ⟨c, 0, true, []⟩
    if (List.range 4).all (fun w => a.conn (64 + c) w == b.conn (64 + c) w) then o else { o with start := true })
  let l1 := { l with pip := { h with bank := b, inact := a, x := keepC h.x, y := keepC h.y, lines := lines, outs := outs } }
  let ended := (List.range 64).filter (fun c => !(List.range 4).all (fun w => a.conn c w == b.conn c w) &&
    decide ((h.x.conn c).st ≠ 0 ∨ (h.y.conn c).st ≠ 0))
  let l2 := ended.foldl (fun m c => (m.ev safePage 2).logEv safePage 2 c 1)
    (((l1.wr Reg.SAFE_MATRIX_ID (b.w 0)).wr Reg.SAFE_SEAL_X (b.w 8)).wr Reg.SAFE_SEAL_Y (word b.sealY))
  ((l2.set F.SAFE_TEST_CFG.INTERVAL b.interval).pipEval true now).pipEval false now

/-- Pip time reaches t_E of an accepted activation (R328, R329). -/
def Lane.activated (l : Lane) (now : Nat) : Lane :=
  match l.pip.actAt with
  | none => l
  | some e =>
    if l.pipTime < l.tOf e then l
    else
      let l1 := ({ l with pip := { l.pip with actAt := none } }).switchBanks now
      ((l1.set F.SAFE_LOAD_STAT.OWN 4).set64 Reg.SAFE_ACT_CYC_LO Reg.SAFE_ACT_CYC_HI e).ev safePage 8

/-- The pip state record loaded by a joining pip; a differing matrix comes with it and is activated at once (R348). -/
def Lane.pipLoad (l : Lane) (src : PipH) (now : Nat) : Lane :=
  let l0 := if l.pip.bank = src.bank then l else ({ l with pip := { l.pip with inact := src.bank } }).switchBanks now
  let load (c s : PChan) : PChan :=
    ⟨c.outs.map (fun o => { o with tripped := (s.out o.n).tripped, edm := (s.out o.n).edm, cmd := (s.out o.n).cmd, delay := (s.out o.n).delay }),
     s.pairs.filter PPair.fault ++ c.pairs.filter (fun e => !(s.pair e.k).fault), c.conns⟩
  let os := l0.pip.outs.map (fun e =>
    ({ e with seq := ((src.outs.find? (fun x => x.c == e.c)).map SksOut.seq).getD e.seq, start := false } : SksOut))
  Lane.safeShow { l0 with pip := { l0.pip with x := load l0.pip.x src.x, y := load l0.pip.y src.y, outs := os } }

/-! ### The Skoine safety layer (R337–R345) -/

/-- The first 16 bytes of a PDU and its check value (R337, R338). -/
def sksPdu (conn seq texp tsrc data ctrl : Nat) : List Nat :=
  let b := leBytes 4 conn ++ leBytes 2 seq ++ leBytes 2 texp ++ leBytes 4 tsrc ++ [data % 256, ctrl % 256, 0, 0]
  b ++ leBytes 4 (crc32c b)

/-- Connection `e` enters SAFE for a cause. -/
def PConn.toSafe (e : PConn) (cause : Nat) : PConn := { e with st := 0, data := 0, cause := cause }

/-- A connection checks a PDU received at `now`, pip time `trx` (R340, R341): the connection, and whether it rejected. -/
def PConn.check (e : PConn) (m : MatrixImg) (bs : List Nat) (trx now : Nat) : PConn × Bool :=
  let crcOk := decide (bs.length = 20) && decide (leVal (bs.drop 16) = crc32c (bs.take 16))
  let seq := leVal (slice bs 4 2)
  let texp := leVal (slice bs 6 2)
  let tsrc := extendTs (leVal (slice bs 8 4)) trx
  let ctrl := bs.getD 13 0
  let d := (seq + 65536 - e.seq % 65536) % 65536
  let recent := e.rejects.filter (fun t => decide (now ≤ t + 400000000))
  let e := { e with rejects := recent }
  let ok := crcOk && decide (leVal (bs.take 4) = (m.conn e.c 0).toNat) && decide (texp = bits (m.conn e.c 2) 31 16) &&
    decide (ctrl / 2 % 2 = 0) && decide (tsrc ≤ trx ∧ trx < tsrc + texp * 10000) &&
    (decide (e.st = 0) || decide (1 ≤ d ∧ d ≤ bits (m.conn e.c 1) 7 0))
  if ok then
    let e1 := { e with seq := seq, dead := now + (tsrc + texp * 10000 - trx) * 2 / 5 }
    if e.st = 0 then (if recent.length ≤ 16 then { e1 with st := 1 } else e, false)
    else if e.st = 1 then ({ e1 with st := 2, data := bs.getD 12 0 }, false)
    else if ctrl % 2 = 1 then ({ e1 with st := 1, data := 0 }, false)
    else ({ e1 with data := bs.getD 12 0 }, false)
  else
    let e1 := if crcOk && decide (ctrl / 2 % 2 = 1) && decide (e.st ≠ 0) then e.toSafe 2 else e
    if crcOk && decide (d = 0) then (e1, false)
    else
      let e2 := { e1 with rejects := now :: e1.rejects }
      (if 16 < e2.rejects.length ∧ e2.st ≠ 0 then e2.toSafe 3 else e2, true)

/-- Connection `c` has entered SAFE in a channel: the event, and one record unless the other channel's is in SAFE already (R341). -/
def Lane.sksSafe (l : Lane) (isX : Bool) (c : Nat) : Lane :=
  let l1 := l.ev safePage 2
  if ((l.pip.chan (!isX)).conn c).st = 0 then l1 else l1.logEv safePage 2 c 1

/-- A channel sees its connections anew: channel X at once, channel Y at its next pass (R318). -/
def Lane.sksSeen (l : Lane) (isX : Bool) (now : Nat) : Lane := if isX then l.pipEval true now else l.safeShow

/-- A channel takes the next PDU handed to it (R340–R342). -/
def Lane.sksTake (l : Lane) (ch : Nat) (now : Nat) : Lane :=
  match l.pip.rx.find? (fun x => x.1 == ch) with
  | none => l
  | some x =>
    let isX := decide (ch = 0)
    let c := l.pip.chan isX
    let e := c.conn x.2.1
    let r := e.check l.pip.bank x.2.2.2 x.2.2.1 now
    let l1 := { l with pip := ({ l.pip with rx := l.pip.rx.erase x }).setChan isX { c with conns := upsert PConn.c r.1 c.conns } }
    let l2 := if r.2 then
        let m := l1.ev safePage 3
        if isX then m.cnt (F.SAFE_SKS_IN_ERR.REJECTS x.2.1) 1 else m
      else l1
    let l3 := if r.1.st = 0 ∧ e.st ≠ 0 then l2.sksSafe isX x.2.1 else l2
    l3.sksSeen isX now

/-- The first connection of a channel whose deadline pip time has reached goes to SAFE (R341). -/
def Lane.sksExpire (l : Lane) (ch : Nat) (now : Nat) : Lane :=
  let isX := decide (ch = 0)
  let c := l.pip.chan isX
  match c.conns.find? (fun e => decide (e.st ≠ 0 ∧ e.dead ≤ now)) with
  | none => l
  | some e =>
    let l1 := { l with pip := l.pip.setChan isX { c with conns := upsert PConn.c (e.toSafe 1) c.conns } }
    let l2 := if isX then l1.cnt (F.SAFE_SKS_IN_ERR.EXPIRIES e.c) 1 else l1
    (l2.sksSafe isX e.c).sksSeen isX now

/-- The PDUs of a received copy are handed to both channels, of discarded copies too (R342). -/
def Lane.sksHand (l : Lane) (r : Nat) (bs : List Nat) : Lane :=
  match Skr.ofBytes bs with
  | none => l
  | some f =>
    let m := l.pip.bank
    let got := ((List.range 64).filter (fun c =>
      decide (bits (m.conn c 3) 31 31 = 1) && decide (bits (m.conn c 1) 31 27 = r) &&
      (f.passed (l.nsta r)).contains (bits (m.conn c 1) 26 21) && f.processed l (bits (m.conn c 1) 26 21))).map (fun c =>
        (c, l.pipTime, slice (l.record r (bits (m.conn c 1) 26 21) f.data) (8 + bits (m.conn c 1) 20 8) 20))
    { l with pip := { l.pip with rx := l.pip.rx ++ got.map (fun x => (0, x)) ++ got.map (fun x => (1, x)) } }

/-- At a frame launch both lanes build one PDU for each output connection (R345). -/
def Lane.sksBuild (l : Lane) (tN now : Nat) : Lane :=
  if l.flag F.SAFE_STAT.PIP_RUN = false then l else
  let m := l.pip.bank
  l.pip.outs.foldl (fun k e =>
    let byte := ((e.hist.find? (fun x => decide (x.1 + 800 ≤ now))).map Prod.snd).getD 0
    let cn := 64 + e.c
    let e1 := { e with seq := (e.seq + 1) % 65536, start := false }
    let pdu := sksPdu (m.conn cn 0).toNat e1.seq (bits (m.conn cn 2) 31 16) (tN % 2 ^ 32) byte (b2n e.start)
    let k1 := { k with
      pip := { k.pip with outs := upsert SksOut.c e1 k.pip.outs }
      ring := { k.ring with pdus := k.ring.pdus ++ [(bits (m.conn cn 1) 31 27, bits (m.conn cn 1) 26 21, bits (m.conn cn 1) 20 8, pdu)] } }
    (k1.set (F.SAFE_SKS_OUT.SEQ e.c) e1.seq).set (F.SAFE_SKS_OUT.DATA e.c) byte)
    { l with ring := { l.ring with pdus := [] } }

/-! ### The base (R331, R332, R336, R463) -/

/-- Supply valid of a slot, as the base sees it. -/
def Lane.supplyOk (l : Lane) : Bool := l.sup.valid

/-- The bridge of slot `i` is called for (R331). -/
def State.wantBridge (s : State) (i : LaneId) : Bool :=
  let o := s.lane i.other
  let m := s.lane i
  o.flag F.SAFE_STAT.PIP_RUN && (!m.supplyOk || (!m.start.present && o.start.present))

/-- Slot `i` counts: it is not bridged. -/
def State.counts (s : State) (i : LaneId) : Bool := match i with | .A => !s.base.brA | .B => !s.base.brB

/-- An SO output is available: no counting switch is stuck open, and of those driven by each channel one is not stuck closed
(R333, R334). -/
def State.switchesGood (s : State) (n : Nat) : Bool :=
  let open' (b : Bool) (l : Lane) : Bool := b && (l.pip.bad.contains (n, 2) || l.pip.bad.contains (n, 3))
  let good (sw : Nat) (b : Bool) (l : Lane) : Bool := b && !l.pip.bad.contains (n, sw)
  !open' (s.counts .A) s.a && !open' (s.counts .B) s.b &&
    (good 0 (s.counts .A) s.a || good 0 (s.counts .B) s.b) && (good 1 (s.counts .A) s.a || good 1 (s.counts .B) s.b)

/-- Every switch or line of output `n` that counts permits, and at least one slot counts (R331). -/
def State.outOn (s : State) (n : Nat) : Bool :=
  (s.counts .A || s.counts .B) &&
  (!s.counts .A || (s.a.pip.drive n 0 s.now && s.a.pip.drive n 1 s.now)) &&
  (!s.counts .B || (s.b.pip.drive n 0 s.now && s.b.pip.drive n 1 s.now)) &&
  !s.base.soOver.any (fun x => x.1 == n) && (decide (64 ≤ n) || s.switchesGood n)

/-- The command vectors of two pips differ (R336). -/
def vectorsDiffer (a b : PipH) : Bool :=
  (List.range 400).any (fun n => a.cmd true n != b.cmd true n || a.cmd false n != b.cmd false n)

/-- The comparison of the command vectors every 1 ms (R336). -/
def Lane.laneCompare (l : Lane) (oth : PipH) (now : Nat) : Lane :=
  if vectorsDiffer l.pip oth then
    let t := l.pip.diff.getD now
    let l1 := { l with pip := { l.pip with diff := some t } }
    if t + 40000000 ≤ now then l1.ev safePage 10 else l1
  else { l with pip := { l.pip with diff := none } }

end Sys2Proof.Machine
end

