-- ==== Sys2Proof/Machine/Capture.lean ====
section
/-! DEFINITION. Capture and trigger (R354–R370): trigger units, the sequencer, frames, reductions, the header. -/

namespace Sys2Proof.Machine

/-- First page of the capture block. -/
def captPage : Nat := 0x800
/-- The capture area in lane DRAM, by byte offset from 0x10_0000_0000 (R363). -/
def captArea : Nat := 0x600000000
/-- Bytes of the frame region (R363). -/
def frameBytes : Nat := 4226809856

/-- Enabled channels in ascending order, and slots per frame (R362). -/
def Lane.captChans (l : Lane) : List Nat := (List.range 8).filter (fun c => (l.get F.CAPT_CFG.CH).testBit c)
/-- Slots of a frame that holds `k` channels (R362). -/
def slotsFor (k : Nat) : Nat := if k ≤ 1 then 1 else if k ≤ 2 then 2 else if k ≤ 4 then 4 else 8
/-- Slots of a frame. -/
def Lane.captN (l : Lane) : Nat := slotsFor l.captChans.length

/-- State of the capture (R360). -/
def Lane.captSt (l : Lane) : Nat := l.get F.CAPT_STAT.STATE
/-- The capture stores frames. -/
def Lane.capturing (l : Lane) : Bool := decide (l.captSt = 2 ∨ l.captSt = 3)

/-! ### The header (R364) -/

/-- First frame kept (R362). -/
def Lane.captFirst (l : Lane) : Nat :=
  match l.capt.trig with
  | some x => x.2 - (l.rd Reg.CAPT_PRE).toNat
  | none => l.capt.frames - (l.rd Reg.CAPT_PRE).toNat

/-- An absent number reads all ones. -/
def orOnes (x : Option Nat) : Nat := x.getD (2 ^ 64 - 1)

/-- The header's 96 bytes as they stand now. -/
def Lane.captHeader (l : Lane) : List Nat :=
  let h := l.capt
  let trig := (h.trig.map Prod.fst).getD 0
  leBytes 8 h.seq ++ leBytes 8 h.t0 ++ leBytes 8 l.captFirst ++ leBytes 8 (h.frames - 1) ++ leBytes 8 (orOnes (h.trig.map Prod.snd)) ++
    leBytes 8 (trig / 256) ++ [trig % 256, l.captSt, l.get F.CAPT_STAT.END,
      l.captN + (if h.preShort then 16 else 0) + (if h.prim then 32 else 0) + l.num * 128,
      l.get F.CAPT_CFG.CH, l.get F.CAPT_CFG.RK] ++ leBytes 2 (l.get F.CAPT_TRIG_FINE.TRIG_OFS) ++
    leBytes 8 (orOnes h.lost) ++ leBytes 4 h.firings ++ leBytes 4 h.fireLost ++
    ((List.range 8).map (fun s => leBytes 3 (min (perRing h.entered s) (2 ^ 24 - 1)))).flatten

/-- Store a list of bytes in the capture area. -/
def Lane.captStore (l : Lane) (off : Nat) (bs : List Nat) : Lane := { l with dram := putList l.dram (captArea + off) bs }

/-- Rewrite the header (R364). -/
def Lane.captHead (l : Lane) : Lane := l.captStore 0 l.captHeader

/-! ### Start and end -/

/-- Release the grants of the capture, and withdraw its requests (R361). -/
def Lane.captRelease (l : Lane) (now : Nat) : Lane := (l.ledgerFree 2 0 now).ledgerFree 1 0 now

/-- The capture ends with a cause: DONE, header, grants released (R360, R361, R364). -/
def Lane.captEnd (l : Lane) (cause now : Nat) : Lane :=
  let l1 := ((l.set F.CAPT_STAT.STATE 4).set F.CAPT_STAT.END cause).captRelease now
  let l2 := { l1 with capt := { l1.capt with want := [], startAt := none, stopAt := none } }
  (l2.captHead).ev captPage 2

/-- The reductions of a whole frame region fit in 64 MiB (R365). -/
def redFits (n rk : Nat) : Bool :=
  decide (4 ≤ rk ∧ rk ≤ 16 ∧ frameBytes / (2 * n * 2 ^ rk) * n * 16 ≤ 67108864)

/-- CMD ARM takes effect: refused in a wrong state, under a halt or with a wrong configuration; else the primacy lane
enters the ledger requests and the capture waits (R360, R361, R363, R365, R368). -/
def Lane.captArm (l : Lane) (prime : Bool) (source : Nat) : Lane :=
  let n := l.captN
  let pre := (l.rd Reg.CAPT_PRE).toNat
  let post := (l.rd Reg.CAPT_POST).toNat
  if (l.captSt ≠ 0 ∧ l.captSt ≠ 4) ∨ l.flag F.HOST_HALT.ACTIVE = true then l.err captPage 0x40 source Reg.CAPT_CTRL
  else if frameBytes / (2 * n) < pre + post ∨ redFits n (l.get F.CAPT_CFG.RK) = false then
    l.err captPage 0x41 source Reg.CAPT_CTRL
  else
    let cls := if l.economy then [2, 1] else [2]
    let l1 := (l.set F.CAPT_STAT.STATE 1).set F.CAPT_STAT.END 0
    let l2 := { l1 with capt := { l1.capt with want := cls, startAt := none, trig := none, preShort := false, prim := false, lost := none, stopAt := none } }
    let d := (l.rd Reg.CAPT_ARM_MAX).toNat * 1000000 + post * 50 + 1000000
    if prime then cls.foldl (fun m c => m.enter (.ledger c (classQuanta c) d 0) none 0) l2 else l2

/-- CMD STOP or ABORT takes effect in cycle `e` with an END cause: a request is withdrawn; a capture ends at the next
boundary, from which no firing counts (R360; log entry 32). -/
def Lane.captStop (l : Lane) (e cause now : Nat) : Lane :=
  if l.captSt = 1 then l.captEnd cause now
  else if l.capturing then { l with capt := { l.capt with stopAt := some (l.tOf (e + 1) * 256, cause) } }
  else l

/-- The ledger answers a request of the capture in the current cycle: all granted, the start is fixed; one refused, the
capture ends REFUSED (R361). -/
def Lane.captGrant (l : Lane) (cls : Nat) (granted : Bool) (now : Nat) : Lane :=
  if l.captSt ≠ 1 then l
  else if !granted then (l.captEnd 6 now).ev captPage 3
  else
    let want := l.capt.want.filter (fun c => c != cls)
    let k := if l.economy then cdiv 100000 l.period else 0
    { l with capt := { l.capt with want := want, startAt := if want = [] then some (l.tOf (l.cycN + 1 + k)) else none } }

/-- A CAPTURE grant ends: a capture still ARMED ends with NO_TRIGGER (R361). -/
def Lane.captGrantEnd (l : Lane) (now : Nat) : Lane := if l.captSt = 2 then l.captEnd 5 now else l

/-- At T0 the capture enters ARMED in sequencer state 0 (R361, R358). -/
def Lane.captStart (l : Lane) : Lane :=
  match l.capt.startAt with
  | none => l
  | some t0 =>
    if l.captSt ≠ 1 ∨ l.t64 < t0 then l
    else
      let h : CaptH := { l.capt with
        seq := l.capt.seq + 1, startAt := none, t0 := t0, frames := 0, trig := none, preShort := false, prim := false,
        lost := none, firings := 0, fireLost := 0, entered := [(0, 0)], ts := t0 * 256, count := 0, stopAt := none, reds := [], headAt := t0 }
      let l1 := (((l.set F.CAPT_STAT.STATE 2).set F.CAPT_STAT.END 0).set F.CAPT_STAT.SEQ 0).ev captPage 0
      { l1 with capt := h }

/-! ### The sequencer (R358, R359) -/

/-- Enter a state at an instant. -/
def Lane.seqEnter (l : Lane) (s ti : Nat) : Lane :=
  let l1 := l.set F.CAPT_STAT.SEQ s
  { l1 with
      capt := { l1.capt with ts := ti, count := 0, entered := setRing l1.capt.entered s ((ti - l1.capt.t0 * 256) / 256000) } }

/-- The instant the window of the present state closes, if it does. -/
def Lane.seqClose (l : Lane) : Option Nat :=
  let us := (l.rd (Reg.CAPT_ST_TIMEOUT (l.get F.CAPT_STAT.SEQ))).toNat
  if us = 0 then none else some (l.capt.ts + us * 256000)

/-- Take every timeout up to an instant: TO_NEXT at the window's end, with no action. -/
def Lane.seqTimeouts (ti : Nat) : Nat → Lane → Lane
  | 0, l => l
  | k + 1, l =>
    match l.seqClose with
    | some c => if l.capturing ∧ c ≤ ti then Lane.seqTimeouts ti k (l.seqEnter (l.get (F.CAPT_ST_W0.TO_NEXT (l.get F.CAPT_STAT.SEQ))) c) else l
    | none => l

/-- The trigger point: frame K, TRIG_OFS, PRE_SHORT, TRIGGERED; ignored once TRIGGERED (R359, R362). -/
def Lane.captTrigger (l : Lane) (ti : Nat) (prime : Bool) : Lane :=
  if l.captSt ≠ 2 then l
  else
    let k := cdiv (ti - l.capt.t0 * 256) 12800
    let ofs := l.capt.t0 * 256 + k * 12800 - ti
    let l1 := ((((l.set F.CAPT_STAT.STATE 3).set64 Reg.CAPT_TRIG_LO Reg.CAPT_TRIG_HI (ti / 256)).set F.CAPT_TRIG_FINE.SUBNS (ti % 256)).set
      F.CAPT_TRIG_FINE.TRIG_OFS ofs).ev captPage 1
    { l1 with capt := { l1.capt with trig := some (ti, k), preShort := decide (k < (l.rd Reg.CAPT_PRE).toNat), prim := prime } }

/-- A state is left at a firing: ACTION, then NEXT (R359). -/
def Lane.seqLeave (l : Lane) (ti : Nat) (prime : Bool) (now : Nat) : Lane :=
  let s := l.get F.CAPT_STAT.SEQ
  let next := l.get (F.CAPT_ST_W0.NEXT s)
  match l.get (F.CAPT_ST_W0.ACTION s) with
  | 1 => (l.captTrigger ti prime).seqEnter next ti
  | 3 => l.captEnd 4 now
  | _ => l.seqEnter next ti

/-- Enter a firing in the list, or count it lost when the list is full (R366). -/
def Lane.listFiring (l : Lane) (u ti flags : Nat) : Lane :=
  if l.capt.firings < 65280 then
    let l1 := l.captStore (0x1000 + 16 * l.capt.firings)
      (leBytes 8 (ti / 256) ++ [ti % 256, u, l.get F.CAPT_STAT.SEQ, flags] ++ leBytes 4 0)
    { l1 with capt := { l1.capt with firings := l1.capt.firings + 1 } }
  else
    let l1 := l.ev captPage 5
    { l1 with capt := { l1.capt with fireLost := l1.capt.fireLost + 1 } }

/-- The sequencer sees a firing of unit `u`; one stamped before the present state was entered is listed and does not count
(R358, R366). -/
def Lane.seqFire (l0 : Lane) (u ti : Nat) (prime : Bool) (now : Nat) : Lane :=
  let l := l0.seqTimeouts ti 256
  let stopped : Bool := match l.capt.stopAt with | some x => decide (x.1 ≤ ti) | none => false
  if !l.capturing || decide (ti < l.capt.t0 * 256) || stopped then l
  else
    let s := l.get F.CAPT_STAT.SEQ
    let held := decide (l.capt.ts ≤ ti ∧ ti < l.capt.ts + (l.rd (Reg.CAPT_ST_HOLDOFF s)).toNat * 256)
    let named := decide (l.get (F.CAPT_ST_W0.A s) = u ∨ l.get (F.CAPT_ST_W0.B s) = u)
    let counted := named && decide (l.capt.ts ≤ ti) && !held
    let after := match l.capt.trig with | some x => decide (x.1 < ti) | none => false
    let l1 := l.listFiring u ti ((if counted then 1 else 0) + (if held then 2 else 0) + (if after then 4 else 0))
    if !counted then l1
    else
      let c := l1.capt.count + 1
      if c < l.get (F.CAPT_ST_COUNT.COUNT s) then { l1 with capt := { l1.capt with count := c } }
      else l1.seqLeave ti prime now

/-! ### Firings (R354–R357) -/

/-- The primacy lane enters the stamp of a mirrored unit, unless it is the old holder's last; the other lane keeps it
until an entry meets it (R357). -/
def Lane.captMirror (l : Lane) (u ti : Nat) (prime : Bool) : Lane :=
  if !l.flag (F.CAPT_TU_CFG.MIRROR u) then l
  else if l.capt.lastM.any (fun x => decide (x.1 = u ∧ ti ≤ x.2 + 512 ∧ x.2 ≤ ti + 512)) then l
  else if prime then l.enter (.stamp (trigSource u) (ti / 256) (ti % 256)) none (stampKey (trigSource u) (ti / 256))
  else { l with capt := { l.capt with unsent := l.capt.unsent ++ [(u, ti)] } }

/-- A received stamp entry meets the firings of its unit up to it (R357). -/
def Lane.captMet (l : Lane) (source ti : Nat) : Lane :=
  { l with
      capt := { l.capt with
        lastM := upsert Prod.fst (source - 0x4000, ti) l.capt.lastM,
        unsent := l.capt.unsent.filter (fun x => decide (¬(x.1 = source - 0x4000 ∧ x.2 ≤ ti + 512))) } }

/-- A new holder of primacy enters the firings later than the old holder's last (R357). -/
def Lane.captTake (l : Lane) : Lane :=
  let l1 := { l with capt := { l.capt with unsent := [] } }
  l.capt.unsent.foldl (fun m x => m.captMirror x.1 x.2 true) l1

/-- Firings that no cycle in flight can still meet are dropped at a boundary. -/
def Lane.captAge (l : Lane) (tN : Nat) : Lane :=
  { l with capt := { l.capt with unsent := l.capt.unsent.filter (fun x => decide (tN * 256 ≤ x.2 + 2 * l.period * 256)) } }

/-- A direction suits a unit's EDGE. -/
def edgeSuits (edge : Nat) (rising : Bool) : Bool :=
  match edge with | 0 => rising | 1 => !rising | 2 => true | _ => false

/-- The comparator of an FI unit is armed in a direction; without hysteresis it always is (R355). -/
def Lane.fiArmed (l : Lane) (u : Nat) (rising : Bool) : Bool :=
  decide (l.get (F.CAPT_TU_CFG.QUAL u) = 0) ||
    l.capt.arms.any (fun x => x.1 == u && (if rising then x.2.1 else x.2.2))

/-- A sample arms the comparators of its channel (R355; log entry 33). -/
def Lane.fiArm (l : Lane) (ch : Nat) (code : Int) : Lane :=
  let one (arms : List (Nat × Bool × Bool)) (u : Nat) : List (Nat × Bool × Bool) :=
    if l.flag (F.CAPT_TU_CFG.EN u) && decide (l.get (F.CAPT_TU_CFG.KIND u) = 0 ∧ l.get (F.CAPT_TU_CFG.SRC u) = ch) then
      let th := signed 16 (l.rd (Reg.CAPT_TU_ARG u)).toNat
      let h : Int := ((l.get (F.CAPT_TU_CFG.QUAL u) * 16 : Nat) : Int)
      let old := ((arms.find? (fun x => x.1 == u)).map Prod.snd).getD (false, false)
      upsert Prod.fst (u, old.1 || decide (code < th - h), old.2 || decide (th + h < code)) arms
    else arms
  if code = -32768 then l else { l with capt := { l.capt with arms := (List.range 64).foldl one l.capt.arms } }

/-- A crossing of an FI unit's threshold while the fast converters deliver samples (R279, R280), or the qualifying instant of a DI
unit's edge: the unit fires with its fine stamp (R354, R355). TIME units fire with their trigger, VALUE units in the merge. -/
def Lane.unitFires (l : Lane) (u : Nat) (rising : Bool) (bin : Nat) (prime : Bool) (now : Nat) : Lane :=
  let inc := 2 * 2 ^ 32 + l.get F.TIME_INC.FRAC
  if !(l.flag (F.CAPT_TU_CFG.EN u) && edgeSuits (l.get (F.CAPT_TU_CFG.EDGE u)) rising) then l
  else match l.get (F.CAPT_TU_CFG.KIND u) with
    | 0 =>
      if l.fiArmed u rising && l.flag F.FI_CTRL.READY then
        let st := fineStamp l.time.acc inc bin
        let ti := st.1 * 256 + st.2
        let l1 := { l with
          capt := { l.capt with arms := l.capt.arms.map (fun (x : Nat × Bool × Bool) => if x.1 = u then (if rising then (u, false, x.2.2) else (u, x.2.1, false)) else x) } }
        (l1.captMirror u ti prime).seqFire u ti prime now
      else l
    | 1 =>
      let d := l.pip.line (l.get (F.CAPT_TU_CFG.SRC u))
      if d.raw = rising ∧ d.since + l.get (F.CAPT_TU_CFG.QUAL u) * 4 ≤ now ∧ !(l.capt.fired.contains (u, d.since)) then
        let st := fineStamp (l.time.acc - (now - d.since) * inc) inc bin
        let ti := st.1 * 256 + st.2
        let l1 := { l with capt := { l.capt with fired := upsert Prod.fst (u, d.since) l.capt.fired } }
        (l1.captMirror u ti prime).seqFire u ti prime now
      else l
    | _ => l

/-- A general time trigger fires its TIME units, in ascending order (R354, R358). -/
def Lane.timeUnits (l : Lane) (tt tgt : Nat) (prime : Bool) (now : Nat) : Lane :=
  (List.range 64).foldl (fun m u =>
    if m.flag (F.CAPT_TU_CFG.EN u) && decide (m.get (F.CAPT_TU_CFG.KIND u) = 3 ∧ m.get (F.CAPT_TU_CFG.SRC u) = tt) then
      m.seqFire u (tgt * 256) prime now else m) l

/-- VALUE units fire in the merge phase of the cycle whose inputs first meet their test (R354, R356). -/
def Lane.valueUnits (l : Lane) (tN : Nat) (prime : Bool) (now : Nat) : Lane :=
  ((List.range 16).map (fun k => 48 + k)).foldl (fun m u =>
    if m.flag (F.CAPT_TU_CFG.EN u) && decide (m.get (F.CAPT_TU_CFG.KIND u) = 2) then
      let v := m.readRef (m.rd (Reg.CAPT_TU_REF (u - 48))).toNat
      let lim := signed 32 (m.rd (Reg.CAPT_TU_ARG u)).toNat
      let meets := decide (v.2 = 0) && (if m.get (F.CAPT_TU_CFG.CMP u) = 0 then decide (lim ≤ v.1) else decide (v.1 < lim))
      let was := m.capt.met.contains u
      let m1 := { m with capt := { m.capt with met := (if meets then [u] else []) ++ m.capt.met.filter (fun x => x != u) } }
      if meets && !was then m1.seqFire u (tN * 256) prime now else m1
    else m) l

/-- A write of a unit, of a sequencer state or of the capture's configuration takes effect: refused outside IDLE and
DONE, and for a fifth FI unit of a channel (R355, R357, R360). -/
def Lane.captWrite (l : Lane) (addr : Nat) (w : Word) (source : Nat) : Lane :=
  let l1 := l.wr addr w
  let fis (ch : Nat) : Nat := ((List.range 64).filter (fun u =>
    decide (l1.flag (F.CAPT_TU_CFG.EN u) = true ∧ l1.get (F.CAPT_TU_CFG.KIND u) = 0 ∧ l1.get (F.CAPT_TU_CFG.SRC u) = ch))).length
  if l.captSt ≠ 0 ∧ l.captSt ≠ 4 then l.err captPage 0x40 source addr
  else if (List.range 128).any (fun ch => decide (4 < fis ch)) then l.err captPage 0x41 source addr
  else if addr = Reg.CAPT_CFG then l1.set F.CAPT_CFG.N l1.captN
  else if addr = Reg.CAPT_ARM_MAX ∧ w = 0#32 then l1.wr addr 1#32
  else if addr / 0x1000 = captPage + 2 ∧ addr % 16 = 4 ∧ w = 0#32 then l1.wr addr 1#32
  else l1

/-! ### Frames and reductions (R362, R363, R365) -/

/-- A sample enters the reduction of its slot. -/
def Red.add (r : Red) (v : Int) : Red :=
  if v = -32768 then { r with ovr := r.ovr + 1 }
  else { r with least := min r.least v, most := max r.most v, sum := r.sum + v, sq := r.sq + (v * v).toNat }

/-- An empty reduction of a slot. -/
def red0 (i : Nat) : Red := ⟨i, 32767, -32768, 0, 0, 0⟩

/-- The 16 bytes of a reduction entry (R365). -/
def Red.bytes (r : Red) : List Nat :=
  leBytes 2 (twos 16 r.least) ++ leBytes 2 (twos 16 r.most) ++ leBytes 4 (twos 32 r.sum) ++ leBytes 6 r.sq ++ leBytes 2 r.ovr

/-- Store one frame, and the reduction of each enabled slot when the frame is the last of its block. -/
def Lane.storeFrame (l : Lane) (codes : List (Nat × Int)) : Lane :=
  let n := l.captN
  let k := l.capt.frames
  let chans := l.captChans
  let vals := chans.map (fun c => ((codes.find? (fun x => x.1 == c)).map Prod.snd).getD (-32768))
  let blk := 2 ^ l.get F.CAPT_CFG.RK
  let base := if k % blk = 0 then (List.range chans.length).map red0 else l.capt.reds
  let reds := (base.zip vals).map (fun x => x.1.add x.2)
  let l1 := l.captStore (0x4100000 + 2 * n * k % frameBytes) (padTo (2 * n) ((vals.map (fun v => leBytes 2 (twos 16 v))).flatten))
  let l2 := if k % blk = blk - 1 then
      reds.foldl (fun m r => m.captStore (0x100000 + 16 * ((k / blk * n + r.slot) % 4194304)) r.bytes) l1 else l1
  { l2 with capt := { l2.capt with frames := k + 1, reds := reds } }

/-- The fast converters deliver a sample of each enabled channel: comparators, over-range, a frame of the capture
(R279, R280, R362). -/
def Lane.fastSample (l : Lane) (codes : List (Nat × Int)) : Lane :=
  if !l.flag F.FI_CTRL.READY then l
  else
    let use := codes.filter (fun x => (l.get F.FI_CTRL.EN).testBit x.1)
    let l1 := use.foldl (fun m x => m.fiArm x.1 x.2) l
    let ovr : Nat := use.foldl (fun (b : Nat) (x : Nat × Int) => if x.2 = -32768 ∧ b.testBit x.1 = false then b + 2 ^ x.1 else b) l1.ain.fiOvr
    let l2 : Lane := { l1 with ain := { l1.ain with fiOvr := ovr } }
    let whole : Bool := match l2.capt.trig with | some x => decide (x.2 + (l2.rd Reg.CAPT_POST).toNat ≤ l2.capt.frames) | none => false
    if l2.capturing = true ∧ l2.capt.t0 + 50 * l2.capt.frames ≤ l2.t64 ∧ whole = false then l2.storeFrame use else l2

/-- Frame K + POST − 1 is stored: DONE with END COMPLETE (R362). -/
def Lane.captComplete (l : Lane) (now : Nat) : Lane :=
  match l.capt.trig with
  | some x => if l.captSt = 3 ∧ x.2 + (l.rd Reg.CAPT_POST).toNat ≤ l.capt.frames then l.captEnd 1 now else l
  | none => l

/-- A capture still ARMED at T0 + ARM_MAX ends with NO_TRIGGER (R361). -/
def Lane.captNoTrigger (l : Lane) (now : Nat) : Lane :=
  if l.captSt = 2 ∧ l.capt.t0 + (l.rd Reg.CAPT_ARM_MAX).toNat * 1000000 ≤ l.t64 then l.captEnd 5 now else l

/-- The on-die buffer overflows: END OVERRUN, LOST the first missing frame (R367). -/
def Lane.captOverrun (l : Lane) (now : Nat) : Lane :=
  if l.capturing then Lane.captEnd ({ l with capt := { l.capt with lost := some l.capt.frames } }.ev captPage 4) 8 now else l

/-- The header is rewritten every 1 ms while ARMED or TRIGGERED (R364). -/
def Lane.captPeriodic (l : Lane) : Lane :=
  if l.capturing ∧ l.capt.headAt + 1000000 ≤ l.t64 then Lane.captHead { l with capt := { l.capt with headAt := l.t64 } } else l

/-- At a cycle boundary a stopped capture ends, and a halt ends a capture (R360, R368). -/
def Lane.captBoundary (l : Lane) (tN now : Nat) : Lane :=
  let l1 := l.captAge tN
  if l1.flag F.HOST_HALT.ACTIVE && decide (l1.captSt = 1 ∨ l1.captSt = 2 ∨ l1.captSt = 3) then (l1.captEnd 7 now).ev captPage 6
  else match l1.capt.stopAt with
    | some x => if l1.capturing ∧ x.1 ≤ tN * 256 then l1.captEnd x.2 now else l1
    | none => l1

/-- A reset of kind L ends a capture: the header keeps its last periodic values with END 0 (R364); the units' hidden
state goes. -/
def CaptH.reset (h : CaptH) : CaptH :=
  { h with
      want := [], startAt := none, t0 := 0, frames := 0, trig := none, preShort := false, prim := false, lost := none, firings := 0,
      fireLost := 0, entered := [], ts := 0, count := 0, stopAt := none, reds := [], arms := [], met := [], fired := [],
      lastM := [], unsent := [], headAt := 0, joined := 0 }

/-- The capture of a lane that takes a rejoin set: IDLE (R369). -/
def Lane.captIdle (l : Lane) : Lane :=
  Lane.set (Lane.set (Lane.set { l with capt := l.capt.reset } F.CAPT_STAT.STATE 0) F.CAPT_STAT.END 0) F.CAPT_STAT.SEQ 0

/-- CMD of CAPT_CTRL takes effect in cycle `e`; a joining lane, up to its join effect cycle, arms no capture (R360, R369). -/
def Lane.captCmd (l : Lane) (cmd e : Nat) (prime : Bool) (source now : Nat) : Lane :=
  match cmd with
  | 1 => if l.st = .shadow ∨ e ≤ l.capt.joined then l else l.captArm prime source
  | 2 => l.captStop e 2 now
  | 3 => l.captStop e 3 now
  | _ => l

end Sys2Proof.Machine
end

