-- ==== Sys2Proof/Machine/Fifo.lean ====
section
/-! DEFINITION. The FIFOs of a lane (R404–R408). -/

namespace Sys2Proof.Machine

/-- Register page of FIFO `f`. -/
def fifoPage (f : Nat) : Nat := 0x980 + f / 16

/-- A FIFO, empty if never used. -/
def Lane.fifo (l : Lane) (f : Nat) : Fifo := (l.fifos.find? (fun e => e.f == f)).getD ⟨f, [], [], 0, false, (0, 0, 0), [], 0⟩

/-- Places of a FIFO (R404). -/
def Lane.fifoDepth (l : Lane) (f : Nat) : Nat := 2 ^ l.get (F.FIFO_CFG.DEPTH f)

/-- Store a FIFO and show it in FIFO_STAT. -/
def Lane.setFifo (l : Lane) (e : Fifo) : Lane :=
  let l1 : Lane := { l with fifos := upsert Fifo.f e l.fifos }
  let l2 := (l1.set (F.FIFO_STAT.LEVEL e.f) e.words.length).set (F.FIFO_STAT.HELD e.f) e.held.length
  ((l2.setB (F.FIFO_STAT.WF_PEND e.f) (decide (e.drops.2.1 ≠ 0))).setB (F.FIFO_STAT.FULL e.f)
    (decide (l.fifoDepth e.f ≤ e.words.length))).setB (F.FIFO_STAT.EMPTY e.f) (decide (e.words = []))

/-- The header of a read word (R406). -/
def rdHeader (wseq vb tag : Nat) (last : Bool) : Nat := wseq % 2 ^ 16 * 2 ^ 16 + (if last then 256 else 0) + vb * 16 + tag

/-- Up to 12 bytes as a read word. -/
def rdWord (wseq : Nat) (bs : List Nat) (last : Bool) : RdWord :=
  let b := padTo 12 bs
  ⟨rdHeader wseq bs.length (if bs.length = 12 then 0 else 1) last, leVal (b.take 4), leVal ((b.drop 4).take 4), leVal ((b.drop 8).take 4)⟩

/-- The NV word (R407). -/
def nvWord : RdWord := ⟨2, 0, 0, 0⟩

/-- A count of a marker. -/
def sat32 (n : Nat) : Nat := min n (2 ^ 32 - 1)

/-- Commit the gathered bytes as a read word, or drop it (R405, R408). -/
def Lane.fifoCommit (l : Lane) (f : Nat) (last : Bool) : Lane :=
  let e := l.fifo f
  let next := if last then false else e.dropping
  if e.dropping ∨ l.fifoDepth f ≤ e.words.length then
    let n := (e.held.length + 3) / 4
    let l1 := if e.drops.2.1 = 0 then l.ev (fifoPage f) 17 else l
    (l1.set (F.FIFO_DROP.WORDS f) (sat32 (l1.get (F.FIFO_DROP.WORDS f) + n))).setFifo
      { e with held := [], dropping := !last, drops := (e.drops.1 + n, e.drops.2.1 + 1, e.drops.2.2 + (if e.dropping then 0 else 1)) }
  else
    let l1 := l.setFifo { e with words := e.words ++ [rdWord e.wseq e.held last], held := [], wseq := e.wseq + 1, dropping := next }
    if e.words.length + 1 = l.get (F.FIFO_WM.LEVEL f) then l1.ev (fifoPage f) (f % 16) else l1

/-- A producer adds bytes to the message in progress; the last of a message commits what is gathered (R405). -/
def Lane.fifoPut (l : Lane) (f : Nat) (bs : List Nat) (last : Bool) (now : Nat) : Lane :=
  if l.flag (F.FIFO_CFG.EN f) = false then l
  else
    let e := l.fifo f
    let l1 := l.setFifo { e with held := e.held ++ bs, last := now }
    if last ∨ 12 ≤ e.held.length + bs.length then l1.fifoCommit f last else l1

/-- The service cores write a whole message, four bytes at a time, the last word ending it (R399). -/
def fifoMessage (f now : Nat) : Nat → List Nat → Lane → Lane
  | 0, _, l => l
  | n + 1, bs, l =>
    if bs.length ≤ 4 then l.fifoPut f bs true now else fifoMessage f now n (bs.drop 4) (l.fifoPut f (bs.take 4) false now)

/-- FLUSH_US passes without a write while bytes are held: they are committed (R405). -/
def Lane.fifoFlush (l : Lane) (f now : Nat) : Lane :=
  let e := l.fifo f
  let us := l.get (F.FIFO_CFG.FLUSH_US f)
  if us ≠ 0 ∧ e.held ≠ [] ∧ e.last + us * 400 ≤ now then l.fifoCommit f false else l

/-- A freed place takes the marker when drops are to be stated (R408). -/
def Fifo.marker (e : Fifo) : Fifo :=
  if e.drops.2.1 = 0 then e
  else
    { e with
        words := e.words ++ [⟨rdHeader e.wseq 12 3 true, sat32 e.drops.1, sat32 e.drops.2.1, sat32 e.drops.2.2⟩],
        wseq := e.wseq + 1, drops := (0, 0, 0) }

/-- A read of FIFO_RD_0 by a party: the oldest word is removed and captured, or NV (R407). -/
def Lane.fifoTake (l : Lane) (f party : Nat) : RdWord × Lane :=
  let e := l.fifo f
  match e.words with
  | [] => (nvWord, l.setFifo { e with cap := upsert Prod.fst (party, nvWord) e.cap })
  | w :: t =>
    let e1 := Fifo.marker { e with words := t, cap := upsert Prod.fst (party, w) e.cap }
    let l1 := l.setFifo e1
    (w, if e.drops.2.1 = 0 then l1 else l1.ev (fifoPage f) 16)

/-- FIFO_RD_k, k = 1 to 3, as a party reads it: the captured data word. -/
def Lane.fifoCaptured (l : Lane) (f party k : Nat) : Nat :=
  match (l.fifo f).cap.find? (fun x => x.1 == party) with
  | some x => if k = 1 then x.2.d1 else if k = 2 then x.2.d2 else x.2.d3
  | none => 0

/-- A write of FIFO_CFG: refused while EN is 1 where it changes the configuration, and where the enabled depths exceed
the storage; a change of EN empties the FIFO (R404). -/
def Lane.fifoCfg (l : Lane) (f : Nat) (w : Word) (source : Nat) : Lane :=
  let old := l.rd (Reg.FIFO_CFG f)
  let l1 := l.wr (Reg.FIFO_CFG f) w
  let total := (((List.range 256).filter (fun g => l1.flag (F.FIFO_CFG.EN g))).map (fun g => l1.fifoDepth g)).sum
  if l.flag (F.FIFO_CFG.EN f) = true ∧ bits old 30 0 ≠ bits w 30 0 then l.err (fifoPage f) 0x40 source (Reg.FIFO_CFG f)
  else if 131072 < total then l.err (fifoPage f) 0x41 source (Reg.FIFO_CFG f)
  else if bits old 31 31 = bits w 31 31 then l1
  else (l1.set (F.FIFO_DROP.WORDS f) 0).setFifo ⟨f, [], [], 0, false, (0, 0, 0), [], 0⟩

end Sys2Proof.Machine
end

