-- ==== Sys2Proof/Machine/Rights.lean ====
section
/-! DEFINITION. Rights codes and claim tokens (R35–R38, R473). -/

namespace Sys2Proof.Machine

/-- The `i`-th 2-bit code of an array of registers that begins at `base`. -/
def Lane.code2 (l : Lane) (base i : Nat) : Nat := bits (l.rd (base + 4 * (i / 16))) (2 * (i % 16) + 1) (2 * (i % 16))

/-- Rights code of a seat on a register page, a table granule, a DRAM granule (R35). -/
def Lane.pageCode (l : Lane) (seat page : Nat) : Nat := l.code2 (Reg.SEAT_RIGHTS_PAGE seat 0) page
def Lane.tableCode (l : Lane) (seat g : Nat) : Nat := l.code2 (Reg.SEAT_RIGHTS_TABLE seat 0) g
def Lane.dramCode (l : Lane) (seat g : Nat) : Nat := l.code2 (Reg.SEAT_RIGHTS_DRAM seat 0) g

/-- The seat that holds a token (R38). -/
def Lane.holder (l : Lane) (token : Nat) : Option Nat := (l.acc.tokens.find? (fun t => t.token == token)).map Token.seat

/-- The token of a DRAM granule; the image and table area has none (R473). -/
def granuleToken (g : Nat) : Option Nat :=
  if g < 96 then some 0x000088 else if g < 112 then some 0x000080 else if g < 120 then none else some 0xFF0090

/-- A seat may write a DRAM granule (R35, R473). -/
def Lane.mayWriteGranule (l : Lane) (seat g : Nat) : Bool :=
  match granuleToken g with
  | none => false
  | some t => l.dramCode seat g = 2 || (l.dramCode seat g = 3 && l.holder t = some seat)

/-- The granules of a byte range of DRAM. -/
def granules (off len : Nat) : List Nat :=
  if len = 0 then [] else (List.range ((off + len - 1) / 0x10000000 - off / 0x10000000 + 1)).map (fun k => off / 0x10000000 + k)

end Sys2Proof.Machine
end

