-- ==== Sys2Proof/Machine/Dma.lean ====
section
/-! DEFINITION. The DMA engine of a lane (R418–R428). -/

namespace Sys2Proof.Machine

/-- Register page of channel `n`. -/
def dmaPage (n : Nat) : Nat := 0xA81 + n

/-! ### A descriptor (R419, R420) -/

def dw (ws : List Nat) (k : Nat) : Nat := ws.getD k 0
def dSrc (ws : List Nat) : Nat := dw ws 0 + dw ws 1 * 2 ^ 32
def dDst (ws : List Nat) : Nat := dw ws 2 + dw ws 3 * 2 ^ 32
def dLen (ws : List Nat) : Nat := dw ws 4
def dBits (ws : List Nat) (hi lo : Nat) : Nat := dw ws 5 / 2 ^ lo % 2 ^ (hi - lo + 1)
def dSspace (ws : List Nat) : Nat := dBits ws 31 30
def dDspace (ws : List Nat) : Nat := dBits ws 29 28
def dSw (ws : List Nat) : Nat := dBits ws 27 25
def dDw (ws : List Nat) : Nat := dBits ws 24 22
def dSinc (ws : List Nat) : Bool := (dw ws 5).testBit 21
def dDinc (ws : List Nat) : Bool := (dw ws 5).testBit 20
def dIrq (ws : List Nat) : Bool := (dw ws 5).testBit 18
def dLast (ws : List Nat) : Bool := (dw ws 5).testBit 17
def dWb (ws : List Nat) : Bool := (dw ws 5).testBit 16
def dNspace (ws : List Nat) : Nat := dBits ws 15 14
def dNext (ws : List Nat) : Nat := dw ws 6 + dw ws 7 * 2 ^ 32

/-- Bytes of one beat. -/
def dBeat (ws : List Nat) : Nat := 2 ^ max (dSw ws) (dDw ws)

/-- A lane range lies in DRAM. -/
def inDram (a n : Nat) : Bool := decide (0x1000000000 ≤ a ∧ a + n ≤ 0x1800000000)

/-- Bytes that a side touches. -/
def span (inc : Bool) (len width : Nat) : Nat := if inc then len else 2 ^ width

/-- A descriptor is invalid (R420). -/
def descBad (ws : List Nat) : Bool :=
  decide (dLen ws = 0) || decide (dLen ws % dBeat ws ≠ 0) || decide (dSrc ws % 2 ^ dSw ws ≠ 0 ∧ dSspace ws ≠ 2) ||
    decide (dDst ws % 2 ^ dDw ws ≠ 0 ∧ dDspace ws ≠ 2) || decide (dSw ws = 7 ∨ dDw ws = 7) ||
    decide (dSspace ws = 2 ∧ (dSw ws ≠ 4 ∨ dSinc ws = true)) || decide (dDspace ws = 2 ∧ (dDw ws ≠ 2 ∨ dDinc ws = true)) ||
    (decide (dSspace ws = 0) && !inDram (dSrc ws) (span (dSinc ws) (dLen ws) (dSw ws))) ||
    (decide (dDspace ws = 0) && !inDram (dDst ws) (span (dDinc ws) (dLen ws) (dDw ws))) ||
    decide (dSspace ws = 3 ∨ dDspace ws = 3 ∨ dNspace ws = 3) || decide (dBits ws 13 4 ≠ 0)

/-! ### Channels -/

/-- A channel, idle if never used. -/
def Lane.dmaC (l : Lane) (n : Nat) : DmaC := (l.dma.chans.find? (fun c => c.ch == n)).getD ⟨n, List.replicate 8 0, 0, none, none, none⟩

/-- State of a channel (DMA_CH_STAT.STATE). -/
def Lane.dmaSt (l : Lane) (n : Nat) : Nat := l.get (F.DMA_CH_STAT.STATE n)

/-- Count the channels in DMA_ENG_STAT. -/
def Lane.dmaCount (l : Lane) : Lane :=
  (l.set F.DMA_ENG_STAT.HALTED ((List.range 64).filter (fun n => l.dmaSt n == 5)).length).set F.DMA_ENG_STAT.RUNNING
    ((List.range 64).filter (fun n => decide (1 ≤ l.dmaSt n ∧ l.dmaSt n ≤ 3))).length

/-- Store a channel and its state, and show the active set. -/
def Lane.setDma (l : Lane) (c : DmaC) (st : Nat) : Lane :=
  let n := c.ch
  let l1 : Lane := { l with dma := { l.dma with chans := upsert DmaC.ch c l.dma.chans } }
  let l2 := (l1.set (F.DMA_CH_STAT.STATE n) st).setB (F.DMA_CH_STAT.SH_PEND n) c.pend.isSome
  let src := if dSinc c.act then dSrc c.act + c.moved else dSrc c.act
  let dst := if dDinc c.act then dDst c.act + c.moved else dDst c.act
  let l3 := ((l2.set64 (Reg.DMA_CH_CUR_SRC_LO n) (Reg.DMA_CH_CUR_SRC_HI n) src).set64 (Reg.DMA_CH_CUR_DST_LO n) (Reg.DMA_CH_CUR_DST_HI n) dst).set64
    (Reg.DMA_CH_CUR_DESC_LO n) (Reg.DMA_CH_CUR_DESC_HI n) ((c.desc.map Prod.snd).getD 0)
  ((l3.wr (Reg.DMA_CH_REMAIN n) (word (dLen c.act - c.moved))).set (F.DMA_CH_RUN.HOLD n) 0).dmaCount

/-- The channel halts: cause, direction, side, first failing address (R424). -/
def Lane.dmaHalt (l : Lane) (c : DmaC) (cause dir side addr : Nat) : Lane :=
  let n := c.ch
  let l1 := ((l.set (F.DMA_CH_HALT.CAUSE n) cause).set (F.DMA_CH_HALT.DIR n) dir).set (F.DMA_CH_HALT.SIDE n) side
  ((l1.set64 (Reg.DMA_CH_FAIL_LO n) (Reg.DMA_CH_FAIL_HI n) addr).ev (dmaPage n) 2).setDma c 5

/-- The owner may use a lane range (R391, R418). -/
def Lane.ownerMay (l : Lane) (n a len : Nat) : Bool :=
  (granules (a - 0x1000000000) len).all (fun g => l.mayWriteGranule (l.get (F.DMA_CH_STAT.OWNER n)) g)

/-- A descriptor enters service: checked, then it runs, or the channel halts (R418, R420). -/
def Lane.dmaBegin (l : Lane) (c : DmaC) : Lane :=
  let ws := c.act
  if descBad ws then l.dmaHalt c 4 0 2 ((c.desc.map Prod.snd).getD 0)
  else if dSspace ws = 0 ∧ l.ownerMay c.ch (dSrc ws) (span (dSinc ws) (dLen ws) (dSw ws)) = false then l.dmaHalt c 6 0 0 (dSrc ws)
  else if dDspace ws = 0 ∧ l.ownerMay c.ch (dDst ws) (span (dDinc ws) (dLen ws) (dDw ws)) = false then l.dmaHalt c 6 1 1 (dDst ws)
  else l.setDma c (if l.flag (F.DMA_CH_CTRL.PAUSE c.ch) then 3 else 1)

/-- The shadow set of a channel. -/
def Lane.shadow (l : Lane) (n : Nat) : List Nat := (List.range 8).map (fun k => (l.rd (Reg.DMA_CH_SH_W n k)).toNat)

/-- A run starts from the shadow set for a seat (R422, R423). -/
def Lane.dmaStart (l : Lane) (n seat : Nat) : Lane :=
  let l1 := ((l.set (F.DMA_CH_STAT.OWNER n) seat).set (F.DMA_CH_RUN.DESCS n) 0).set (F.DMA_CH_HALT.CAUSE n) 0
  l1.dmaBegin ⟨n, l.shadow n, 0, none, none, none⟩

/-- A doorbell: the run starts, the shadow is marked pending, or it is refused (R422). -/
def Lane.doorbell (l : Lane) (n seat : Nat) : Lane :=
  let c := l.dmaC n
  if l.dmaSt n = 0 then l.dmaStart n seat
  else if c.pend.isSome then l.err (dmaPage n) 0x41 seat (Reg.DMA_CH_CTRL n)
  else l.setDma { c with pend := some seat } (l.dmaSt n)

/-! ### Moving bytes (R421) -/

/-- `k` bytes of the source from where the descriptor stands; a host source brings its own. -/
def Lane.dmaSource (l : Lane) (c : DmaC) (k : Nat) (host : List Nat) : List Nat :=
  let ws := c.act
  match dSspace ws with
  | 0 =>
    let a := dSrc ws - 0x1000000000
    if dSinc ws then listAt l.dram (a + c.moved) k
    else (List.replicate (k / 2 ^ dSw ws) (listAt l.dram a (2 ^ dSw ws))).flatten
  | _ => padTo k host

/-- Four-byte writes of a FIFO destination, the last of the descriptor ending the message. -/
def fifoWrites (f now : Nat) (ends : Bool) : Nat → List Nat → Lane → Lane
  | 0, _, l => l
  | n + 1, bs, l => if bs = [] then l else fifoWrites f now ends n (bs.drop 4) (l.fifoPut f (bs.take 4) (ends && decide (bs.length ≤ 4)) now)

/-- Bytes read are written to the destination. -/
def Lane.dmaWrite (l : Lane) (c : DmaC) (bs : List Nat) (now : Nat) : Lane :=
  let ws := c.act
  let a := dDst ws + (if dDinc ws then c.moved else 0)
  match dDspace ws with
  | 0 =>
    let out := if dDinc ws then bs else bs.drop (bs.length - 2 ^ dDw ws)
    { l with dram := putList l.dram (a - 0x1000000000) out }
  | 1 => { l with dma := { l.dma with posted := l.dma.posted ++ [(a, bs)] } }
  | _ => fifoWrites (dDst ws % 256) now (decide (c.moved + bs.length = dLen ws)) (bs.length / 4 + 1) bs l

/-- Up to `k` bytes are moved from a lane or host source; whole beats (R421, R425). -/
def Lane.dmaMove (l : Lane) (n k : Nat) (host : List Nat) (now : Nat) : Lane :=
  let c := l.dmaC n
  let m := min k (dLen c.act - c.moved) / dBeat c.act * dBeat c.act
  if m = 0 then l
  else
    let l1 := l.dmaWrite c (l.dmaSource c m host) now
    l1.setDma { c with moved := c.moved + m } (l.dmaSt n)

/-- One read word of a FIFO source is moved; on an empty FIFO the channel waits. -/
def Lane.dmaWord (l : Lane) (n now : Nat) : Lane :=
  let c := l.dmaC n
  let f := dSrc c.act % 256
  if (l.fifo f).words = [] then l.setDma c 2
  else
    let r := l.fifoTake f 0x18
    let bs := leBytes 4 r.1.hdr ++ leBytes 4 r.1.d1 ++ leBytes 4 r.1.d2 ++ leBytes 4 r.1.d3
    (r.2.dmaWrite c bs now).setDma { c with moved := c.moved + 16 } (if l.dmaSt n = 2 then 1 else l.dmaSt n)

/-- Read words of a FIFO source until the descriptor is moved or the FIFO is empty. -/
def dmaWords (n now : Nat) : Nat → Lane → Lane
  | 0, l => l
  | k + 1, l => if (l.dmaC n).moved < dLen (l.dmaC n).act ∧ l.dmaSt n ≠ 2 then dmaWords n now k (l.dmaWord n now) else l

/-- The run ends: RUN_DONE; a pending shadow is taken, and its run starts (R422, R426). -/
def Lane.dmaEnd (l : Lane) (n : Nat) : Lane :=
  let c := l.dmaC n
  let l1 := l.ev (dmaPage n) 1
  match c.pend with
  | some seat => (l1.ev (dmaPage n) 4).dmaStart n seat
  | none => l1.setDma { c with next := none } 0

/-- STATUS is written back to the descriptor, or into the active set where the run began from registers (R426). -/
def Lane.dmaStatus (l : Lane) (c : DmaC) : Lane × DmaC :=
  let w5 := dw c.act 5 / 16 * 16 + 1
  let c1 := { c with act := c.act.set 5 w5 }
  if !dWb c.act then (l, c)
  else match c.desc with
    | some (0, a) => ({ l with dram := putBytes l.dram (a - 0x1000000000 + 20) 4 w5 }, c1)
    | some (_, a) => ({ l with dma := { l.dma with posted := l.dma.posted ++ [(a + 20, leBytes 4 w5)] } }, c1)
    | none => (l, c1)

/-- All bytes of the descriptor are moved: write-back, events, and the run goes on, halts at CHAIN_LIMIT or ends (R423,
R426). -/
def Lane.dmaComplete (l : Lane) (n : Nat) : Lane :=
  let x := l.dmaStatus (l.dmaC n)
  let c := x.2
  let l1 := if dIrq c.act then x.1.ev (dmaPage n) 0 else x.1
  let done := l1.get (F.DMA_CH_RUN.DESCS n) + 1
  let l2 := (l1.set (F.DMA_CH_RUN.DESCS n) done).setDma c (l.dmaSt n)
  if dLast c.act then l2.dmaEnd n
  else if l2.get (F.DMA_CH_CFG.CHAIN_LIMIT n) ≤ done then l2.dmaHalt { c with next := some (dNspace c.act, dNext c.act) } 5 0 2 (dNext c.act)
  else l2.setDma { c with next := some (dNspace c.act, dNext c.act) } (l.dmaSt n)

/-- DESC_DONE: what is left of the descriptor in service is moved, and it completes; a FIFO source moves what it has. -/
def Lane.descDone (l : Lane) (n : Nat) (host : List Nat) (now : Nat) : Lane :=
  let c := l.dmaC n
  if (l.dmaSt n ≠ 1 ∧ l.dmaSt n ≠ 2) ∨ c.next.isSome = true then l
  else
    let l1 := if dSspace c.act = 2 then dmaWords n now (dLen c.act / 16) l else l.dmaMove n (dLen c.act) host now
    if dLen c.act ≤ (l1.dmaC n).moved then l1.dmaComplete n else l1

/-- DMA_FIFO_DATA: a channel that waits takes a read word and continues (R421). -/
def Lane.dmaFifoData (l : Lane) (n now : Nat) : Lane := if l.dmaSt n = 2 then l.dmaWord n now else l

/-- DESCRIPTOR_FETCH: the next descriptor of the chain is fetched from lane DRAM, or is what the host memory gives, and
checked (R423). -/
def Lane.descFetch (l : Lane) (n : Nat) (host : List Nat) : Lane :=
  let c := l.dmaC n
  match c.next with
  | none => l
  | some (sp, a) =>
    if l.dmaSt n ≠ 1 then l
    else
      let c1 (ws : List Nat) : DmaC := { c with act := ws, moved := 0, desc := some (sp, a), next := none }
      if sp = 0 then
        if inDram a 32 then l.dmaBegin (c1 ((List.range 8).map (fun k => bytesAt l.dram (a - 0x1000000000 + 4 * k) 4)))
        else l.dmaHalt { c with next := some (sp, a) } 4 0 2 a
      else if sp = 1 then l.dmaBegin (c1 ((List.range 8).map (fun k => leVal ((padTo 32 host).drop (4 * k) |>.take 4))))
      else l.dmaHalt { c with next := some (sp, a) } 4 0 2 a

/-! ### Halts, pause, resume, abort (R424, R425, R428) -/

/-- An access fails after `k` more bytes: the channel halts with a cause on a side (0 source, 1 destination, 2 fetch). -/
def Lane.dmaFail (l : Lane) (n k cause side : Nat) (host : List Nat) (now : Nat) : Lane :=
  if l.dmaSt n ≠ 1 ∧ l.dmaSt n ≠ 3 then l
  else
    let l1 := if dSspace (l.dmaC n).act = 2 then l else l.dmaMove n k host now
    let c := l1.dmaC n
    let addr := if side = 2 then (c.next.map Prod.snd).getD 0
      else if side = 0 then dSrc c.act + (if dSinc c.act then c.moved else 0) else dDst c.act + (if dDinc c.act then c.moved else 0)
    l1.dmaHalt c cause (if side = 1 then 1 else 0) side addr

/-- A write of PAUSE (R425). -/
def Lane.dmaPause (l : Lane) (n : Nat) (on : Bool) : Lane :=
  let l1 := l.setB (F.DMA_CH_CTRL.PAUSE n) on
  let st := l.dmaSt n
  if on then (if st = 1 ∨ st = 2 then l1.setDma (l1.dmaC n) 3 else l1)
  else if st = 3 ∨ st = 4 then l1.setDma (l1.dmaC n) 1 else l1

/-- PAUSED: reading stopped after `k` more bytes, the holding register is drained (R425). -/
def Lane.dmaPaused (l : Lane) (n k : Nat) (host : List Nat) (now : Nat) : Lane :=
  if l.dmaSt n ≠ 3 then l
  else
    let l1 := if dSspace (l.dmaC n).act = 2 then l else l.dmaMove n k host now
    (l1.setDma (l1.dmaC n) 4).ev (dmaPage n) 3

/-- RESUME restarts a halted run: the failed access is retried, or the descriptor refetched (R424). -/
def Lane.dmaResume (l : Lane) (n : Nat) : Lane :=
  let c := l.dmaC n
  if l.dmaSt n ≠ 5 then l
  else
    match l.get (F.DMA_CH_HALT.CAUSE n) with
    | 4 => match c.desc, c.next with
      | _, some _ => l.setDma c 1
      | some d, none => l.setDma { c with next := some d } 1
      | none, none => l.dmaBegin { c with act := l.shadow n, moved := 0 }
    | 5 => if l.get (F.DMA_CH_CFG.CHAIN_LIMIT n) ≤ l.get (F.DMA_CH_RUN.DESCS n) then l.dmaHalt c 5 0 2 ((c.next.map Prod.snd).getD 0)
      else l.setDma c 1
    | 6 => match c.desc with
      | some d => l.setDma { c with next := some d } 1
      | none => l.dmaBegin { c with act := l.shadow n, moved := 0 }
    | _ => l.setDma c 1

/-- ABORT ends the run and discards a pending shadow (R424). -/
def Lane.dmaAbort (l : Lane) (n : Nat) : Lane :=
  if l.dmaSt n = 0 then l else l.setDma { l.dmaC n with next := none, pend := none } 0

/-- The channels of a seat with a host side are aborted (R435). -/
def Lane.dmaUnbind (l : Lane) (seat : Nat) : Lane :=
  (List.range 64).foldl (fun m n =>
    let c := m.dmaC n
    if m.dmaSt n ≠ 0 ∧ m.get (F.DMA_CH_STAT.OWNER n) = seat ∧ (dSspace c.act = 1 ∨ dDspace c.act = 1) then m.dmaAbort n else m) l

/-- A write of DMA_CH_CFG: refused while the channel runs; CHAIN_LIMIT 0 reads back as 1. -/
def Lane.dmaCfg (l : Lane) (n : Nat) (w : Word) (source : Nat) : Lane :=
  if 1 ≤ l.dmaSt n ∧ l.dmaSt n ≤ 4 then l.err (dmaPage n) 0x40 source (Reg.DMA_CH_CFG n)
  else if bits w 31 16 = 0 then l.wr (Reg.DMA_CH_CFG n) (withBits w 31 16 1)
  else l.wr (Reg.DMA_CH_CFG n) w

end Sys2Proof.Machine
end

