-- ==== Sys2Proof/Machine/Sha.lean ====
section
/-! DEFINITION. SHA-256, HMAC-SHA-256 and HKDF-SHA-256 over byte lists, as FIPS 180-4, RFC 2104 and RFC 5869 give them
(R443 names them). -/

namespace Sys2Proof.Machine.Sha

/-- The largest `r` below `2 ^ b` above the part already found with `r ^ e` at most `n`: a root, found bit by bit. -/
def rootFrom (e n : Nat) : Nat → Nat → Nat
  | 0, r => r
  | b + 1, r => rootFrom e n b (if (r + 2 ^ b) ^ e ≤ n then r + 2 ^ b else r)

/-- The first 32 bits of the fraction of the `e`-th root of `p` (FIPS 180-4 takes its constants so). -/
def fraction (e p : Nat) : Nat := rootFrom e (p * 2 ^ (32 * e)) 37 0 % 2 ^ 32

/-- The primes below 312: the first 64. -/
def primes : List Nat :=
  (List.range 312).filter (fun n => decide (2 ≤ n) && [2, 3, 5, 7, 11, 13, 17].all (fun d => decide (n ≤ d) || n % d != 0))

/-- The round constants (cube roots) and the initial hash value (square roots). -/
def roundConsts : List Nat := primes.map (fraction 3)
def initial : List Nat := (primes.take 8).map (fraction 2)

/-- Rotation right of a 32-bit word. -/
def rotr (n x : Nat) : Nat := (x / 2 ^ n) ||| (x * 2 ^ (32 - n) % 2 ^ 32)

def bs0 (x : Nat) : Nat := rotr 2 x ^^^ rotr 13 x ^^^ rotr 22 x
def bs1 (x : Nat) : Nat := rotr 6 x ^^^ rotr 11 x ^^^ rotr 25 x
def ss0 (x : Nat) : Nat := rotr 7 x ^^^ rotr 18 x ^^^ (x / 2 ^ 3)
def ss1 (x : Nat) : Nat := rotr 17 x ^^^ rotr 19 x ^^^ (x / 2 ^ 10)

/-- A big-endian number of bytes, and the `n` big-endian bytes of a number. -/
def beVal (bs : List Nat) : Nat := bs.foldl (fun a b => a * 256 + b % 256) 0
def beBytes : Nat → Nat → List Nat
  | 0, _ => []
  | n + 1, v => v / 256 ^ n % 256 :: beBytes n v

/-- The words of a block. -/
def blockWords (bs : List Nat) : List Nat := (List.range 16).map (fun i => beVal ((bs.drop (4 * i)).take 4))

/-- Extend the message schedule, newest word first. -/
def schedule : Nat → List Nat → List Nat
  | 0, w => w
  | n + 1, w => schedule n (((ss1 (w.getD 1 0) + w.getD 6 0 + ss0 (w.getD 14 0) + w.getD 15 0) % 2 ^ 32) :: w)

/-- One round on the eight working variables. -/
def round (v : List Nat) (kw : Nat × Nat) : List Nat :=
  match v with
  | [a, b, c, d, e, f, g, h] =>
    let t1 := h + bs1 e + ((e &&& f) ^^^ ((2 ^ 32 - 1 - e) &&& g)) + kw.1 + kw.2
    let t2 := bs0 a + ((a &&& b) ^^^ (a &&& c) ^^^ (b &&& c))
    [(t1 + t2) % 2 ^ 32, a, b, c, (d + t1) % 2 ^ 32, e, f, g]
  | v => v

/-- The compression of one block. -/
def compress (h bs : List Nat) : List Nat :=
  let w := (schedule 48 (blockWords bs).reverse).reverse
  let v := (roundConsts.zip w).foldl round h
  (h.zip v).map (fun x => (x.1 + x.2) % 2 ^ 32)

/-- Compression of `n` blocks. -/
def blocks : Nat → List Nat → List Nat → List Nat
  | 0, h, _ => h
  | n + 1, h, bs => blocks n (compress h (bs.take 64)) (bs.drop 64)

/-- SHA-256. -/
def hash (m : List Nat) : List Nat :=
  let z := (119 - m.length % 64) % 64
  let p := m ++ 0x80 :: List.replicate z 0 ++ beBytes 8 (8 * m.length)
  ((blocks (p.length / 64) initial p).map (beBytes 4)).flatten

/-- HMAC-SHA-256. -/
def hmac (key m : List Nat) : List Nat :=
  let k := if 64 < key.length then hash key else key
  let k := k ++ List.replicate (64 - k.length) 0
  hash (k.map (fun b => b ^^^ 0x5C) ++ hash (k.map (fun b => b ^^^ 0x36) ++ m))

/-- HKDF-SHA-256 with an output of 32 bytes. -/
def hkdf32 (ikm salt info : List Nat) : List Nat := hmac (hmac salt ikm) (info ++ [1])

end Sys2Proof.Machine.Sha
end

