-- ==== Sys2Proof/Machine/HapOut.lean ====
section
/-! DEFINITION. What a host-link block sends over HAP (R439, R443, R445): datagrams, and the event datagram of a delivery. -/

namespace Sys2Proof.Machine

/-- The session of a seat. -/
def Lane.sess (l : Lane) (q : Nat) : Option Sess := l.car.hap.sess.find? (fun s => s.seat == q)

/-- What a lane keeps of a seat's session. -/
def Lane.hapL (l : Lane) (q : Nat) : HapL := (l.host.hap.find? (fun h => h.seat == q)).getD ⟨q, none, [], 0, 0, []⟩

/-- A HAP datagram: header, body and TAG under a key (R439, R443). -/
def hapBytes (ty flags seat status session seq nops cycle : Nat) (body key : List Nat) : List Nat :=
  let m := [0x48, 0x50, 1, ty, flags, seat] ++ leBytes 2 status ++ leBytes 4 (session % 2 ^ 24) ++ leBytes 4 seq ++
    leBytes 2 nops ++ leBytes 2 body.length ++ leBytes 8 cycle ++ leBytes 4 0 ++ body
  m ++ (Sha.hmac key m).take 16

/-- Send a datagram from this lane's host-link block. -/
def Lane.hapSend (l : Lane) (ip port : Nat) (bs : List Nat) : Lane :=
  { l with host := { l.host with tx := l.host.tx ++ [(ip, port, bs)] } }

/-- A seat is bound over this lane's PCIe function. -/
def Lane.pcieSeat (l : Lane) (seat : Nat) : Bool := l.flag F.HOST_PCIE_STAT.BOUND && decide (l.get F.HOST_PCIE_CFG.SEAT = seat)

/-- A delivery of source `src` to a seat bound over HAP alone sends one EVENT datagram to where the session's latest valid datagram
came from: the source, IRQ_TGT_SUM of the target and the current cycle (R412, R445). SEQ, NOPS and CYCLE of its header are 0
(log entry 204). -/
def Lane.sendEvent (l : Lane) (target src sum : Nat) : Lane :=
  let q := target - 0x10
  if target < 0x10 ∨ 0x18 ≤ target ∨ l.pcieSeat q = true then l
  else match l.sess q with
    | none => l
    | some x =>
      let h := l.hapL q
      if h.port = 0 then l
      else l.hapSend h.ip h.port (hapBytes 0x03 0 q 0 x.num 0 0 0 (leBytes 4 src ++ leBytes 4 sum ++ leBytes 8 l.cycN) x.key)

end Sys2Proof.Machine
end

