-- ==== Sys2Proof/Machine/Irq.lean ====
section
/-! DEFINITION. The interrupt controller of a lane (R409–R417). -/

namespace Sys2Proof.Machine

/-- Register page of the controller. -/
def irqPage : Nat := 0xA00

/-- First pages of the instances of a block. -/
def Blk.instances (b : Blk) : List Nat := (List.range (b.pages / b.per)).map (fun k => b.page0 + k * b.per)

/-- First pages of all instances. -/
def allInsts : List Nat := (blocks.map Blk.instances).flatten

/-- The source an instance drives now, if it drives one (R24, R409). -/
def Lane.drivesSrc (l : Lane) (p : Nat) : Option Nat :=
  let r := l.rd (Reg.EV_ROUTE p)
  let on := (l.rd (Reg.EV_PEND p)).toNat &&& (2 ^ 32 - 1 - (l.rd (Reg.EV_MASK p)).toNat)
  if bits r 16 16 = 1 ∧ on ≠ 0 then some (bits r 9 0) else none

/-- The sources whose level is 1: the OR over the instances that name them. -/
def Lane.levels (l : Lane) : List Nat := allInsts.filterMap l.drivesSrc

/-- A bit of an array of 32-bit registers. -/
def Lane.srcBit (l : Lane) (base s : Nat) : Bool := (l.rd (base + 4 * (s / 32))).toNat.testBit (s % 32)

/-- Set or clear a bit of an array of 32-bit registers. -/
def Lane.putBit (l : Lane) (base s : Nat) (b : Bool) : Lane := l.setB ⟨base + 4 * (s / 32), s % 32, s % 32⟩ b

/-- Pending bit, mask and route of a source. -/
def Lane.irqPend (l : Lane) (s : Nat) : Bool := l.srcBit (Reg.IRQ_PEND 0) s
def Lane.irqMasked (l : Lane) (s : Nat) : Bool := l.srcBit (Reg.IRQ_MASK 0) s

/-- IRQ_TGT_SUM of a target: the words with a pending, unmasked source routed to it (R411). -/
def Lane.tgtSum (l : Lane) (t : Nat) : Nat :=
  ((List.range 32).map (fun w =>
    if (List.range 32).any (fun j => l.irqPend (32 * w + j) && !l.irqMasked (32 * w + j) && decide (l.get (F.IRQ_ROUTE.TARGET (32 * w + j)) = t))
    then 2 ^ w else 0)).sum

/-- A target is awake (R415): a core that is not paused (log entry 49); a bound seat, over PCIe with its function in D0. -/
def Lane.awake (l : Lane) (t : Nat) : Bool :=
  if t < 0x10 then decide (l.get (F.WORK_CORE_STAT.STATE t) ≠ 0)
  else if t < 0x18 then
    l.flag (F.SEAT_STAT.BOUND (t - 0x10)) && (!l.pcieSeat (t - 0x10) || decide (l.get F.HOST_PCIE_STAT.DSTATE = 0))
  else false

/-- Change the controller's hidden state, and show the wake requests and the undelivered sources. -/
def Lane.withIrq (l : Lane) (f : IrqH → IrqH) : Lane :=
  let l1 : Lane := { l with irq := f l.irq }
  let l2 := l1.set F.IRQ_STAT.UNDELIVERED l1.irq.undeliv.length
  (List.range 32).foldl (fun m t => m.setB (F.IRQ_TGT_STAT.WAKE_PEND t) (m.irq.wakes.any (fun w => w.1 == t))) l2

/-- The delivery itself. -/
def Lane.emit (l : Lane) (s t : Nat) : Lane :=
  (l.sendEvent t s (l.tgtSum t)).withIrq (fun h => { h with out := h.out ++ [⟨t, s, l.get (F.IRQ_ROUTE.VEC s), l.tgtSum t, l.cycN, l.dma.posted.length⟩] })

/-- A delivery waits for a sleeping target, which is sent a wake request. -/
def Lane.waitFor (l : Lane) (w : Wait) : Lane :=
  l.withIrq (fun h => { h with
    waits := h.waits ++ [w]
    wakes := if h.wakes.any (fun x => x.1 == w.target) then h.wakes else h.wakes ++ [(w.target, w.since)] })

/-- A source is delivered once to its target, which is sent a wake request if it sleeps (R413, R415). -/
def Lane.deliver (l : Lane) (s now : Nat) : Lane :=
  let t := l.get (F.IRQ_ROUTE.TARGET s)
  let l0 := l.withIrq (fun h => { h with undeliv := h.undeliv.filter (fun x => x != s), waits := h.waits.filter (fun w => w.source != s) })
  if t = 0x1F then l0
  else if l.awake t then l0.emit s t
  else l0.waitFor ⟨s, t, now, false⟩

/-- Two ticks lie in one CLK_REG cycle. -/
def sameCycle (t now : Nat) : Bool := decide (t / 2 = now / 2)

/-- The pending bit of a source rises, and is delivered if the source is not masked. -/
def Lane.irqRise (l : Lane) (s now : Nat) : Lane :=
  let l0 : Lane := { l with irq := { l.irq with rose := l.irq.rose.filter (fun x => sameCycle x.2 now && x.1 != s) ++ [(s, now)] } }
  let l1 := l0.putBit (Reg.IRQ_PEND 0) s true
  if l1.irqMasked s then l1 else l1.deliver s now

/-- The controller samples the level of a source in a CLK_REG cycle (R410). -/
def Lane.irqSample (l : Lane) (s : Nat) (level : Bool) (now : Nat) : Lane :=
  let was := l.irq.level.contains s
  let l1 : Lane := { l with irq := { l.irq with level := (if level then [s] else []) ++ l.irq.level.filter (fun x => x != s) } }
  if level && !was then (if l1.irqPend s then l1.putBit (Reg.IRQ_LOST 0) s true else l1.irqRise s now) else l1

/-- The controller samples every source that is driven or was. -/
def Lane.irqSampleAll (l : Lane) (now : Nat) : Lane :=
  let up := l.levels
  (up ++ l.irq.level).foldl (fun m s => m.irqSample s (up.contains s) now) l

/-- Levels that have fallen are seen as 0. -/
def Lane.irqFalls (l : Lane) : Lane :=
  let up := l.levels
  { l with irq := { l.irq with level := l.irq.level.filter (fun s => up.contains s) } }

/-- A write of IRQ_SET sets pending bits as if the sources had fired (R410). -/
def Lane.irqSet (l : Lane) (w : Nat) (v : Word) (now : Nat) : Lane :=
  (List.range 32).foldl (fun m j => if v.toNat.testBit j && !m.irqPend (32 * w + j) then m.irqRise (32 * w + j) now else m) l

/-- A W1C write of IRQ_PEND: a bit whose level is still 1 sets again at once (R410, R415). -/
def Lane.irqClear (l : Lane) (w : Nat) (v : Word) (now : Nat) : Lane :=
  let up := l.levels
  (List.range 32).foldl (fun m j =>
    let s := 32 * w + j
    if v.toNat.testBit j && m.irqPend s then
      let m1 := (m.putBit (Reg.IRQ_PEND 0) s false).withIrq (fun h =>
        { h with waits := h.waits.filter (fun x => x.source != s), undeliv := h.undeliv.filter (fun x => x != s) })
      if up.contains s then m1.irqRise s now else m1
    else m) l

/-- A write of IRQ_MASK: a pending source whose mask is cleared is delivered (R413). -/
def Lane.irqMask (l : Lane) (w : Nat) (v : Word) (now : Nat) : Lane :=
  let l1 := l.wr (Reg.IRQ_MASK w) v
  (List.range 32).foldl (fun m j =>
    let s := 32 * w + j
    if l.irqMasked s && !v.toNat.testBit j && m.irqPend s then m.deliver s now else m) l1

/-- A target code that a seat may not write: a core or a reserved code (R412). -/
def codeRefused (t : Nat) : Bool := decide (t < 0x10 ∨ (0x18 ≤ t ∧ t ≠ 0x1F))

/-- A route write in the CLK_REG cycle in which the source's pending bit rose: the rise is not delivered by the old route (R413). -/
def Lane.irqRetract (l : Lane) (s now : Nat) : Lane :=
  if l.irq.rose.any (fun x => x.1 == s && sameCycle x.2 now) then
    let t := l.get (F.IRQ_ROUTE.TARGET s)
    l.withIrq (fun h =>
      let ws := h.waits.filter (fun w => w.source != s)
      { h with
        out := h.out.filter (fun d => d.source != s)
        waits := ws
        wakes := h.wakes.filter (fun x => !(x.1 == t && sameCycle x.2 now && !ws.any (fun w => w.target == t))) })
  else l

/-- A write of IRQ_ROUTE: refused for core and reserved codes and for routes to a core; a changed target of a pending,
unmasked source is delivered to (R412, R413). -/
def Lane.irqRoute (l : Lane) (s : Nat) (v : Word) (source now : Nat) : Lane :=
  let old := l.get (F.IRQ_ROUTE.TARGET s)
  let t := bits v 12 8
  if codeRefused t ∨ codeRefused (bits v 20 16) ∨ old < 0x10 then l.err irqPage 0x40 source (Reg.IRQ_ROUTE s)
  else
    let go : Bool := decide (t ≠ old) && l.irqPend s && !l.irqMasked s
    let l1 := (if go then l.irqRetract s now else l).wr (Reg.IRQ_ROUTE s) v
    if go then l1.deliver s now else l1

/-- A target has woken: it receives the deliveries that wait for it (R415, R416). -/
def Lane.irqWoken (l : Lane) (t : Nat) : Lane :=
  let mine := l.irq.waits.filter (fun w => w.target == t)
  mine.foldl (fun m w => m.emit w.source t) (l.withIrq (fun h => { h with
    waits := h.waits.filter (fun w => w.target != t), wakes := h.wakes.filter (fun x => x.1 != t) }))

/-- Targets asked to wake that are awake have woken: a seat that was bound, a core that runs (R415, R416). -/
def Lane.irqAwake (l : Lane) : Lane := l.irq.wakes.foldl (fun m x => if m.awake x.1 then m.irqWoken x.1 else m) l

/-- A core leaves its low-power wait, or a PCIe function returns to D0: TARGET_WAKE (R415). -/
def Lane.targetWake (l : Lane) (t : Nat) : Lane :=
  if t < 0x10 then l.irqWoken t
  else
    let l1 := if t < 0x18 ∧ l.pcieSeat (t - 0x10) = true then l.set F.HOST_PCIE_STAT.DSTATE 0 else l
    if l1.awake t then l1.irqWoken t else l1

/-- A target is not awake 50 µs after the wake request: its deliveries go to FALLBACK (R415). -/
def Lane.wakeTimeout (l : Lane) (t now : Nat) : Lane :=
  if l.awake t then l.irqWoken t
  else
    let late := l.irq.waits.filter (fun w => decide (w.target = t ∧ w.fallback = false ∧ w.since + 20000 ≤ now))
    late.foldl (fun m w =>
      let f := m.get (F.IRQ_ROUTE.FALLBACK w.source)
      let m1 := m.withIrq (fun h => { h with waits := h.waits.filter (fun x => !(x == w)) })
      if f = 0x1F then (m1.withIrq (fun h => { h with undeliv := h.undeliv ++ [w.source] })).ev irqPage 1
      else
        let m2 := (m1.cnt F.IRQ_STAT.FALLBACKS 1).ev irqPage 0
        if m2.awake f then m2.emit w.source f else m2.waitFor ⟨w.source, f, now, true⟩) l

end Sys2Proof.Machine
end

