-- ==== Sys2Proof/Machine/Record.lean ====
section
/-! DEFINITION. Signal record (R371–R384): rows, the coder, punnets, the hold ring, the record port, the flash queue. -/

namespace Sys2Proof.Machine

/-- First page of the recorder and log block. -/
def recPage : Nat := 0x880
/-- Punnet slots of the hold ring (R378). -/
def holdSlots : Nat := 6029312
/-- Punnets of the flash queue, 1 GiB (R378). -/
def queueSlots : Nat := 262144
/-- Punnets of the record store, 640 GiB (R383). -/
def storeSlots : Nat := 167772160

/-! ### Columns (R371, R377) -/

/-- Column widths of a set: 16 or 32 bits for a signal; MIN, MAX, MEAN and NV for a signal of a reduction; 16 words for
a wafer-context record before the snapshot. -/
def sigWidth (x : RecSig) : Nat :=
  match x with | .ai _ => 32 | .img _ n => if n = 4 then 32 else 16 | .win _ => 32 | .fi _ => 16

/-- The columns of a set. -/
def setWidths (s : SetImg) : List Nat :=
  match s.kind with
  | 2 => (s.sigs.map (fun x => [sigWidth x, sigWidth x, sigWidth x, 16])).flatten
  | 3 => List.replicate 16 32 ++ s.sigs.map sigWidth
  | _ => s.sigs.map sigWidth

/-- `n` bits of a number, most significant first. -/
def bitsMsb : Nat → Nat → List Bool
  | 0, _ => []
  | n + 1, v => v.testBit n :: bitsMsb n v

/-- u_i of a difference: zigzag of the wrapped signed `w`-bit value (R377). -/
def zigzag (w : Nat) (d : Int) : Nat :=
  let r := signed w (twos w d)
  if r < 0 then ((-r) * 2 - 1).toNat else (r * 2).toNat

/-- The bits of one u_i under `k` (R377). -/
def riceBits (w k u : Nat) : List Bool :=
  let q := u / 2 ^ k
  if q < 16 then List.replicate q true ++ false :: bitsMsb k u else List.replicate 16 true ++ bitsMsb w u

/-- Number of bits of one u_i under `k`. -/
def riceLen (w k u : Nat) : Nat := if u / 2 ^ k < 16 then u / 2 ^ k + 1 + k else 16 + w

/-- The smallest `k` below `w` that gives the fewest bits for a group. -/
def bestK (w : Nat) (us : List Nat) : Nat :=
  ((List.range w).foldl (fun (b : Nat × Nat) k =>
    let n := (us.map (riceLen w k)).sum
    if n < b.2 then (k, n) else b) (0, (us.map (riceLen w 0)).sum)).1

/-- The groups of a column, with fuel. -/
def codeGroups (w : Nat) : Nat → List Nat → List Bool
  | 0, _ => []
  | n + 1, us =>
    if us = [] then []
    else
      let g := us.take 16
      let k := bestK w g
      bitsMsb 5 k ++ (g.map (riceBits w k)).flatten ++ codeGroups w n (us.drop 16)

/-- Differences of neighbours. -/
def deltas (w : Nat) : List Nat → List Nat
  | x :: y :: t => zigzag w ((y : Int) - (x : Int)) :: deltas w (y :: t)
  | _ => []

/-- A column (R377). -/
def codeColumn (w : Nat) (xs : List Nat) : List Bool :=
  match xs with
  | [] => []
  | x :: _ => bitsMsb w x ++ codeGroups w xs.length (deltas w xs)

/-- Rows coded column by column. -/
def codeRows (widths : List Nat) (rows : List (List Nat)) : List Bool :=
  ((List.range widths.length).map (fun j => codeColumn (widths.getD j 16) (rows.map (fun r => r.getD j 0)))).flatten

/-- Bits packed into bytes, MSB first, the last padded with zeros. -/
def packBits : Nat → List Bool → List Nat
  | 0, _ => []
  | n + 1, bs =>
    if bs = [] then [] else (bs.take 8 ++ List.replicate (8 - (bs.take 8).length) false).foldl (fun a b => 2 * a + b2n b) 0 :: packBits n (bs.drop 8)

/-- The coded bytes of rows. -/
def codeBytes (widths : List Nat) (rows : List (List Nat)) : List Nat :=
  let bs := codeRows widths rows
  packBits (bs.length / 8 + 1) bs

/-! ### Punnets (R374, R375) -/

/-- The bytes of a punnet. -/
def punnetBytes (im : ImageSet) (s : SetImg) (p : OpenP) (pseq : Nat) (joinCut : Bool) : List Nat :=
  let first := p.rows.head?
  let wfEnd := ((p.wfs.getLast?).map (fun w => w.row + w.rows)).getD 0
  let row := (first.map Row.row).getD wfEnd
  let flags := s.kind + (if joinCut then 4 else 0) + (if p.rows.any Row.chg then 8 else 0) + (if p.resumed then 16 else 0) +
    (if s.kind = 1 then (first.map Row.src).getD 0 * 128 else 0)
  let head := leBytes 8 pseq ++ leBytes 8 row ++ leBytes 8 ((first.map Row.time).getD 0) ++
    leBytes 4 (im.recSeal % 2 ^ 20 * 4096 + s.num) ++ leBytes 2 p.rows.length ++ [p.wfs.length, flags]
  let wfs := (p.wfs.map (fun w => leBytes 8 w.row ++ leBytes 4 w.rows ++ [w.cause, 0, 0, 0])).flatten
  let body := padTo 4092 (head ++ wfs ++ codeBytes (setWidths s) (p.rows.map Row.vals))
  body ++ leBytes 4 (crc32c body)

/-- The rows fit the payload of a punnet with `nwf` windfall entries. -/
def rowsFit (s : SetImg) (rows : List (List Nat)) (nwf : Nat) : Bool :=
  decide (rows.length ≤ 65535 ∧ (codeRows (setWidths s) rows).length ≤ 8 * (4060 - 16 * nwf))

/-- The sets of the running map, in ascending set number. -/
def Lane.recMap (l : Lane) : List SetImg := sortBy SetImg.num ((l.image.map ImageSet.recSets).getD [])

/-- A set of the running map. -/
def Lane.recSet (l : Lane) (n : Nat) : Option SetImg := l.image.bind (fun im => im.recSets.find? (fun s => s.num == n))

/-- The open punnet of a set. -/
def Lane.openP (l : Lane) (n : Nat) : OpenP := (l.recd.opens.find? (fun p => p.set == n)).getD ⟨n, [], [], false, none⟩

/-- Replace the recorder's hidden state. -/
def Lane.withRec (l : Lane) (f : RecH → RecH) : Lane := { l with recd := f l.recd }

/-- Show the counters in the registers. -/
def Lane.recShow (l : Lane) : Lane :=
  let l1 := (l.set64 Reg.REC_PSEQ_LO Reg.REC_PSEQ_HI l.recd.cnt.pseq).set64 Reg.REC_HOLD_OLD_LO Reg.REC_HOLD_OLD_HI
    (l.recd.cnt.pseq - holdSlots)
  let l2 := (l1.set F.REC_FLASH_STAT.QUEUE_MIB (l.recd.flashQ.length / 256)).setB F.REC_FLASH_STAT.GRANTED (l.granted 4 0 || l.granted 5 0)
  match l.recd.store.head? with
  | some x => l2.set64 Reg.REC_FLASH_OLD_LO Reg.REC_FLASH_OLD_HI x.1
  | none => l2

/-- A reduction or wafer punnet enters the flash queue, or meets a full one and is stated (R378, R383). -/
def Lane.enqueueFlash (l : Lane) (p : OpenP) (pseq : Nat) (bs : List Nat) (now : Nat) : Lane :=
  if queueSlots ≤ l.recd.flashQ.length then
    (((l.cnt F.REC_FLASH_SKIP.PUNNETS 1).ev recPage 3).log1 0x88 0 0x010D
      [(4, p.set), (8, ((p.rows.head?).map Row.row).getD 0), (4, p.rows.length)])
  else
    let slot := l.recd.queued % queueSlots
    let l1 := { l with dram := putList l.dram (0x5C0000000 + 4096 * slot) bs }
    let l2 := l1.withRec (fun h => { h with flashQ := h.flashQ ++ [(pseq, slot)], queued := h.queued + 1 })
    if l2.granted 4 0 || l2.granted 5 0 || l2.asking 4 0 || l2.asking 5 0 then l2 else l2.ledgerAsk 4 (classQuanta 4) (2 ^ 48) 0 now

/-- Close the open punnet of a set, if it holds anything: PSEQ, the hold ring, the flash queue (R374, R378). -/
def Lane.closeP (l : Lane) (n : Nat) (joinCut : Bool) (now : Nat) : Lane :=
  let p := l.openP n
  match l.image, l.recSet n with
  | some im, some s =>
    if p.rows = [] ∧ p.wfs = [] then l
    else
      let q := l.recd.cnt.pseq
      let bs := punnetBytes im s p q joinCut
      let l1 : Lane := { l with dram := putList l.dram (4096 * (q % holdSlots)) bs }
      let last := ((p.rows.getLast?).map (fun r => r.row + 1)).getD (((p.wfs.getLast?).map (fun w => w.row + w.rows)).getD 0)
      let l2 := l1.withRec (fun h =>
        { h with
            cnt := { h.cnt with pseq := q + 1 }, opens := h.opens.filter (fun x => x.set != n), closed := setRing h.closed n last })
      let l3 := if s.kind = 2 ∨ s.kind = 3 then l2.enqueueFlash p q bs now else l2
      l3.recShow
  | _, _ => l

/-- Close every open punnet, in ascending set number. -/
def Lane.closeAll (l : Lane) (joinCut : Bool) (now : Nat) : Lane :=
  (sortBy id (l.recd.opens.map OpenP.set)).foldl (fun m n => m.closeP n joinCut now) l

/-- Rows that are not recorded, to be stated before the rows that follow (R375). -/
def Lane.miss (l : Lane) (n row rows cause : Nat) : Lane :=
  if rows = 0 then l
  else
    l.withRec (fun h =>
      match (h.gaps.filter (fun g => g.1 == n)).getLast? with
      | some g =>
        if g.2.cause = cause ∧ g.2.row + g.2.rows = row then
          { h with gaps := (h.gaps.filter (fun x => !(x == g))) ++ [(n, ⟨g.2.row, g.2.rows + rows, cause⟩)] }
        else { h with gaps := h.gaps ++ [(n, ⟨row, rows, cause⟩)] }
      | none => { h with gaps := h.gaps ++ [(n, ⟨row, rows, cause⟩)] })

/-- State gaps of a set in its punnet, which holds no rows yet; more than 15 entries go on in further punnets (R375). -/
def stateGaps (n now : Nat) : List WF → Lane → Lane
  | [], l => l
  | w :: t, l =>
    let l0 := if 15 ≤ (l.openP n).wfs.length then l.closeP n false now else l
    let p := l0.openP n
    let l1 := ((l0.cnt F.REC_WF_ROWS.ROWS w.rows).ev recPage 0).withRec (fun h =>
      { h with opens := upsert OpenP.set { p with wfs := p.wfs ++ [w], resumed := p.resumed || h.resume.contains n } h.opens, resume := h.resume.filter (fun x => x != n) })
    stateGaps n now t l1

/-- Record a row: gaps first, in a punnet of their own beginning, and where there are more than 15, in punnets with COUNT 0 (R375);
a new punnet when the row does not fit (R377). -/
def Lane.addRow (l : Lane) (s : SetImg) (r : Row) (now : Nat) : Lane :=
  let n := s.num
  let gaps := (l.recd.gaps.filter (fun g => g.1 == n)).map Prod.snd
  let l1 :=
    if gaps = [] then l
    else
      let l0 := if (l.openP n).rows = [] then l else l.closeP n false now
      let m := stateGaps n now gaps (l0.withRec (fun h => { h with gaps := h.gaps.filter (fun g => g.1 != n) }))
      if 15 < gaps.length then m.closeP n false now else m
  let p := l1.openP n
  let l2 := if p.rows = [] ∨ rowsFit s ((p.rows ++ [r]).map Row.vals) p.wfs.length then l1 else l1.closeP n false now
  let q := l2.openP n
  l2.withRec (fun h =>
    { h with opens := upsert OpenP.set { q with since := some (q.since.getD r.time), rows := q.rows ++ [r], resumed := q.resumed || h.resume.contains n } h.opens, resume := h.resume.filter (fun x => x != n) })

/-! ### Rows of a cycle (R371, R372, R376, R382) -/

/-- The value of a signal: at compute completion, or a fast code. -/
def Lane.sigVal (l : Lane) (codes : List (Nat × Int)) : RecSig → Nat
  | .ai ch => (l.rd (Reg.AIN_VAL ch)).toNat
  | .img o n => l.img o (if n = 4 then 4 else 2)
  | .win a => (l.win a).toNat
  | .fi ch => twos 16 (((codes.find? (fun x => x.1 == ch)).map Prod.snd).getD (-32768))

/-- Rows advance: the next row number of a set, and the set with `k` rows more. -/
def Lane.rowNo (l : Lane) (n : Nat) : Nat := perRing l.recd.cnt.rows n
def Lane.advance (l : Lane) (n k : Nat) : Lane :=
  l.withRec (fun h => { h with cnt := { h.cnt with rows := setRing h.cnt.rows n (perRing h.cnt.rows n + k) } })

/-- What a reduction uses of a value: the signed value, if it is valid (R382). -/
def redVal (x : RecSig) (v : Nat) : Option Int :=
  match x with
  | .ai _ => if v / 2 ^ 30 % 4 = 0 then some (signed 24 v) else none
  | .fi _ => if v = 0x8000 then none else some (signed 16 v)
  | _ => some (signed (sigWidth x) v)

/-- A row of a source set enters the windows of the reduction sets over it. -/
def Lane.reduce (l : Lane) (src : SetImg) (t : Nat) (vals : List Nat) : Lane :=
  let sets := l.recMap.filter (fun s => decide (s.kind = 2 ∧ s.src = src.num))
  sets.foldl (fun m s =>
    let w := (m.recd.redw.find? (fun w => w.set == s.num && w.m == t / 100000000)).getD
      ⟨s.num, t / 100000000, List.replicate src.sigs.length (0, 0, 0, 0)⟩
    let sg := (List.range src.sigs.length).map (fun j =>
      let a := w.sigs.getD j (0, 0, 0, 0)
      match redVal (src.sigs.getD j (.img 0 2)) (vals.getD j 0) with
      | some v => if a.2.2.2 = 0 then (v, v, v, 1) else (min a.1 v, max a.2.1 v, a.2.2.1 + v, a.2.2.2 + 1)
      | none => a)
    m.withRec (fun h => { h with redw := h.redw.filter (fun x => !(x.set == s.num && x.m == t / 100000000)) ++ [{ w with sigs := sg }] })) l

/-- The values of a reduction row. -/
def RedW.vals (w : RedW) : List Nat :=
  (w.sigs.map (fun a => [twos 32 a.1, twos 32 a.2.1, if a.2.2.2 = 0 then 0 else twos 32 (Int.fdiv a.2.2.1 a.2.2.2), a.2.2.2 % 2 ^ 16])).flatten

/-- Why rows of this cycle are not recorded, if they are not: a halt, recording disabled. -/
def Lane.recStop (l : Lane) : Option Nat :=
  if l.recd.halted then some 2 else if l.flag F.REC_CTRL.EN then none else some 4

/-- The recorder records: from S3 on, in a lane that drives (R73, R379). -/
def Lane.recording (l : Lane) : Bool := decide (3 ≤ l.stage) && l.drives

/-- Code the rows of a set within the credit, or drop them all (R376). -/
def Lane.codeSet (l : Lane) (s : SetImg) (rows : List Row) (now : Nat) : Lane :=
  let first := l.rowNo s.num
  let l1 := l.advance s.num rows.length
  if rows = [] then l
  else if !l.recording then l1
  else
    match l.recStop with
    | some cause => l1.miss s.num first rows.length cause
    | none =>
      let cost := (codeBytes (setWidths s) (rows.map Row.vals)).length
      if l1.recd.cnt.credit < cost then l1.miss s.num first rows.length 1
      else
        rows.foldl (fun m r => m.addRow s r now)
          (l1.withRec (fun h => { h with cnt := { h.cnt with credit := h.cnt.credit - cost }, mbs := (h.mbs.1 + cost, h.mbs.2) }))

/-- The 16 words of a wafer-context record (R236). -/
def WaferRec.words (r : WaferRec) : List Nat :=
  let two (v : Nat) : List Nat := [v % 2 ^ 32, v / 2 ^ 32 % 2 ^ 32]
  two r.cyc ++ two r.tApply ++ two r.wafer ++ [r.lot % 2 ^ 32, r.slotFlags % 2 ^ 32,
    r.chan % 256 + r.cause % 256 * 2 ^ 8 + r.step % 2 ^ 16 * 2 ^ 16, r.src % 2 ^ 16 + r.entry % 2 ^ 16 * 2 ^ 16] ++
    two r.evidence ++ [r.subns % 256 + r.state % 256 * 256, 0, 0, 0]

/-- The rows of a fast set of the samples of a period, numbered from `row`: instants t_N + 50 D k (R371, R373). -/
def fastRows (s : SetImg) (l : Lane) (tN : Nat) : Nat → List (Nat × Nat × List (Nat × Int)) → Nat → List Row
  | _, [], _ => []
  | row, x :: t, src =>
    if x.1 % max s.div 1 = 0 then
      ⟨row, tN + 50 * x.1, s.sigs.map (l.sigVal x.2.2), x.2.1, decide (x.2.1 ≠ src ∧ l.get F.PAIR_PRIM.CAUSE ≠ 2)⟩ :: fastRows s l tN (row + 1) t x.2.1
    else fastRows s l tN row t src

/-- Code the fast rows of the period from t_N (log entry 36). -/
def Lane.codeFast (l : Lane) (tN now : Nat) : Lane :=
  let sets := l.recMap.filter (fun s => decide (s.kind = 1))
  let xs := l.recd.fast
  let l1 := sets.foldl (fun m s =>
    let rows := fastRows s m tN (m.rowNo s.num) xs m.recd.src
    let m1 := rows.foldl (fun k r => k.reduce s r.time r.vals) m
    m1.codeSet s rows now) l
  l1.withRec (fun h => { h with fast := [], src := ((xs.getLast?).map (fun x => x.2.1)).getD h.src })

/-- After compute completion of cycle `n` the coder codes its rows, set by set (R376): cycle sets, and wafer records of
apply cycles reached. -/
def Lane.codeCycle (l : Lane) (n now : Nat) : Lane :=
  let tN := l.tOf n
  let sets := l.recMap
  let due := l.car.wafers.filter (fun r => decide (r.cyc ≤ n))
  let l0 : Lane := { l with car := { l.car with wafers := l.car.wafers.filter (fun r => decide (n < r.cyc)) } }
  sets.foldl (fun m s =>
    match s.kind with
    | 0 =>
      if n % max s.div 1 = 0 then
        let v := s.sigs.map (m.sigVal [])
        (m.reduce s tN v).codeSet s [⟨m.rowNo s.num, tN, v, 0, false⟩] now
      else m
    | 3 =>
      let rs := due.filter (fun r => r.chan == s.src)
      m.codeSet s ((List.range rs.length).map (fun j => ⟨m.rowNo s.num + j, ((rs.drop j).head?.map WaferRec.tApply).getD 0,
        (((rs.drop j).head?).map WaferRec.words).getD [] ++ s.sigs.map (m.sigVal []), 0, false⟩)) now
    | _ => m) l0

/-- The windows of a set that have ended at the boundary t_N and have given no row: those that hold rows, and those, ended within
the last period, that hold none (R371, R382). -/
def Lane.endedWindows (l : Lane) (s : SetImg) (tN : Nat) : List RedW :=
  let held := l.recd.redw.filter (fun w => decide (w.set = s.num ∧ (w.m + 1) * 100000000 ≤ tN))
  let a := (tN - l.period) / 100000000
  let empty := ((List.range (tN / 100000000 - a)).map (fun k => a + k)).filter (fun m => !held.any (fun w => w.m == m))
  sortBy RedW.m (held ++ empty.map (fun m => ⟨s.num, m, List.replicate s.sigs.length (0, 0, 0, 0)⟩))

/-- At a boundary the windows that have ended give their reduction rows (R382). -/
def Lane.codeReductions (l : Lane) (tN now : Nat) : Lane :=
  (l.recMap.filter (fun s => decide (s.kind = 2))).foldl (fun m s =>
    (l.endedWindows s tN).foldl (fun k w => k.codeSet s [⟨k.rowNo s.num, w.m * 100000000, w.vals, 0, false⟩] now) m)
    (l.withRec (fun h => { h with redw := h.redw.filter (fun w => decide (tN < (w.m + 1) * 100000000)) }))

/-- The recorder at the boundary t_N: credit, fast rows of the period that ends, reductions, a halt closes the open
punnets, punnets open for CLOSE_MS close (R376, R377, R380). -/
def Lane.recBoundary (l : Lane) (tN : Nat) (halt : Bool) (now : Nat) : Lane :=
  let l1 := l.withRec (fun h => { h with cnt := { h.cnt with credit := min (h.cnt.credit + l.period) 4194304 } })
  let l2 := (l1.codeFast (tN - l.period) now).codeReductions tN now
  let l3 := if halt && !l2.recd.halted then l2.closeAll false now else l2
  let l4 := (l3.withRec (fun h => { h with halted := halt })).setB F.REC_STAT.HALTED halt
  let old := (l4.recd.opens.filter (fun p => decide (p.since.getD tN + l4.get F.REC_CTRL.CLOSE_MS * 1000000 ≤ tN))).map OpenP.set
  let l5 := (sortBy id old).foldl (fun m n => m.closeP n false now) l4
  if l5.recd.mbs.2 + 400000000 ≤ now then
    (l5.set F.REC_STAT.CODED_MBS (min (l5.recd.mbs.1 / 1000000) 65535)).withRec (fun h => { h with mbs := (0, now) })
  else l5

/-- A fast sample is taken for the fast rows of this period (R371, R373). -/
def Lane.fastRow (l : Lane) (src : Nat) (codes : List (Nat × Int)) : Lane :=
  let t := l.t64 - l.tOf l.cycN
  if l.running then l.withRec (fun h => { h with fast := h.fast ++ [(t / 50, src, codes)] }) else l

/-- Sets of a new map: a set of the same name and kind keeps its numbering, a new one starts at 0; open punnets close before
(R207, R372). A window of a reduction goes on where its signals are the same. -/
def Lane.recExchange (l : Lane) (new : ImageSet) (now : Nat) : Lane :=
  let old := (l.image.map ImageSet.recSets).getD []
  let l1 := l.closeAll false now
  let kept := new.recSets.filterMap (fun s => (old.find? (fun o => o.name == s.name && o.kind == s.kind)).map (fun o => (o, s)))
  let carry {α : Type} (xs : List (Nat × α)) : List (Nat × α) :=
    kept.flatMap (fun x => (xs.filter (fun e => e.1 == x.1.num)).map (fun e => (x.2.num, e.2)))
  let redw (ws : List RedW) : List RedW := kept.flatMap (fun x =>
    if x.1.sigs = x.2.sigs then (ws.filter (fun w => w.set == x.1.num)).map (fun w => { w with set := x.2.num }) else [])
  (l1.withRec (fun h =>
    { h with
        cnt := { h.cnt with rows := carry h.cnt.rows }, gaps := carry h.gaps, closed := carry h.closed,
        redw := redw h.redw })).set F.REC_STAT.SETS new.recSets.length

/-! ### Resumption (R379) -/

/-- Row instants of a set in the cycles from `a` up to before `b`. -/
def Lane.rowsBetween (l : Lane) (s : SetImg) (a b : Nat) : Nat :=
  match s.kind with
  | 0 => (b + max s.div 1 - 1) / max s.div 1 - (a + max s.div 1 - 1) / max s.div 1
  | 1 => (b - a) * (l.period / (50 * max s.div 1))
  | 2 => (l.tOf b) / 100000000 - (l.tOf a) / 100000000
  | _ => 0

/-- A warm resumption at cycle `nr` from counters of cycle `ns`: PSEQ from the higher of both rings, and for each set a
gap with CAUSE 3 from the last closed row of either. -/
def Lane.recWarm (l : Lane) (c : RecCnt) (oth : Option RecH) (ns nr : Nat) : Lane :=
  let pseq := max l.recd.cnt.pseq ((oth.map (fun h => h.cnt.pseq)).getD 0)
  let sets := l.recMap
  let l1 := l.withRec (fun h => { h with cnt := { c with pseq := pseq }, opens := [], gaps := [], fast := [], redw := [], resume := sets.map SetImg.num })
  (sets.foldl (fun m s =>
    let m1 := m.advance s.num (m.rowsBetween s (ns + 1) nr)
    let closed := max (perRing l.recd.closed s.num) ((oth.map (fun h => perRing h.closed s.num)).getD 0)
    m1.miss s.num closed (m1.rowNo s.num - closed) 3) l1).recShow

/-- At the join the joining lane takes the counters of the running lane (R379). -/
def Lane.recJoin (l : Lane) (run : RecH) : Lane :=
  (l.withRec (fun h => { h with cnt := run.cnt, opens := [], gaps := run.gaps, fast := [], redw := run.redw, src := run.src, halted := run.halted, resume := [], closed := run.closed })).recShow

/-! ### Ports and flash (R381, R383) -/

/-- The datagram of the next punnet (R381). -/
def Lane.gram (l : Lane) : Gram :=
  ⟨l.recd.mac.getD 0, (l.rd Reg.REC_PORT_IP).toNat, (l.rd Reg.REC_PORT_DST).toNat, l.get F.REC_PORT_CTRL.UDP,
    listAt l.dram (4096 * (l.recd.send % holdSlots)) 4096⟩

/-- The record port sends the next punnet, after skipping to the oldest held; a punnet with an uncorrectable codeword is
skipped (R381, R431). -/
def Lane.punnetSend (l : Lane) : Lane :=
  let old := l.recd.cnt.pseq - holdSlots
  let skip := old - l.recd.send
  let l1 := if skip = 0 then l else ((l.cnt F.REC_PORT_SKIP.COUNT skip).ev recPage 1).withRec (fun h => { h with send := old })
  if l1.recd.send < l1.recd.cnt.pseq ∧ l1.uncorrIn (4096 * (l1.recd.send % holdSlots)) 4096 then
    ((l1.cnt F.REC_PORT_SKIP.COUNT 1).ev recPage 1).withRec (fun h => { h with send := h.send + 1 })
  else if l1.flag F.REC_PORT_CTRL.EN && l1.flag F.REC_PORT_CTRL.LINK && l1.recd.mac.isSome && decide (l1.recd.send < l1.recd.cnt.pseq) then
    (l1.cnt F.REC_PORT_SENT.COUNT 1).withRec (fun h => { h with send := h.send + 1, tx := h.tx ++ [l1.gram] })
  else l1

/-- The record port's link, and the resolution of its destination at link-up and every 60 s (R381). -/
def Lane.arpResolve (l : Lane) (up : Bool) (mac : Option Nat) : Lane :=
  let l1 := if l.flag F.REC_PORT_CTRL.LINK = up then l else (l.setB F.REC_PORT_CTRL.LINK up).ev recPage 2
  l1.withRec (fun h => { h with mac := if up then (match mac with | some m => some m | none => h.mac) else none })

/-- Under a flash grant the oldest queued punnet goes to the record store, at most 976 in a second (4 MB/s); an empty
queue releases the grant (R383). -/
def Lane.flashWrite (l : Lane) (now : Nat) : Lane :=
  let recent := l.recd.wrote.filter (fun t => decide (now < t + 400000000))
  if !(l.granted 4 0 || l.granted 5 0) then l.recShow
  else match l.recd.flashQ with
    | [] => ((l.ledgerFree 4 0 now).ledgerFree 5 0 now).recShow
    | (q, slot) :: t =>
      if 976 ≤ recent.length then l
      else
        let bs := listAt l.dram (0x5C0000000 + 4096 * slot) 4096
        (l.withRec (fun h =>
          { h with
              flashQ := t, wrote := recent ++ [now],
              store := (if storeSlots ≤ h.store.length then h.store.drop 1 else h.store) ++ [(q, bs)] })).recShow

/-- What of the recorder survives a reset of kind L: the rings, the flash and what they show (R379). -/
def RecH.reset (h : RecH) : RecH :=
  { h with
      cnt := { h.cnt with credit := 0, rows := [] }, opens := [], gaps := [], redw := [], fast := [], src := 0,
      resume := [], halted := false, mbs := (0, 0), mac := none, tx := [], wrote := [] }

end Sys2Proof.Machine
end

