-- ==== Sys2Proof/Machine/Log.lean ====
section
/-! DEFINITION. The event log (R385–R388): its flash, its windfall record, reading and copying records, OP_MS. -/

namespace Sys2Proof.Machine

/-- The service area in lane DRAM, by byte offset from 0x10_0000_0000, and its size (R390). -/
def svcArea : Nat := 0x780000000
def svcBytes : Nat := 0x80000000

/-- The flash keeps the stone for ever and the last 1,048,576 records after it (R387). -/
def logKeep (rs : List LogRec) : List LogRec :=
  let rind := rs.filter (fun r => decide (65536 ≤ r.seq))
  rs.filter (fun r => decide (r.seq < 65536)) ++ rind.drop (rind.length - 1048576)

/-- Show the newest record written and the oldest of the rind. -/
def Lane.logShow (l : Lane) : Lane :=
  let l1 := match l.log.flash.getLast? with
    | some r => l.set64 Reg.LOG_HEAD_LO Reg.LOG_HEAD_HI r.seq
    | none => l
  match l.log.flash.find? (fun r => decide (65536 ≤ r.seq)) with
  | some r => l1.set64 Reg.LOG_RIND_OLD_LO Reg.LOG_RIND_OLD_HI r.seq
  | none => l1

/-- The first `n` buffered records reach flash (R387). -/
def Lane.logFlash (l : Lane) (n : Nat) : Lane :=
  Lane.logShow { l with log := { l.log with buf := l.log.buf.drop n, flash := logKeep (l.log.flash ++ l.log.buf.take n) } }

/-- Space returns in the buffer: one LOG_WINDFALL record with the number dropped is entered (R388). -/
def Lane.logWindfall (l : Lane) : Lane :=
  if l.log.dropped = 0 ∨ 1024 ≤ l.log.buf.length then l
  else
    let n := l.log.dropped
    let l1 := { l with log := { l.log with dropped := 0 } }
    (l1.log1 0x88 0 0x010E [(4, n)]).ev recPage 4

/-- GO or COPY starts a request (R387). -/
def Lane.logRead (l : Lane) (copy : Bool) (seat : Nat) : Lane :=
  if l.log.rd.isSome then l
  else
    let l1 := (l.set F.LOG_RD_STAT.BUSY 1).set F.LOG_RD_STAT.ERR 0
    { l1 with log := { l1.log with rd := some (copy, seat) } }

/-- A record that the log holds. -/
def Lane.logHeld (l : Lane) (seq : Nat) : Option LogRec := l.log.flash.find? (fun r => r.seq == seq)

/-- The records held from a SEQ on, up to `n`. -/
def Lane.logRun (l : Lane) : Nat → Nat → List LogRec
  | 0, _ => []
  | n + 1, seq => match l.logHeld seq with | some r => r :: l.logRun n (seq + 1) | none => []

/-- A seat's request fails with a code. -/
def Lane.logFail (l : Lane) (code seat : Nat) : Lane := (l.set F.LOG_RD_STAT.ERR 1).err recPage code seat Reg.LOG_RD_CTRL

/-- The request in progress ends: the record in LOG_RD_DATA, or the records in the service area (R387). -/
def Lane.logDone (l : Lane) : Lane :=
  match l.log.rd with
  | none => l
  | some (copy, seat) =>
    let seq := l.get64 Reg.LOG_RD_SEQ_LO Reg.LOG_RD_SEQ_HI
    let l0 := (Lane.set { l with log := { l.log with rd := none } } F.LOG_RD_STAT.BUSY 0).ev recPage 5
    if copy then
      let n := l.get F.LOG_RD_CTRL.COUNT
      let dst := (l.rd Reg.LOG_RD_DST_LO).toNat + l.get F.LOG_RD_DST_HI.ADDR * 2 ^ 32
      let off := dst - 0x1000000000
      if dst < 0x1000000000 ∨ off < svcArea ∨ svcArea + svcBytes < off + 64 * n then (l0.set F.LOG_RD_STAT.DONE_N 0).logFail 0x42 seat
      else
        let rs := l.logRun n seq
        let l1 : Lane := { l0 with dram := putList l0.dram off (rs.map LogRec.bytes).flatten }
        let l2 := l1.set F.LOG_RD_STAT.DONE_N rs.length
        if rs.length < n then l2.logFail 0x41 seat else l2
    else match l.logHeld seq with
      | some r =>
        let bs := r.bytes
        (List.range 16).foldl (fun m k => m.wr (Reg.LOG_RD_DATA k) (word (leVal ((bs.drop (4 * k)).take 4)))) (l0.set F.LOG_RD_STAT.DONE_N 1)
      | none => (l0.set F.LOG_RD_STAT.DONE_N 0).logFail 0x41 seat

/-- The running OP_MS. -/
def Lane.opMs (l : Lane) : Nat := l.get64 Reg.LOG_OPMS_LO Reg.LOG_OPMS_HI

/-- Every 60 s OP_MS is rewritten in flash (R385). -/
def Lane.opRewrite (l : Lane) : Lane := { l with log := { l.log with opFlash := l.opMs } }

end Sys2Proof.Machine
end

