-- ==== Sys2Proof/Machine/Exchange.lean ====
section
/-! DEFINITION. Image sets: loading one at a start, preparing one, the mapping of an exchange, trials
(R80, R94, R180, R205–R211, R235, R303, R477). -/

namespace Sys2Proof.Machine

/-- The bits of the register at `addr` that a reset kind restores (R7): 0 P, 1 L, 2 B. -/
def kindMask (addr kind : Nat) : Nat :=
  match rowOf addr with
  | none => 0
  | some r => if kind = 0 then r.kp else if kind = 1 then r.kl else r.kb

/-- Replace the bits of `mask`. -/
def Lane.putMask (l : Lane) (addr mask : Nat) (v : Word) : Lane :=
  let w := l.rd addr
  l.wr addr ((w &&& ~~~ word mask) ||| (v &&& word mask))

/-- The image gives a register its bits that the reset kind restores; FREEZE is not the image's. -/
def Lane.imgReg (l : Lane) (kind : Nat) (x : Nat × Word) : Lane :=
  let m := kindMask x.1 kind
  l.putMask x.1 (if x.1 % 0x1000 = 8 then m &&& 9 else m) x.2

/-- The fast converters run in Fast, Standard and Wide; in Economy only under a FAST_ARM grant (R280). -/
def Lane.fiProfile (l : Lane) : Lane :=
  if l.economy then
    if l.ledger.grants.any (fun g => g.req.cls == 1) then l else (l.set F.FI_CTRL.RUNNING 0).set F.FI_CTRL.READY 0
  else (l.set F.FI_CTRL.RUNNING 1).set F.FI_CTRL.READY 1

/-- The direct axes that nodes of the graph serve (R133). -/
def Lane.directInGraph (l : Lane) : List Nat :=
  (List.range 16).filter (fun a => decide (l.motor a ≠ 2) && (List.range l.nodes).any (fun i => decide (l.ndKind i = 7 ∧ l.ndObj i = a)))

/-- T_merge: 1.0 µs and the worst-case sampled part at 1.2 GB/s, rounded up to a whole 0.1 µs (R133). -/
def mergeTime (bytes : Nat) : Nat := (1000 + (5 * bytes + 5) / 6 + 99) / 100 * 100

/-- B_s of the graph in the lane's registers and tables (R133). -/
def Lane.sampledBytes (l : Lane) (im : ImageSet) : Nat :=
  64 + (if im.diOff.isSome then 16 else 0) + 4 * ((List.range 64).filter l.ainOn).length + 32 * l.directInGraph.length + 16 * l.rings.length

/-- Grants beyond the pool of a new profile are revoked, one at a time (R17, R91). -/
def trimGrants : Nat → Lane → Lane
  | 0, l => l
  | n + 1, l =>
    if quantaOf l.ledger.grants ≤ l.pool then l
    else match revokeNext l.ledger.grants with
      | none => l
      | some g =>
        trimGrants n (Lane.ev { l with ledger := { l.ledger with grants := l.ledger.grants.erase g, stopping := l.ledger.stopping ++ [g.req] } } 0x20 1)

/-- Budget and standing booking of a profile with `t` ports in 1000BASE-T (R17, R87). -/
def Lane.book (l : Lane) (profile t : Nat) : Lane :=
  (l.set F.LEDGER_STAT.BUDGET (if profile = 3 then 96 else 152)).set F.LEDGER_BOOK.STANDING (standing (decide (profile = 3)) t)

/-- The ports of the rings that the registers configure in 1000BASE-T. -/
def Lane.portsT (l : Lane) : Nat :=
  ((List.range 24).filter (fun r => l.get (F.RING_CFG.NSTA r) ≠ 0 ∧ l.get (F.RING_CFG.MODE r) = 0)).length

/-- The registers of an image set (the Reset entries 'Image' and 'Profile'), for a reset kind. -/
def Lane.imageRegs (l : Lane) (im : ImageSet) (kind : Nat) : Lane :=
  let l1 := im.regs.foldl (fun m x => m.imgReg kind x) l
  let l2 := (((l1.set F.CYCLE_STAT.PROFILE im.profile).set F.CYCLE_PERIOD.NS im.period).set F.CYCLE_TRING.NS im.tring).set
    F.CYCLE_GRAPH_SIZE.NODES im.preds.length
  let merge := mergeTime (l2.sampledBytes im)
  let l3 := ((l2.set F.CYCLE_MERGE.NS merge).set F.CYCLE_WINDOW.NS (im.period - im.tring - merge)).set64 Reg.CYCLE_GRAPH_SEAL_LO
    Reg.CYCLE_GRAPH_SEAL_HI im.sl
  let l4 := ((l3.rings.foldl Lane.airexL l3).book im.profile l3.portsT).fiProfile
  (trimGrants l4.ledger.grants.length l4).ledgerShow

/-- The standing booking is made at S0, for the images that the lane is to run (R87). -/
def Lane.bookS0 (l : Lane) : Lane :=
  match l.image.orElse (fun _ => l.store.boot) with
  | some im => (l.book im.profile (im.regs.foldl (fun m x => m.imgReg 0 x) l).portsT).ledgerShow
  | none => (l.book 0 l.portsT).ledgerShow

/-- Carried state that the image places in DRAM is written back, from engine SRAM to its place (R138). -/
def Lane.stageOut (l : Lane) : Lane :=
  ((l.image.map ImageSet.placed).getD []).foldl (fun m x =>
    (List.range x.2.2).foldl (fun k j => k.putDram (x.2.1 + 4 * j) 4 (k.win (x.1 + 4 * j)).toNat) m) l

/-- The slices that a cycle needs are loaded from DRAM into engine SRAM (R138). -/
def Lane.stageIn (l : Lane) : Lane :=
  ((l.image.map ImageSet.placed).getD []).foldl (fun m x =>
    (List.range x.2.2).foldl (fun k j => k.putWin (x.1 + 4 * j) (word (bytesAt k.dram (x.2.1 + 4 * j) 4))) m) l

/-- Carried state of an image set before its first cycle (R80, R191, R207). -/
def carried0 (im : ImageSet) (cause : Nat) (hap : HapC) : Carried :=
  { img := im.img.foldl (fun m c => Sparse.put byte0 m c.1 c.2) [],
    win := im.win.foldl (fun m c => Sparse.put word0 m c.1 c.2) [],
    loops := [], groups := [], gens := [], progs := im.progs.map (fun p => progNew p.prog cause), edgeNew := [],
    chans := [], wafers := [], subst := [], retOk := [], ains := [], ow := ⟨0, none, []⟩, axes := [], hap := hap, rels := [] }

/-- Load an image set at a cold start (R80, R477). -/
def Lane.loadImages (l : Lane) (im : ImageSet) (kind : Nat) : Lane :=
  let l1 : Lane := { l with car := carried0 im 4 l.car.hap, image := some im }
  ((l1.imageRegs im kind).set F.REC_STAT.SETS im.recSets.length).stageOut

/-! ### The mapping of R207 -/

/-- The object of the old image that a new one is carried from. -/
def carriedFrom (old : List Obj) (o : Obj) : Option Obj := old.find? (fun x => x.name == o.name && x.form == o.form)

/-- Copy `n` words of table windows. -/
def copyWin (src : Lane) (dst : Lane) (a b n : Nat) : Lane :=
  (List.range n).foldl (fun m k => m.putWin (b + 4 * k) (src.win (a + 4 * k))) dst

/-- Copy a variable: words of a window, or bytes of the cycle image below 0x0100_0000. -/
def copyVar (src dst : Lane) (a an b bn : Nat) : Lane :=
  let n := min an bn
  if a < 0x1000000 ∧ b < 0x1000000 then dst.putImg b (4 * n) (src.img a (4 * n))
  else (List.range n).foldl (fun m k =>
    let w : Word := if a < 0x1000000 then word (src.img (a + 4 * k) 4) else src.win (a + 4 * k)
    if b < 0x1000000 then m.putImg (b + 4 * k) 4 w.toNat else m.putWin (b + 4 * k) w) dst

/-- Copy the masked bits of a window word. -/
def copyBits (src dst : Lane) (a b mask : Nat) : Lane :=
  dst.putWin b ((dst.win b &&& ~~~ word mask) ||| (src.win a &&& word mask))

/-- The steps of a chart (R207): a step of the same name keeps its flag and its step time, two words after it. -/
def copySteps (src dst : Lane) (old new : List (Nat × Nat)) (init : Nat) : Lane :=
  let d := new.foldl (fun m s => match old.find? (fun o => o.1 == s.1) with
    | some o => copyWin src m o.2 s.2 3
    | none => m.putWin s.2 0#32) dst
  if new.any (fun s => decide (d.win s.2 ≠ 0#32)) then d
  else match new.find? (fun s => s.1 == init) with
    | some s => d.putWin s.2 1#32
    | none => d

/-- A loop instance keeps its state; a REGION above the new NREG becomes the new NREG (R180, R207). -/
def carryLoop (src dst : Lane) (i j : Nat) : Lane :=
  let d := copyWin src dst (peAddr i 16) (peAddr j 16) 8
  let nreg := d.wu (peAddr j 0) 19 16
  let d1 := if nreg < d.wu (peAddr j 21) 31 28 then d.putWin (peAddr j 21) (withBits (d.win (peAddr j 21)) 31 28 nreg) else d
  match src.car.loops.find? (fun e => e.inst == i) with
  | some e => d1.apply (.loopI { e with inst := j })
  | none => d1

/-- A new instance loads its OUT from OUT_REF at its first execution, as after leaving OFF; having read no valid process
value, it enters input fault there unless it reads one (R166, R180). -/
def newLoop (dst : Lane) (j : Nat) : Lane := dst.apply (.loopI ⟨j, none, false, true, false⟩)

/-- A new generator starts at rest with POS equal to its target (R180). -/
def newGen (dst : Lane) (j : Nat) : Lane :=
  let own := dst.ws (pgAddr j 2) 15 0
  let ref := (dst.win (pgAddr j 0)).toNat
  let rd := dst.readRef ref
  let t : Int := if ref = 0 ∨ rd.2 ≠ 0 then own else sat16 rd.1
  let w := ((((⟨dst, []⟩ : Work).s48 (pgAddr j 9) (t * 2 ^ 32)).s48 (pgAddr j 11) 0).s48 (pgAddr j 13) 0).bits (pgAddr j 15) 15 0 (twos 16 t)
  w.l.apply (.genI ⟨j, none, t, 0⟩)

/-- The place in the new image of the object at a place of the old one, if it is carried. -/
def carriedTo (old new : ImageSet) (f : ObjPlace → ObjPlace → Option Nat) : Option Nat :=
  old.objs.findSome? (fun y => (new.objs.find? (fun z => z.name == y.name && z.form == y.form)).bind (fun z => f y.place z.place))

/-- The new offset of `len` bytes at an image offset, in a variable, a station's payload or an analogue output that both
images hold. -/
def carriedOff (old new : ImageSet) (loc len : Nat) : Option Nat :=
  let move (a n b m : Nat) : Option Nat := if a ≤ loc ∧ loc + len ≤ a + n ∧ loc - a + len ≤ m then some (b + (loc - a)) else none
  let sta (xs ys : List StaMap) : Option Nat :=
    xs.findSome? (fun x => (ys.find? (fun y => y.ring == x.ring && y.sta == x.sta)).bind (fun y => move x.off x.len y.off y.len))
  let var := carriedTo old new (fun p q => match p, q with
    | .var a n, .var b m => if a < 0x1000000 ∧ b < 0x1000000 then move a (4 * n) b (4 * m) else none
    | _, _ => none)
  let ao := old.aos.findSome? (fun x => (new.aos.find? (fun y => y.1 == x.1)).bind (fun y => move x.2 2 y.2 2))
  [var, sta old.outs new.outs, sta old.ins new.ins, ao].findSome? id

/-- A write held over into the cycle of an exchange, with its target where the new image has it (R219, R235). -/
def carriedWrite (old new : ImageSet) (w : Word) : Option Word :=
  let loc := bits w 23 0
  let kind := bits w 31 28
  let dest := if kind < 3 then carriedOff old new loc (if kind = 1 then 4 else 2)
    else if kind = 3 then carriedTo old new (fun p q => match p, q with
      | .loop i, .loop j => if i = loc then some j else none
      | _, _ => none)
    else carriedTo old new (fun p q => match p, q with
      | .gen i, .gen j => if i = loc then some j else none
      | _, _ => none)
  dest.map (fun n => withBits w 23 0 n)

/-- A recipe channel at an exchange in cycle `e`: its step by name, its held writes and generators by their targets; a channel whose step
is gone is held with an error (R235). -/
def carryChan (src : Lane) (e : Nat) (dst : Lane) (c k : Nat) (im : ImageSet) : Lane :=
  let x := { src.chan c with chan := k }
  let names := ((src.image.bind (fun o => o.chans.find? (fun y => y.chan == c))).map ChanImg.steps).getD []
  let news := ((im.chans.find? (fun y => y.chan == k)).map ChanImg.steps).getD []
  let step := (names[x.step]?).bind (fun nm => news.findIdx? (fun y => y == nm))
  let kept := x.path1.filterMap (fun y => (src.image.bind (fun o => carriedWrite o im y.2.1)).map (fun w => (y.1, w, y.2.2)))
  let gens := x.gens.filterMap (fun g => src.image.bind (fun o => carriedTo o im (fun p q => match p, q with
    | .gen i, .gen j => if i = g then some j else none
    | _, _ => none)))
  let y := { chanExchange dst e x step with path1 := kept, gens := gens }
  let d1 := (dst.setChan y).cnt (F.RECIPE_CH_COUNT.BAD k) (x.path1.length - kept.length)
  let d2 := if y.state = x.state then d1 else d1.ev (chanPage k) 1
  if y.orphan && !x.orphan then d2.err (chanPage k) 0x42 0x12 0 else d2

/-- Carry one object from its place in the old image to its place in the new (R207). -/
def carryObj (src : Lane) (e : Nat) (dst : Lane) (old new : ObjPlace) (im : ImageSet) : Lane :=
  match old, new with
  | .var a n, .var b m => copyVar src dst a n b m
  | .timer i, .timer j =>
    let d := copyBits src dst (timerAddr i 0) (timerAddr j 0) 0x38000000
    copyWin src (copyWin src d (timerAddr i 1) (timerAddr j 1) 2) (timerAddr i 4) (timerAddr j 4) 4
  | .counter i, .counter j => copyWin src (copyBits src dst (counterAddr i 0) (counterAddr j 0) 0x3C000000) (counterAddr i 1) (counterAddr j 1) 1
  | .edge i, .edge j =>
    let d := copyBits src dst (edgeAddr i) (edgeAddr j) 0x40000000
    if src.car.edgeNew.contains i then { d with car := { d.car with edgeNew := j :: d.car.edgeNew } } else d
  | .sfc s _, .sfc t init => copySteps src dst s t init
  | .prog p, .prog q => dst.setProg { src.prog p with prog := q }
  | .loop i, .loop j => carryLoop src dst i j
  | .gen i, .gen j =>
    let d := copyWin src dst (pgAddr i 9) (pgAddr j 9) 7
    match src.car.gens.find? (fun g => g.gen == i) with
    | some g => d.apply (.genI { g with gen := j })
    | none => d
  | .chan c, .chan k => carryChan src e dst c k im
  | .axis a, .axis b => dst.setAxis { src.axisI a with ax := b }
  | _, _ => dst

/-- Initialise one object of the new image (R207); its initial value stands in the image. -/
def initObj (dst : Lane) (new : ObjPlace) : Lane :=
  match new with
  | .edge j => { dst with car := { dst.car with edgeNew := j :: dst.car.edgeNew } }
  | .sfc t init => match t.find? (fun s => s.1 == init) with
    | some s => dst.putWin s.2 1#32
    | none => dst
  | .prog q => dst.setProg (progNew q 0)
  | .loop j => newLoop dst j
  | .gen j => newGen dst j
  | _ => dst

/-- The payloads of the stations that both images hold stand where the new image has them. -/
def moveMaps (src dst : List Host.Cell) (old new : List StaMap) : List Host.Cell :=
  new.foldl (fun m x => match old.find? (fun o => o.ring == x.ring && o.sta == x.sta) with
    | some o => putBytes m x.off (min o.len x.len) (bytesAt src o.off (min o.len x.len))
    | none => m) dst

/-- The words of `n` bytes that both images hold under one key stand where the new image has them. -/
def moveWords (n : Nat) (src dst : List Host.Cell) (old new : List (Nat × Nat)) : List Host.Cell :=
  new.foldl (fun m x => match old.find? (fun o => o.1 == x.1) with
    | some o => putBytes m x.2 n (bytesAt src o.2 n)
    | none => m) dst

/-- The inputs of the cycle image of one image set, laid out as another has them: station inputs, agreed AI words, bus
status words, the DI image, work-result areas that both hold alike, reception records. -/
def moveInputs (src dst : List Host.Cell) (old new : ImageSet) : List Host.Cell :=
  let d1 := moveWords 4 src (moveWords 4 src (moveMaps src dst old.ins new.ins) old.ais new.ais) old.busStats new.busStats
  let d2 := match old.diOff, new.diOff with
    | some a, some b => putBytes d1 b 16 (bytesAt src a 16)
    | _, _ => d1
  let d3 := (new.workAreas.filter old.workAreas.contains).foldl (fun m x => putBytes m x.1 x.2 (bytesAt src x.1 x.2)) d2
  let area (im : ImageSet) (n k : Nat) : Nat := (Sparse.find word0 im.win (0x04800000 + 0x100000 * n + 32 * k + 8)).toNat % 2 ^ 24
  let receives (x : Nat × Nat × Nat) : Bool :=
    decide (bits (Sparse.find word0 new.win (0x04800000 + 0x100000 * x.1 + 32 * x.2.1)) 31 31 = 0) &&
      old.busObjs.any (fun y => y.1 == x.1 && y.2.1 == x.2.1)
  (new.busObjs.filter receives).foldl (fun m x => putBytes m (area new x.1 x.2.1) 80 (bytesAt src (area old x.1 x.2.1) 80)) d3

/-- The outputs of the cycle image of one image set, laid out as another has them: station outputs, analogue outputs. -/
def moveOutputs (src dst : List Host.Cell) (old new : ImageSet) : List Host.Cell :=
  moveWords 2 src (moveMaps src dst old.outs new.outs) old.aos new.aos

/-- The carried state of a lane mapped into an image set at cycle `e`, with the objects carried, initialised and dropped
(R207, R208). -/
def Lane.mapInto (l : Lane) (im : ImageSet) (e : Nat) : Lane × Nat × Nat × Nat :=
  let o := l.image
  let olds := (o.map ImageSet.objs).getD []
  let c0 := carried0 im 0 l.car.hap
  let d0 : Lane := { l with
    car := { c0 with progs := [], retOk := l.car.retOk, ains := l.car.ains, ow := l.car.ow, groups := l.car.groups, wafers := l.car.wafers, rels := l.car.rels },
    image := some im }
  let d1 : Lane := match o with
    | some om =>
      { d0 with car := { d0.car with
          img := moveOutputs l.car.img (moveInputs l.car.img d0.car.img om im) om im
          subst := moveMaps l.car.subst [] om.ins im.ins } }
    | none => d0
  let r := im.objs.foldl (fun (x : Lane × Nat × Nat) n => match carriedFrom olds n with
    | some y => (carryObj l e x.1 y.place n.place im, x.2.1 + 1, x.2.2)
    | none => (initObj x.1 n.place, x.2.1, x.2.2 + 1)) (d1, 0, 0)
  -- a channel that the new image does not create keeps its state (R235)
  let known (c : Nat) : Bool := (olds ++ im.objs).any (fun y => match y.place with | .chan k => k == c | _ => false)
  let r := (((l.car.chans.map ChanI.chan).filter (fun c => !known c)).foldl (fun m c => carryChan l e m c c im) r.1, r.2)
  let dropped := (olds.filter (fun y => !im.objs.any (fun n => n.name == y.name && n.form == y.form))).length
  (r.1, r.2.1, r.2.2, dropped)

/-- The exchange in the ring and merge phases of cycle `e`: the recorder's map, the state, the registers of the image
(R131, R205–R208). -/
def Lane.exchange (l : Lane) (im : ImageSet) (e now : Nat) : Lane :=
  let tE := l.tOf e
  let oldP := l.period
  let r := (l.recExchange im now).mapInto im e
  -- a station lost at the end of cycle e − 1 is told to the new image (R204)
  let quiet (x : ProgI) : ProgI := { x with err := false, errCount := 0, errList := [], errMore := false }
  let l0 := Lane.tellPrograms { r.1 with car := { r.1.car with progs := r.1.car.progs.map quiet } } l.ring.lost
  let l1 := l0.imageRegs im 1
  let l2 := if im.period = oldP then l1
    else ((l1.set64 Reg.CYCLE_ORG_NUM_LO Reg.CYCLE_ORG_NUM_HI e).set64 Reg.CYCLE_ORG_T_LO Reg.CYCLE_ORG_T_HI tE).ev 0x100 5
  let l3 := ((l2.wr Reg.LOGIC_EXCH_MAP_A (word (sat32 r.2.1))).set F.LOGIC_EXCH_MAP_B.INITIALISED (min r.2.2.1 65535)).set
    F.LOGIC_EXCH_MAP_B.DROPPED (min r.2.2.2 65535)
  let l4 := ((l3.set64 Reg.LOGIC_EXCH_EFF_LO Reg.LOGIC_EXCH_EFF_HI e).set F.LOGIC_EXCH_STAT.LAST 1).set F.LOGIC_EXCH_STAT.OWN 0
  let l5 := ((l4.set F.LOGIC_EXCH_STAT.OTHER 0).ev 0x300 9).log1 0x30 0 0x010C [(8, e), (8, im.sl)]
  Lane.faultsShow <| Lane.stageOut { l5 with
      store := { l5.store with prep := none, preparing := false, boot := some im },
      cyc := { l5.cyc with exchAt := none } }
where
  sat32 (n : Nat) : Nat := min n (2 ^ 32 - 1)

/-! ### Prepare, commit, abandon (R205, R206, R450) -/

/-- The effect of PREPARE: the lane begins its checks. -/
def Lane.prepare (l : Lane) : Lane :=
  let l1 := (l.set F.LOGIC_EXCH_STAT.OWN 1)
  { l1 with store := { l1.store with preparing := true, prep := none } }

/-- The word that an image set gives a register, or a table window; the last entry of an address counts. -/
def setReg (im : ImageSet) (a : Nat) : Word := im.regs.foldl (fun w c => if c.1 = a then c.2 else w) 0#32
def setWord (im : ImageSet) (a : Nat) : Word := im.win.foldl (fun w c => if c.1 = a then c.2 else w) 0#32

/-- A limit of R15 on the period is exceeded: its range in ns, in steps of 5 µs, by profile. -/
def periodBad (profile p : Nat) : Bool :=
  let r := match profile with
    | 0 => (20000, 45000)
    | 1 => (50000, 95000)
    | 2 => (100000, 1000000)
    | _ => (250000, 1000000)
  !decide (r.1 ≤ p ∧ p ≤ r.2 ∧ p % 5000 = 0)

/-- The graph of an image set lies outside the limits of its profile: period, loop instances, ring image, stations per ring,
ring time, field-ring PHY mode (R15). -/
def overLimit (im : ImageSet) : Bool :=
  let fast := decide (im.profile = 0)
  let loops := ((List.range im.preds.length).filter (fun i => decide (bits (setWord im (nodeAddr i 0)) 31 28 = 1 ∨ bits (setWord im (nodeAddr i 0)) 31 28 = 2))).length
  let data := match im.profile with | 0 => 1024 | 1 => 4096 | _ => 8192
  let ring (r : Nat) : Bool :=
    let w := setReg im (Reg.RING_CFG r)
    decide (bits w 30 24 ≠ 0) &&
      (decide ((if fast then 16 else 64) < bits w 30 24 ∨ data < bits w 13 0) || (decide (im.profile = 3) && decide (bits w 31 31 = 0)))
  periodBad im.profile im.period || decide ((if fast then 1024 else 4096) < loops) || (List.range 24).any ring ||
    decide (if fast then im.period < 2 * im.tring else 3 * im.period < 5 * im.tring)

/-- Some field-ring port reports a 1000BASE-T link (R18). -/
def Lane.copperLink (l : Lane) : Bool := (List.range 24).any (fun r => l.flag (F.RING_STAT.LINK r) && decide (((l.ring.modes.find? (fun x => x.1 == r)).map Prod.snd).getD (l.get (F.RING_CFG.MODE r)) = 0))

/-- The set names Economy while a port reports a 1000BASE-T link (R18). -/
def Lane.economyBad (l : Lane) (im : ImageSet) : Bool := decide (im.profile = 3) && l.copperLink

/-- The checks of a load or an exchange refuse the set: the page of the block that refuses it, or of CYCLE (R15, R18). -/
def Lane.refusal (l : Lane) (im : ImageSet) : Option Nat :=
  im.refuses.orElse (fun _ => if overLimit im || l.economyBad im then some 0x100 else none)

/-- Why the running lane refuses an image set at prepare (R15, R18, R205, R450): bad seals, signature or version, or no image
key; limits of its profile; Economy with a 1000BASE-T link. -/
def Lane.imageBad (l : Lane) (im : ImageSet) : Bool :=
  !im.valid || (l.refusal im).isSome || decide (im.version < (l.rd Reg.HOST_SEC_IMGVER).toNat) || !l.flag F.HOST_SEC_STAT.KEY

/-- The error that a block latches whose checks refuse an image: loop tables, step tables, axis configuration, bus tables,
record map; beside it CYCLE latches 0x42. A refusal for a 1000BASE-T link is reported in the event log (R18). -/
def Lane.imageRefused (l : Lane) (im : ImageSet) : Lane :=
  match l.refusal im with
  | none => l
  | some p =>
    let l0 := l.err 0x100 0x42 0x12 0
    let l1 := if l.economyBad im then l0.logEv 0x100 30 0 1 else l0
    match (blkOf p).map Blk.ty with
    | some 0x20 => l1.err p 0x40 0x12 0
    | some 0x38 => l1.err p 0x41 0x12 0
    | some 0x68 => l1.err p 0x42 0x12 0
    | some 0x70 => l1.err p 0x41 0x12 0
    | some 0x88 => l1.err p 0x40 0x12 0
    | _ => l1

/-- The checks end on the set found in the image store: READY with its seal, or FAILED (R205). The second part tells
whether a check was in progress. A 1000BASE-T link is judged here and not again at the commit or the exchange (DESIGN
CHOICE, log entry 140: R18 names no instant). -/
def Lane.exchReady (l : Lane) (im : ImageSet) : Lane :=
  if l.store.preparing = false then l
  else
    let l0 : Lane := { l with store := { l.store with preparing := false } }
    if l0.imageBad im then
      ((l0.set F.LOGIC_EXCH_STAT.OWN 3).err 0x300 0x42 0x12 0).imageRefused im
    else
      let l1 := ((l0.set F.LOGIC_EXCH_STAT.OWN 2).set64 Reg.LOGIC_EXCH_SEAL_LO Reg.LOGIC_EXCH_SEAL_HI im.sl).ev 0x300 8
      { l1 with store := { l1.store with prep := some im } }

/-- A trial ends (R211). -/
def Lane.trialEnd (l : Lane) : Lane :=
  match l.trial with
  | none => l
  | some _ => Lane.ev ({ l with trial := none }.set F.LOGIC_TRIAL_STAT.STATE 2) 0x300 12

/-- The effect of ABANDON: the prepared image is discarded; a commit already in effect proceeds (R206). -/
def Lane.abandon (l : Lane) : Lane :=
  let l0 := l.trialEnd
  if l0.cyc.exchAt.isSome then l0
  else
    let l1 := if l0.store.prep.isSome ∨ l0.store.preparing then l0.set F.LOGIC_EXCH_STAT.LAST 3 else l0
    let l2 := l1.set F.LOGIC_EXCH_STAT.OWN 0
    { l2 with store := { l2.store with prep := none, preparing := false } }

/-- The effect of a commit of seal `sl` in cycle `c`: the exchange stands for c + 1, the image counter advances; without
the prepared image the commit is discarded on this lane (R205, R206, R450). -/
def Lane.commitEffect (l : Lane) (sl c : Nat) : Lane :=
  let l0 := l.trialEnd
  match l0.store.prep with
  | some im =>
    if im.sl = sl then
      let l1 := l0.wr Reg.HOST_SEC_IMGVER (word im.version)
      { l1 with cyc := { l1.cyc with exchAt := some (c + 1) } }
    else (l0.set F.LOGIC_EXCH_STAT.LAST 2).ev 0x300 10
  | none => (l0.set F.LOGIC_EXCH_STAT.LAST 2).ev 0x300 10

/-- A COMMIT write is accepted: both lanes READY with one seal, no rejoin in phases 2–5 (R206). -/
def commitOk (l oth : Lane) : Bool :=
  let ph := fun (x : Lane) => decide (2 ≤ x.get F.PAIR_RJ_STAT.PHASE ∧ x.get F.PAIR_RJ_STAT.PHASE ≤ 5)
  decide (l.get F.LOGIC_EXCH_STAT.OWN = 2 ∧ l.get F.LOGIC_EXCH_STAT.OTHER = 2) && !ph l && !ph oth &&
    decide ((l.store.prep.map ImageSet.sl).isSome ∧ l.store.prep.map ImageSet.sl = oth.store.prep.map ImageSet.sl)

/-! ### Trials (R209–R211) -/

/-- A START write (R209, R211). -/
def Lane.trialStart (l : Lane) (source : Nat) : Lane :=
  match l.store.prep, l.trial with
  | some im, none =>
    let l1 := (((l.set F.LOGIC_TRIAL_STAT.STATE 1).wr Reg.LOGIC_TRIAL_ACT 0#32).wr Reg.LOGIC_TRIAL_DIFF 0#32)
    { l1 with trial := some ⟨l.get F.LOGIC_TRIAL_CTRL.PROG, im, l.cycN + 1, none, none⟩ }
  | _, _ => (l.set F.LOGIC_TRIAL_STAT.STATE 3).err 0x300 0x43 source Reg.LOGIC_TRIAL_CTRL

/-- The node of a program in an image's node table: its DIV and OFS, its engine (R141, R190). -/
def nodeSel (im : ImageSet) (node n : Nat) : Bool :=
  let w := Sparse.find word0 im.win (0x01100000 + 32 * node + 16)
  decide (bits w 15 0 ≠ 0 ∧ n % bits w 15 0 = bits w 31 16)

/-- The boundary of the cycle after START: the state of the running image is mapped for the trial program (R209). -/
def Lane.trialMap (l : Lane) (n : Nat) : Lane :=
  match l.trial with
  | some t => if t.car.isNone ∧ t.start ≤ n then { l with trial := some { t with car := some (l.mapInto t.im n).1.car } } else l
  | none => l

/-- What the trial program works on in a cycle: its own state, with the inputs that the running programs read (R209). -/
def Lane.trialLane (l : Lane) (t : TrialH) (c : Carried) : Lane :=
  let img := match l.image with | some im => moveInputs l.car.img c.img im t.im | none => c.img
  let sub := match l.image with | some im => moveMaps l.car.subst c.subst im.ins t.im.ins | none => c.subst
  { l with car := { c with img := img, subst := sub }, image := some t.im }

/-- The trial's outputs after an activation: the trial output window, the comparison by name with the running image, the
first difference (R210). -/
def Lane.trialOutputs (l sh : Lane) (outs : List (Nat × Nat × Nat)) (n : Nat) : Lane :=
  let own := (l.image.map (fun im => (im.progs.map ProgImg.outs).flatten)).getD []
  let val (m : Lane) (o : Nat × Nat × Nat) : Nat := m.img o.1 o.2.1
  let bad := outs.findIdx? (fun o => match own.find? (fun x => x.2.2 == o.2.2) with
    | some x => decide (val sh o ≠ val l x)
    | none => false)
  let win := outs.zipIdx.foldl (fun m o => Sparse.put word0 m (4 * o.2) (word (val sh o.1))) l.store.trialOut
  let l1 : Lane := { l with store := { l.store with trialOut := win } }
  match bad with
  | none => l1
  | some k =>
    let m := (l1.cnt F.LOGIC_TRIAL_DIFF.DIFFS 1).ev 0x300 11
    if m.flag F.LOGIC_TRIAL_FIRST.VALID then m
    else (m.wr Reg.LOGIC_TRIAL_FIRST (word (2 ^ 31 + k % 65536))).set64 Reg.LOGIC_TRIAL_FIRST_CYC_LO Reg.LOGIC_TRIAL_FIRST_CYC_HI n

/-- One activation of the trial program in cycle `n`, after the last running node of its engine (given as the window offset
at which that node was done), if it fits before t_(n+1) − 1 µs; one that does not fit is MISSED (R209–R211). -/
def Lane.trialRun (l : Lane) (n last : Nat) : Lane :=
  match l.trial with
  | none => l
  | some t =>
    match t.im.progs.find? (fun p => p.prog == t.prog), t.car with
    | some pi, some c =>
      if t.seen = some n then l
      else
        let sh := l.trialLane t c
        let e := sh.prog t.prog
        let tasks := dueTasks e true ++ (if nodeSel t.im pi.cyNode n then dueTasks e false else [])
        let mark (m : Lane) (car : Carried) : Lane := { m with trial := some { t with car := some car, seen := some n } }
        if tasks = [] then mark l sh.car
        else
          let r := tasksRun pi t.im.sl (l.tOf n) true tasks ⟨sh, []⟩ 0
          if l.get F.CYCLE_WINDOW.NS * 3 / 5 < last + r.2.2 + 600 then mark (l.cnt F.LOGIC_TRIAL_DIFF.MISSED 1) sh.car
          else if r.2.1.isSome then l.trialEnd
          else
            let sh1 := r.1.l.setProg { r.1.l.prog t.prog with
              cold := false, warm := false, err := false, errCount := 0, errList := [], errMore := false, stepPend := false }
            mark ((l.inc Reg.LOGIC_TRIAL_ACT 1).trialOutputs sh1 pi.outs n) sh1.car
    | _, _ => l

end Sys2Proof.Machine
end

