-- ==== Sys2Proof/Machine/LaneState.lean ====
section
/-! DEFINITION. The lane states: how a lane passes from one to another, starts and stops driving, becomes FAULTED, and
what each lane sees of the other (R86, R107–R114). -/

namespace Sys2Proof.Machine

/-- First pages of the SYS, TIME/CLK, LEDGER, PAIR and CYCLE blocks (R21). -/
def sysPage : Nat := 0x000
def timePage : Nat := 0x010
def ledgerPage : Nat := 0x020
def pairPage : Nat := 0x030
def cyclePage : Nat := 0x100

/-- Enter a state: SYS_STATE, EV_PEND.STATE_CHG and a LANE_STATE record (R86, R386). -/
def Lane.goTo (l : Lane) (st : LaneSt) : Lane :=
  if l.st = st then l
  else ((l.set F.SYS_STATE.LANE_STATE st.code).ev pairPage 0).log1 0x30 0 0x010A
    [(1, l.st.code), (1, st.code), (8, if l.stage < 2 then 0 else l.cycN)]

/-- The PRESENT line to the base (R109). -/
def Lane.setPresent (l : Lane) (b : Bool) : Lane :=
  Lane.setB { l with start := { l.start with present := b } } F.PAIR_STAT.PRESENT b

/-- The request for primacy (R107), with the tick at which it rose. -/
def Lane.askPrimacy (l : Lane) (b : Bool) (now : Nat) : Lane :=
  let t := if b ∧ l.flag F.PAIR_STAT.PRIM_REQ = false then now else l.pair.reqAt
  Lane.setB { l with pair := { l.pair with reqAt := t } } F.PAIR_STAT.PRIM_REQ b

/-- No cycles run: CYCLE_STAT, the nodes in service, the frames launched. -/
def Lane.stopCycles (l : Lane) : Lane :=
  let l1 := (l.set F.CYCLE_STAT.RUN 0).set F.CYCLE_STAT.PHASE 4
  { l1 with cyc := { l1.cyc with inServ := [], compl := [], holdFrames := false, exchAt := none } }

/-- The gates of the lane's direct axes are off. -/
def Lane.gatesOff (l : Lane) : Lane :=
  { l with axis := { l.axis with hw := l.axis.hw.map (fun h => { h with gates := false }) } }

/-- The rings on which a lane launches frames show it, or none do (R240). -/
def Lane.sending (l : Lane) (b : Bool) : Lane :=
  (List.range 24).foldl (fun m r => if m.flag (F.RING_STAT.SENDING r) = b then m else m.setB (F.RING_STAT.SENDING r) b) l

/-- A lane that stops driving sends nothing on any path; a trial ends (R109, R211). -/
def Lane.stopDriving (l : Lane) : Lane :=
  let l1 := ((l.busDrop.aoDriving false).gatesOff.trialEnd).stopCycles
  l1.sending false

/-- A lane that hands primacy over as it leaves stops driving, but a bus frame it has begun it completes, and its gates go off at
the PWM boundary at which the other lane's take over (R111). -/
def Lane.stopHanding (l : Lane) : Lane :=
  let l1 := (List.range 12).foldl (fun m n => if (m.attempt n).isSome then m else m.busRole n false) l
  (((l1.aoDriving false).trialEnd).stopCycles).sending false

/-- The self-check in progress is abandoned (R116). -/
def Lane.dropCheck (l : Lane) : Lane :=
  match l.pair.check with
  | none => l
  | some _ => Lane.set { l with pair := { l.pair with check := none, waitDiv := none } } F.PAIR_DIV.CHECK 0

/-- The rejoin in progress is forgotten; PHASE reads 0. -/
def Lane.dropRejoin (l : Lane) : Lane :=
  match l.pair.rejoin with
  | none => l
  | some _ => ((Lane.set { l with pair := { l.pair with rejoin := none, promo := none } } F.PAIR_RJ_STAT.PHASE 0).set F.PAIR_STAT.LIVE 0).wr
      Reg.PAIR_RJ_BACKLOG 0#32

/-- Entries that the other lane has not received when this lane is lost are never confirmed (R100). -/
def Lane.loseEntries (l : Lane) : Lane :=
  let n := (l.pair.outMsg.filter (fun m => match m with | .entry _ => true | .oneSided _ _ => false)).length
  let l1 := l.cnt F.PAIR_MIR_UNCONF.ENTRIES n
  { l1 with pair := { l1.pair with outMsg := [], outSeal := [], outSamp := [], outDig := [], unconf := [] } }

/-- A state in which R113 lets a lane become FAULTED: any from PIP on. -/
def faultable (s : LaneSt) : Bool := decide (s = .pip ∨ s = .keeper ∨ s = .shadow ∨ s = .paired ∨ s = .solo ∨ s = .leaving)

/-- Stop driving at once, drop PRESENT, release primacy, enter FAULTED (R113). -/
def Lane.fail (l : Lane) (now : Nat) : Lane :=
  if faultable l.st then
    let l1 := (((l.stopDriving.dropCheck.dropRejoin.loseEntries).setPresent false).askPrimacy false now).goTo .faulted
    { l1 with start := { l1.start with faultedAt := now } }
  else l

/-- Stop driving, drop PRESENT and enter SHADOW; with a rejoin in progress still to come, no primacy is asked (R113). -/
def Lane.toShadow (l : Lane) (now : Nat) : Lane :=
  (((l.stopDriving.dropCheck.dropRejoin.loseEntries).setPresent false).askPrimacy false now).goTo .shadow

/-- A lane alone: what it still held back for the other lane is done with; sealed entries count as confirmed (R100). -/
def Lane.alone (l : Lane) : Lane :=
  let n := l.cycN
  let l1 := (l.dropCheck.dropRejoin).set F.PAIR_STAT.LIVE 0
  { l1 with
      pair := { l1.pair with
        outMsg := [], outSeal := [], outSamp := [], outDig := [], sampIn := none, digIn := [],
        unconf := l1.pair.unconf.filter (fun u => decide (n ≤ u.cyc)), waitLink := none, waitDiv := none } }

/-- The lane leads time, or follows; a lane that leads is aligned with itself (R60). -/
def Lane.leadTime (l : Lane) (b : Bool) : Lane :=
  let l1 := l.setB F.TIME_STAT.LEADER b
  if b then (l1.set F.TIME_STAT.ALIGN_OK 1).set F.TIME_ALIGN.OFS 0 else l1

/-- A lane that was PAIRED continues alone once the other has left: SOLO, asking for primacy (R113). -/
def Lane.toSolo (l : Lane) (now : Nat) : Lane :=
  if l.st = .paired then (((l.alone).askPrimacy true now).goTo .solo).leadTime true else l

/-- A keeper that does not start with the other lane goes to SHADOW (R79, R113). -/
def Lane.keeperToShadow (l : Lane) (now : Nat) : Lane :=
  if l.st = .keeper then
    let l1 := (l.askPrimacy false now).goTo .shadow
    Lane.sending { l1 with cyc := { l1.cyc with holdFrames := false }, start := { l1.start with resume := none, origin := none } } false
  else l

/-- At least one pair-link lane is up. -/
def Lane.linked (l : Lane) : Bool := decide (l.get F.PAIR_STAT.LINK ≠ 0)

/-- A lane at S1 or later, which energises the bypass relays (R77). -/
def Lane.atS1 (l : Lane) : Bool := l.sup.valid && decide (1 ≤ l.stage)

/-- The pair link as a lane sees it, up at both ends or neither, with the ticks since which one and all of its lanes are up. -/
def Lane.seeLink (l o : Lane) (now : Nat) : Lane :=
  let m := l.set F.PAIR_STAT.LINK ((l.get F.PAIR_STAT.LINK).land (o.get F.PAIR_STAT.LINK))
  { m with
    pair := { m.pair with
      upSince := if m.linked then some (m.pair.upSince.getD now) else none,
      upAll := if m.get F.PAIR_STAT.LINK = 15 then some (m.pair.upAll.getD now) else none } }

/-- What a lane sees of the other over a link that is up: its state and numbers. An empty slot shows without a link. -/
def Lane.seeOther (l o : Lane) : Lane :=
  if l.linked then
    let m := (((l.set F.SYS_STATE.OTHER_STATE o.st.code).set F.PAIR_COMPAT.OTHER (o.get F.PAIR_COMPAT.OWN)).set
      F.LOGIC_EXCH_STAT.OTHER (o.get F.LOGIC_EXCH_STAT.OWN)).set F.SAFE_LOAD_STAT.OTHER (o.get F.SAFE_LOAD_STAT.OWN)
    { m with pip := { m.pip with othId := (o.rd Reg.SAFE_LOAD_ID).toNat } }
  else if o.st = .absent then l.set F.SYS_STATE.OTHER_STATE 0
  else l

/-- The ejector state of a lane's slot reads SAFE_TO_PULL (R114). -/
def Lane.ejectSafe (l : Lane) : Bool := decide (l.st = .absent ∨ l.st = .faulted) || (decide (l.st = .leaving) && !l.start.present)

/-- What the indicator of an ejector lever shows (R456). -/
inductive Lamp where
  | dark
  | green
  | amber
  deriving DecidableEq, Repr

/-- The indicator of the ejector lever of a lane's cartridge: dark without supply, green at SAFE_TO_PULL, amber at DO_NOT_PULL
(R114, R456). -/
def Lane.ejectLamp (l : Lane) : Lamp :=
  if l.sup.seated = false ∨ (l.sup.valid = false ∧ l.sup.ok1 = false ∧ l.sup.ok2 = false) then .dark else if l.ejectSafe then .green else .amber

/-- The ejector contact of a slot is closed: at SAFE_TO_PULL, and for an empty slot; open without supply (R463). -/
def Lane.ejectContact (l : Lane) : Bool := (l.sup.valid || l.sup.ok1 || l.sup.ok2) && (!l.sup.seated || l.ejectSafe)

/-- The STAT contact is closed: at least one lane is PAIRED or SOLO (R463). -/
def State.statContact (s : State) : Bool := (s.a.drives && s.a.sup.valid) || (s.b.drives && s.b.sup.valid)

/-- GATE_EN of direct axis `ax` is high: the gate selector passes the gates of the lane that holds primacy (R455). -/
def State.gateEn (s : State) (ax : Nat) : Bool :=
  match s.base.primacy with
  | none => false
  | some h => (s.lane h).axis.hw.any (fun x => x.ax == ax && x.gates)

/-- What a lane sees of the base: the other's PRESENT and seat, primacy, the relays (R77), its ejector (R114). -/
def Lane.seeBase (l o : Lane) (prime relay : Bool) : Lane :=
  (((((l.setB F.PAIR_STAT.OTHER_PRESENT o.start.present).setB F.SYS_STATE.PRIMACY prime).setB F.PAIR_STAT.PRIMACY prime).setB
    F.SYS_ROLE.OTHER_SEATED (o.sup.seated && o.sup.closed)).setB F.HOST_TR_STAT.RELAY relay).setB F.PAIR_STAT.EJECT_SAFE l.ejectSafe

/-- What a lane sees of the other and of the base. -/
def Lane.see (l o : Lane) (prime relay : Bool) (now : Nat) : Lane := ((l.seeLink o now).seeOther o).seeBase o prime relay

/-- What each lane sees of the other and of the base, and the relays of the base. -/
def State.lines (s : State) : State :=
  let relay := s.a.atS1 || s.b.atS1
  { s with
      a := s.a.see s.b (s.prime .A) relay s.now, b := s.b.see s.a (s.prime .B) relay s.now, base := { s.base with relays := relay } }

/-- Change a lane; the other lane goes on alone where the change takes this one out of PAIRED, or ends its rejoin where it
was being served (R113, R123). -/
def State.leave (s : State) (i : LaneId) (f : Lane → Lane) : State :=
  let l := s.lane i
  let l' := f l
  let s1 := s.setLane i l'
  if l.st = .paired ∧ l'.st ≠ .paired then (s1.on i.other (fun o => o.toSolo s.now)).lines
  else if l.st = .shadow ∧ l'.st ≠ .shadow ∧ l'.st ≠ .paired ∧ (s.lane i.other).st = .solo then (s1.on i.other Lane.dropRejoin).lines
  else s1.lines

/-- The firmware exchange fails on the updated lane `i`: the other lane stays on its own firmware, and lane `i` does not rejoin
until that is cleared (R127). -/
def State.fwFails (s : State) (i : LaneId) : State :=
  if (s.lane i.other).start.fwPending && !(s.lane i).start.fwPending then
    (s.on i (fun l => { l with start := { l.start with fwFailed := true } })).on i.other (fun l => { l with start := { l.start with fwPending := false } })
  else s

/-- A lane becomes FAULTED (R113); a firmware exchange under way ends there (R127). -/
def State.fail (s : State) (i : LaneId) : State :=
  if faultable (s.lane i).st then
    (s.fwFails i).leave i (fun l => Lane.fail { l with start := { l.start with fwPending := false } } s.now)
  else s.leave i (fun l => l.fail s.now)

/-- The other lane is PAIRED or SOLO: this lane starts without driving (R76). -/
def State.otherRuns (s : State) (i : LaneId) : Bool := (s.lane i.other).drives

/-- The value of a decision that waits for a primacy holder (R475): the holder, if any. -/
def State.holder (s : State) : Option LaneId := s.base.primacy

/-- Register the outcome of a primacy change on both lanes: HANDOVERS, CAUSE, PRIMACY_CHG, leadership of time (R60, R107). -/
def State.primacyShown (s : State) (cause : Nat) : State :=
  let f (l : Lane) : Lane :=
    let l1 := ((l.cnt F.PAIR_PRIM.HANDOVERS 1).set F.PAIR_PRIM.CAUSE cause).ev pairPage 1
    { l1 with pair := { l1.pair with primAt := some l1.t64, cause := 0 } }
  let lead (i : LaneId) (l : Lane) : Lane := l.leadTime (decide (s.base.primacy = some i ∨ l.st = .solo))
  State.lines { s with a := lead .A (f s.a), b := lead .B (f s.b) }

end Sys2Proof.Machine
end

