-- ==== Sys2Proof/Machine/MemI.lean ====
section
/-! DEFINITION. Memory integrity (R429–R432): codewords corrected and reported, the scrubber, injection. The code corrects
every error in up to 4 bytes of a codeword; a larger one is reported, unless the received word lies near another codeword,
which is then returned as a correction. -/

namespace Sys2Proof.Machine

/-- First page of the MEMI block. -/
def memiPage : Nat := 0xB80

/-- REGION of a DRAM codeword: 0 image and table, 1 hold ring, 2 capture, 3 service, 4 flash queue (R473). -/
def regionOf (i : Nat) : Nat :=
  let g := i * 64 / 0x10000000
  if g < 92 then 1 else if g < 96 then 4 else if g < 112 then 2 else if g < 120 then 0 else 3

/-- The snapshot slot that a codeword belongs to: R473 gives every other area contents of its own, so the slots lie in the image and
table area (R80, R431; DEDUCED, log entry 172). -/
def slotAt (i : Nat) : Option Nat := if regionOf i = 0 then Config.slotOf i else none

/-- The byte groups of nine that a mask of 72 bytes touches. -/
def byteGroups (m : Nat) : Nat := ((List.range 8).map (fun k => if m / 2 ^ (9 * k) % 512 = 0 then 0 else 2 ^ k)).sum

/-- A correction: rewritten, counted, the first latched (R430). -/
def Lane.corrected (l : Lane) (i m : Nat) : Lane :=
  let l0 : Lane := { l with memi := { l.memi with bad := l.memi.bad.filter (fun b => b.1 != i) } }
  let l1 := (l0.cnt F.MEMI_CORR.COUNT 1).ev memiPage 0
  if l1.flag F.MEMI_LAST.VALID then l1
  else (((l1.set F.MEMI_LAST.VALID 1).set F.MEMI_LAST.REGION (regionOf i)).set F.MEMI_LAST.BYTES (byteGroups m)).wr
    Reg.MEMI_LAST_ADDR (word (8 * i))

/-- An error in a codeword of a snapshot slot: an uncorrectable one makes the slot incomplete, a wrong correction leaves contents
that its digest does not match (R80). -/
def Lane.slotError (l : Lane) (i : Nat) (wrong : Bool) : Lane :=
  match slotAt i with
  | none => l
  | some k => { l with slots := l.slots.map (fun s =>
      if s.slot = k then (if wrong then { s with sound := false } else { s with complete := false }) else s) }

/-- An uncorrectable codeword is counted, latched and logged; an image, table or carried-state word fails the lane
(R431). -/
def Lane.uncorrectable (l : Lane) (i source now : Nat) : Lane :=
  let l1 := ((((l.cnt F.MEMI_UNCORR.COUNT 1).ev memiPage 1).errAt memiPage 0x01 source (8 * i) true).logEv memiPage 1 0 1).slotError i false
  if regionOf i = 0 then l1.fail now else l1

/-- A read of DRAM codeword `i` (R429–R431). -/
def Lane.readNear (l : Lane) (i : Nat) (near : Option (List Nat)) (source now : Nat) : Lane :=
  let m := l.wrong i
  if m = 0 then l
  else if popcount 72 m ≤ 4 then l.corrected i m
  else match near with
    | some bs => (({ l with dram := putList l.dram (64 * i) (padTo 64 bs) } : Lane).corrected i m).slotError i true
    | none => l.uncorrectable i source now

/-- A read of DRAM codeword `i` that lies near no other codeword. -/
def Lane.readWord (l : Lane) (i source now : Nat) : Lane := l.readNear i none source now

/-- A read of every codeword of `len` bytes from DRAM offset `off` that has wrong bytes. -/
def Lane.readWords (l : Lane) (off len source now : Nat) : Lane :=
  (l.memi.bad.filter (fun b => decide (off / 64 ≤ b.1 ∧ b.1 * 64 < off + len))).foldl (fun m b => m.readWord b.1 source now) l

/-- Bytes of a codeword have gone wrong. -/
def Lane.spoil (l : Lane) (i m : Nat) : Lane :=
  if m % 2 ^ 72 = 0 then l
  else
    let v := l.wrong i ||| m % 2 ^ 72
    { l with memi := { l.memi with bad := upsert Prod.fst (i, v) l.memi.bad } }

/-- A write replaces whole codewords, whose check bytes are then right. -/
def Lane.freshWords (l : Lane) (off len : Nat) : Lane :=
  { l with memi := { l.memi with bad := l.memi.bad.filter (fun b => !decide (off ≤ b.1 * 64 ∧ b.1 * 64 + 64 ≤ off + len)) } }

/-- Codewords of the DRAM (R432). -/
def dramWords : Nat := 536870912

/-- The scrubber reads its next codeword, in which the bytes of `m` are found wrong besides those known (R432). -/
def Lane.scrub (l : Lane) (m : Nat) (near : Option (List Nat)) (now : Nat) : Lane :=
  let i := l.memi.ptr
  let l0 := l.spoil i m
  let w := l0.wrong i
  let fix := decide (w ≠ 0) && (decide (popcount 72 w ≤ 4) || near.isSome)
  let l1 := l0.readNear i near 0x1B now
  let l2 := if fix ∧ l0.memi.before.contains i then
      (l1.ev memiPage 2).log1 0xB8 0 0x0002 [(8, if l1.stage < 2 then 0 else l1.cycN), (4, (l1.rd (Reg.ERR_CODE memiPage)).toNat),
        (4, 8 * i), (2, 0), (4, 1)]
    else l1
  let h := l2.memi
  let during := if fix then h.during ++ [i] else h.during
  if i + 1 < dramWords then
    Lane.set { l2 with memi := { h with ptr := i + 1, during := during } } F.MEMI_SCRUB.PROGRESS ((i + 1) * 1000 / dramWords)
  else
    let l3 : Lane := { l2 with memi := { h with ptr := 0, before := during, during := [] } }
    ((l3.set F.MEMI_SCRUB.PROGRESS 0).cnt F.MEMI_SCRUB.PASSES 1).ev memiPage 3

/-- A correction in an on-die memory: Reed–Solomon from 64 KiB, else SEC-DED (R429). -/
def Lane.dieCorrected (l : Lane) (rs : Bool) : Lane :=
  (if rs then l.cnt F.MEMI_DIE_CORR.RS 1 else l.cnt F.MEMI_DIE_CORR.SECDED 1).ev memiPage 0

/-- Engine SRAM is kept in mind for the self-check of R115. -/
def Lane.noteSram (l : Lane) : Lane := { l with memi := { l.memi with sram := (l.t64 :: l.memi.sram).take 64 } }

/-- An error met in engine SRAM: corrected in the pipeline, or uncorrectable, which fails the lane (R430, R431). -/
def Lane.sramError (l : Lane) (bytes source now : Nat) : Lane :=
  if bytes = 0 then l
  else if bytes ≤ 4 then (l.dieCorrected true).noteSram
  else (((l.noteSram.ev memiPage 1).err memiPage 0x01 source 0).logEv memiPage 1 0 1).fail now

/-- An error met in another on-die memory of the instance of page `p`; an uncorrectable one latches 0x01 there too (R431). -/
def Lane.dieError (l : Lane) (p : Nat) (rs : Bool) (wrong source : Nat) : Lane :=
  if wrong = 0 then l
  else if wrong ≤ (if rs then 4 else 1) then l.dieCorrected rs
  else (((l.ev memiPage 1).err memiPage 0x01 source 0).logEv memiPage 1 0 1).err p 0x01 source 0

/-- The write of MEMI_INJ (R429): seat 0 only. -/
def Lane.inject (l : Lane) (v seat : Nat) : Lane :=
  if seat ≠ 0 then l.err memiPage 0x40 seat Reg.MEMI_INJ
  else Lane.set { l with memi := { l.memi with inj := v % 256 } } F.MEMI_INJ.BYTES v

/-- A write of DRAM by a seat reaches codeword `i`: an armed injection inverts its bytes once. -/
def Lane.injected (l : Lane) (i seat : Nat) : Lane :=
  if seat = 0 ∧ regionOf i = 3 ∧ l.memi.inj ≠ 0 then
    let m := l.memi.inj
    Lane.set { (l.spoil i m) with memi := { (l.spoil i m).memi with inj := 0 } } F.MEMI_INJ.BYTES 0
  else l

end Sys2Proof.Machine
end

