-- ==== Sys2Proof/Machine/Seats.lean ====
section
/-! DEFINITION. Tokens, seats and the bindings of hosts to seats: claims and releases (R38, R39, R476), the seat image
(R36), HAP sessions (R443), PCIe bindings (R435). -/

namespace Sys2Proof.Machine

/-- First page of the HOST block. -/
def hostPage : Nat := 0xB00

/-- The page of a seat. -/
def seatPage (q : Nat) : Nat := 0x40 + q

/-! ### Tokens -/

/-- Tokens a seat holds. -/
def Lane.tokensOf (l : Lane) (q : Nat) : List Nat := (l.acc.tokens.filter (fun t => t.seat == q)).map Token.token

/-- Replace the tokens held, and show each seat's number. -/
def Lane.withTokens (l : Lane) (ts : List Token) : Lane :=
  let l1 : Lane := { l with acc := { l.acc with tokens := ts } }
  (List.range 8).foldl (fun m q => m.set (F.SEAT_STAT.TOKENS q) (ts.filter (fun t => t.seat == q)).length) l1

/-- Every token of a seat is released (R39). -/
def Lane.releaseSeat (l : Lane) (q : Nat) : Lane := l.withTokens (l.acc.tokens.filter (fun t => t.seat != q))

/-- Outcome of a claim or release on a seat's page: 1 pending, 2 granted or released, 3 refused. -/
def Lane.claimStat (l : Lane) (q st holder token : Nat) : Lane :=
  ((l.set (F.SEAT_CLAIM_STAT.STATE q) st).set (F.SEAT_CLAIM_STAT.HOLDER q) holder).set (F.SEAT_CLAIM_STAT.TOKEN q) token

/-- A SEAT_CLAIM word of seat `q` takes effect (R38, R39). HOLDER shows 0 while the claim is pending, after a release and
after a refused release of a free token (DESIGN CHOICE, log entry 142: R38 gives no value there). -/
def Lane.claimApply (l : Lane) (q : Nat) (w : Word) : Lane :=
  let token := bits w 23 0
  let h := l.holder token
  if bits w 31 31 = 0 then
    match h with
    | some k => if k = q then l.claimStat q 2 q token else l.claimStat q 3 k token
    | none =>
      if 32 ≤ (l.tokensOf q).length then l.claimStat q 3 q token
      else (l.withTokens (upsert Token.token ⟨token, q⟩ l.acc.tokens)).claimStat q 2 q token
  else
    let of := if q = 0 then bits w 26 24 else q
    if h = some of then (l.withTokens (l.acc.tokens.filter (fun t => t.token != token))).claimStat q 2 0 token
    else l.claimStat q 3 (h.getD 0) token

/-- SEAT_TOKEN_QUERY as a write of TOKEN leaves it (R476). HELD and HOLDER are not refreshed when the token changes hands
before the read (DESIGN CHOICE, log entry 66). -/
def Lane.tokenQuery (l : Lane) (q : Nat) (w : Word) : Lane :=
  let token := bits w 23 0
  let h := l.holder token
  ((l.set (F.SEAT_TOKEN_QUERY.TOKEN q) token).setB (F.SEAT_TOKEN_QUERY.HELD q) h.isSome).set (F.SEAT_TOKEN_QUERY.HOLDER q) (h.getD 0)

/-- ENABLE of a seat changes at its effect cycle: a disabled seat loses its tokens (R32, R39). -/
def Lane.seatEnable (l : Lane) (q : Nat) (on : Bool) : Lane :=
  let l1 := l.setB (F.BLK_CTRL.ENABLE (seatPage q)) on
  if on then l1 else l1.releaseSeat q

/-! ### Bindings -/

/-- The seat that this lane's endpoint acts as. -/
def Lane.pcieOf (l : Lane) : Nat := if l.stage < 3 then 0 else l.get F.HOST_PCIE_CFG.SEAT

/-- BOUND and AUTH of a seat follow its session and the PCIe binding (R435, R443). -/
def Lane.showBound (l : Lane) (q : Nat) : Lane :=
  let b := (l.sess q).isSome || (l.flag F.HOST_PCIE_STAT.BOUND && decide (l.get F.HOST_PCIE_CFG.SEAT = q))
  (l.setB (F.SEAT_STAT.BOUND q) b).setB (F.SEAT_STAT.AUTH q) b

/-- The sessions, shown in HOST_HAP_SESS_s. -/
def Lane.withSess (l : Lane) (h : HapC) : Lane :=
  let l1 : Lane := { l with car := { l.car with hap := h } }
  (List.range 8).foldl (fun m q =>
    match h.sess.find? (fun s => s.seat == q) with
    | some s => ((m.set (F.HOST_HAP_SESS.ACTIVE q) 1).set (F.HOST_HAP_SESS.SESSION q) s.num).showBound q
    | none => ((m.set (F.HOST_HAP_SESS.ACTIVE q) 0).set (F.HOST_HAP_SESS.SESSION q) 0).showBound q) l1

/-- The session of a seat ends, with its tokens (R39, R443). -/
def Lane.endSession (l : Lane) (q : Nat) : Lane :=
  match l.sess q with
  | none => l
  | some _ =>
    let l1 := ((l.withSess { l.car.hap with sess := l.car.hap.sess.filter (fun s => s.seat != q) }).releaseSeat q).ev hostPage 1
    { l1 with host := { l1.host with hap := l1.host.hap.filter (fun h => h.seat != q) } }

/-- The seat key of a seat, by the seat image. -/
def Lane.seatKey (l : Lane) (q : Nat) : Option (List Nat) :=
  l.store.seats.bind (fun im => (im.keys.find? (fun k => k.1 == q)).map Prod.snd)

/-- OPEN takes effect in cycle `e`: both lanes derive the session, and a lane that received the OPEN answers (R443). The
session number in the derivation takes 4 bytes, as in the header (log entry 46). -/
def Lane.hapOpened (l : Lane) (q : Nat) (nonce : List Nat) (e : Nat) : Lane :=
  match l.seatKey q with
  | none => l
  | some key =>
    let l0 := l.endSession q
    let num := l0.car.hap.counter % 0xFFFFFF + 1
    let mod := (Sha.hmac key (leBytes 8 e ++ nonce)).take 16
    let sk := Sha.hkdf32 key (nonce ++ mod) ([0x48, 0x41, 0x50, 0x31, q] ++ leBytes 4 num)
    let l1 := (l0.withSess ⟨num, upsert Sess.seat ⟨q, num, sk, e⟩ l0.car.hap.sess⟩).ev hostPage 1
    let mine := l1.host.opens.find? (fun o => o.seat == q && o.nonce == nonce)
    let l2 : Lane := { l1 with
      host := { l1.host with
        opens := l1.host.opens.filter (fun o => !(o.seat == q && o.nonce == nonce)),
        hap := upsert HapL.seat ⟨q, none, [], (mine.map HapOpen.ip).getD 0, (mine.map HapOpen.port).getD 0, []⟩ l1.host.hap } }
    match mine with
    | some o => l2.hapSend o.ip o.port (hapBytes 0x11 0 q 0 num o.seq 0 e (leBytes 4 num ++ mod) key)
    | none => l2

/-- A mirrored op or KEEPALIVE of a seat's session has taken effect in cycle `e` (R443). -/
def Lane.hapTouch (l : Lane) (q e : Nat) : Lane :=
  { l with car := { l.car with hap := { l.car.hap with sess := l.car.hap.sess.map (fun s => if s.seat = q then { s with last := e } else s) } } }

/-! ### The seat image (R36, R435) -/

/-- Without a seat image seat 0 holds 0b10 on every page and granule and seats 1–7 hold 0b01. -/
def rightsDefault (q : Nat) : Word := if q = 0 then 0xAAAAAAAA#32 else 0x55555555#32

/-- Addresses of the rights registers of a seat. -/
def rightsRegs (q : Nat) : List Nat :=
  (List.range 256).map (Reg.SEAT_RIGHTS_PAGE q) ++ (List.range 15).map (Reg.SEAT_RIGHTS_TABLE q) ++
    (List.range 8).map (Reg.SEAT_RIGHTS_DRAM q)

/-- At S3 rights, ENABLE and the binding of the endpoint are taken from the seat image (R32, R36, R435). Without one ENABLE
of seats 1 to 7 is 0 (DESIGN CHOICE, log entry 56: the spec gives only their rights). -/
def Lane.loadSeats (l : Lane) : Lane :=
  match l.store.seats with
  | some im =>
    let l1 := im.rights.foldl (fun m x => m.wr x.1 x.2) l
    let l2 := (List.range 8).foldl (fun m q => m.setB (F.BLK_CTRL.ENABLE (seatPage q)) (q = 0 || im.enables.testBit q)) l1
    (((l2.set F.HOST_PCIE_CFG.SEAT (if l.num = 0 then im.seatA else im.seatB)).set F.HOST_HAP_IP.ADDR (if l.num = 0 then im.ipA else im.ipB)).set
      F.HOST_HAP_CFG.IDLE_S im.idle).set F.HOST_HAP_CFG.VID im.vid
  | none =>
    (List.range 8).foldl (fun m q =>
      ((rightsRegs q).foldl (fun k a => k.wr a (rightsDefault q)) m).set (F.BLK_CTRL.ENABLE (seatPage q)) (if q = 0 then 1 else 0)) l

/-- The endpoint is bound to its seat (R435). -/
def Lane.bindPcie (l : Lane) : Lane :=
  if l.stage = 3 ∧ l.flag F.HOST_PCIE_STAT.LINK = true ∧ l.flag F.HOST_PCIE_STAT.BOUND = false then
    ((l.set F.HOST_PCIE_STAT.BOUND 1).showBound (l.get F.HOST_PCIE_CFG.SEAT)).ev hostPage 1
  else l

end Sys2Proof.Machine
end

