-- ==== Sys2Proof/Machine/Trace.lean ====
section
/-! DEFINITION. A trace on its way to its buffer in the service area (R150–R152, R403). -/

namespace Sys2Proof.Machine

/-- The registers of a trace. -/
structure TrcPort where
  page : Nat
  /-- mode and WRAP fields, buffer address and size in 4 KiB, write pointer -/
  mode : Fld
  wrap : Fld
  lo : Nat
  hi : Nat
  size : Nat
  wptr : Nat
  /-- bits of TRC_DONE and TRC_DROP -/
  done : Nat
  drop : Nat

/-- The cycle trace and the work trace. -/
def cycleTrc : TrcPort :=
  ⟨0x100, F.CYCLE_TRC_CTRL.MODE, F.CYCLE_TRC_CTRL.WRAP, Reg.CYCLE_TRC_BASE_LO, Reg.CYCLE_TRC_BASE_HI, Reg.CYCLE_TRC_SIZE, Reg.CYCLE_TRC_WPTR, 6, 7⟩
def workTrc : TrcPort :=
  ⟨0x900, F.WORK_TRC_CTRL.MODE, F.WORK_TRC_CTRL.WRAP, Reg.WORK_TRC_BASE_LO, Reg.WORK_TRC_BASE_HI, Reg.WORK_TRC_SIZE, Reg.WORK_TRC_WPTR, 2, 3⟩

/-- The buffer as a byte offset in lane DRAM and its size in bytes, if it is aligned and wholly within the service area. -/
def Lane.trcBuf (l : Lane) (p : TrcPort) : Option (Nat × Nat) :=
  let a := (l.rd p.lo).toNat + (l.rd p.hi).toNat % 256 * 2 ^ 32
  let n := (l.rd p.size).toNat
  if a % 4096 = 0 ∧ 0x1780000000 ≤ a ∧ 1 ≤ n ∧ n ≤ 262144 ∧ a + 4096 * n ≤ 0x1800000000 then some (a - 0x1000000000, 4096 * n) else none

/-- Insert the WINDFALL record once space has returned; `wf` makes it from the number dropped (R152). -/
def Lane.trcWindfall (l : Lane) (p : TrcPort) (t : Trc) (wf : Nat → List Nat) : Lane × Trc :=
  if t.drop ≠ 0 ∧ t.q.length < 4096 then (l.ev p.page p.drop, ⟨t.q ++ [wf t.drop], 0⟩) else (l, t)

/-- A record meets the on-die queue: it enters, or the newest is dropped (R152). -/
def Lane.trcPush (l : Lane) (p : TrcPort) (t : Trc) (r : List Nat) (wf : Nat → List Nat) : Lane × Trc :=
  let x := l.trcWindfall p t wf
  if x.2.q.length < 4096 then (x.1, ⟨x.2.q ++ [r], x.2.drop⟩) else (x.1, ⟨x.2.q, x.2.drop + 1⟩)

/-- The buffer is full: without WRAP the trace has stopped, and nothing is written past its end (R152). -/
def Lane.trcFull (l : Lane) (p : TrcPort) : Bool :=
  match l.trcBuf p with
  | some (_, size) => decide (size ≤ (l.rd p.wptr).toNat)
  | none => false

/-- The oldest record drains to the buffer; a full buffer without WRAP stops the trace (R152). -/
def Lane.trcDrain (l : Lane) (p : TrcPort) (t : Trc) : Lane × Trc :=
  match t.q, l.trcBuf p with
  | r :: q, some (off, size) =>
    let w := (l.rd p.wptr).toNat
    let l1 : Lane := { l with dram := putList l.dram (off + w) r }
    if size ≤ w then (l, ⟨[], 0⟩)
    else if w + 16 < size then (l1.wr p.wptr (word (w + 16)), ⟨q, t.drop⟩)
    else if l.flag p.wrap then (l1.wr p.wptr 0#32, ⟨q, t.drop⟩)
    else (((l1.wr p.wptr (word size)).set p.mode 0).ev p.page p.done, ⟨[], 0⟩)
  | _, _ => (l, t)

/-- The oldest record of the cycle trace drains; a trace that has filled its buffer records no more (R150, R152). -/
def Lane.drainCycle (l : Lane) : Lane :=
  let x := l.trcDrain cycleTrc l.cyc.trc
  { x.1 with cyc := { x.1.cyc with trc := x.2, trcCfg := if x.1.trcFull cycleTrc then x.1.cyc.trcCfg / 4 * 4 else x.1.cyc.trcCfg } }

/-- The oldest records of both trace queues drain (R152, R403). -/
def Lane.drainTraces (l : Lane) : Lane :=
  let l1 := l.drainCycle
  let y := l1.trcDrain workTrc l1.work.trc
  { y.1 with work := { y.1.work with trc := y.2 } }

/-- What the trace queues drain in `k` ticks, at 3.2 GB/s: a record of 16 bytes in two ticks. -/
def Lane.drainFor (l : Lane) (k : Nat) : Lane :=
  (List.range (min k (max l.cyc.trc.q.length l.work.trc.q.length))).foldl (fun m _ => m.drainTraces) l

end Sys2Proof.Machine
end

