-- ==== Sys2Proof/Machine/Work.lean ====
section
/-! DEFINITION. Service cores and work items (R389–R403). -/

namespace Sys2Proof.Machine

/-- Register page of the scheduler. -/
def workPage : Nat := 0x900

/-! ### The words of an item (R392) -/

def Item.w (it : Item) (k : Nat) : Nat := it.ws.getD k 0
def Item.func (it : Item) : Nat := it.w 0 / 2 ^ 16
def Item.prio (it : Item) : Nat := it.w 0 / 2 ^ 11 % 32
def Item.mirror (it : Item) : Bool := (it.w 0).testBit 10
def Item.delayed (it : Item) : Bool := (it.w 0).testBit 9
def Item.list (it : Item) : Nat := it.w 0 / 2 ^ 7 % 4
def Item.flow (it : Item) : Nat := it.w 1 / 2 ^ 20
def Item.reply (it : Item) : Nat := it.w 1 / 2 ^ 12 % 256
def Item.noReply (it : Item) : Bool := (it.w 1).testBit 11
def Item.id (it : Item) : Nat := it.w 2 + it.w 3 * 2 ^ 32
def Item.seat (it : Item) : Nat := it.w 3 / 2 ^ 24 % 8
def Item.argA (it : Item) : Nat := it.w 4
def Item.argB (it : Item) : Nat := it.w 5
def Item.deadline (it : Item) : Nat := it.w 6 + it.w 7 * 2 ^ 32
def Item.resultOfs (it : Item) : Nat := it.w 6 % 2 ^ 24

/-- An item as submitted, SRC set to the seat. -/
def itemOf (ws : List Nat) (seat : Nat) : Item :=
  ⟨ws.set 3 (ws.getD 3 0 % 2 ^ 24 + seat * 2 ^ 24), [], false, false, false, none⟩

/-- The functions (R390). -/
def funcs : List Nat := [0x0000, 0x0001, 0x0002, 0x0003, 0x0010, 0x0020, 0x0021]

/-- Change the scheduler's hidden state. -/
def Lane.withWork (l : Lane) (f : WorkH → WorkH) : Lane := { l with work := f l.work }

/-! ### Trace (R403) -/

/-- The 16 bytes of a trace record. -/
def workRec (t ev core id flow prio status : Nat) : List Nat :=
  leBytes 6 t ++ [ev, core] ++ leBytes 4 id ++ leBytes 2 (flow % 4096) ++ [prio, status]

/-- Effective priority of a waiting item: the highest of its flow (R395). -/
def WorkH.eff (h : WorkH) (it : Item) : Nat :=
  if it.flow = 0 then it.prio
  else ((h.queue ++ h.paused.map CoreH.item).filter (fun x => x.flow == it.flow)).foldl (fun b x => min b x.prio) it.prio

/-- One trace record of an item. -/
def Lane.workTrace (l : Lane) (ev core : Nat) (it : Item) (status : Nat) : Lane :=
  let fl := l.get F.WORK_TRC_CTRL.FLOW
  if l.flag F.WORK_TRC_CTRL.MODE && decide (fl = 0 ∨ fl = it.flow) then
    let prio := l.work.eff it + (if it.late then 32 else 0) + (if it.wCore then 64 else 0) + (if it.wFlow then 128 else 0)
    let x := l.trcPush workTrc l.work.trc (workRec l.t64 ev core (it.id % 2 ^ 32) it.flow prio status)
      (fun n => workRec l.t64 0x1F 0xFF n 0 0 0)
    x.1.withWork (fun h => { h with trc := x.2 })
  else l

/-- Space returns in the full queue of the work trace (R403). -/
def Lane.workTrcWindfall (l : Lane) : Lane :=
  let x := l.trcWindfall workTrc l.work.trc (fun n => workRec l.t64 0x1F 0xFF n 0 0 0)
  x.1.withWork (fun h => { h with trc := x.2 })

/-- A write of WORK_TRC_CTRL takes effect: a trace starts at the buffer's beginning, or is refused (R403). -/
def Lane.workTrcCtrl (l : Lane) (w : Word) (source : Nat) : Lane :=
  let l1 := l.wr Reg.WORK_TRC_CTRL w
  if l1.flag F.WORK_TRC_CTRL.MODE = false then l1
  else if (l1.trcBuf workTrc).isNone then (l1.set F.WORK_TRC_CTRL.MODE 0).err workPage 0x41 source Reg.WORK_TRC_CTRL
  else if l.flag F.WORK_TRC_CTRL.MODE then l1
  else (l1.wr Reg.WORK_TRC_WPTR 0#32).withWork (fun h => { h with trc := ⟨[], 0⟩ })

/-! ### The queue (R393–R398) -/

/-- An item is ready (R395). -/
def WorkH.isReady (h : WorkH) (it : Item) : Bool :=
  if it.flow = 0 then true
  else
    !((h.cores ++ h.paused).any (fun c => c.item.flow == it.flow)) &&
      (h.queue.filter (fun x => x.flow == it.flow)).all (fun x => decide (it.arr ≤ x.arr))

/-- A core may run: 0 to 7 from S3, 8 to 15 under a SERVICE_BOOST grant (R397). -/
def Lane.coreRuns (l : Lane) (c : Nat) : Bool := decide (3 ≤ l.stage) && (decide (c < 8) || l.granted 6 0)

/-- The lowest free core. -/
def Lane.freeCore (l : Lane) : Option Nat :=
  (List.range 16).find? (fun c => l.coreRuns c && !(l.work.cores.any (fun x => x.core == c)))

/-- Show the scheduler in its registers, and mark what the waiting items wait for. -/
def Lane.workShow (l : Lane) (now : Nat) : Lane :=
  let h := l.work
  let freeC := l.freeCore.isSome
  let q := h.queue.map (fun it =>
    if h.isReady it then { it with ready := some (it.ready.getD now), wCore := it.wCore || !freeC } else { it with wFlow := true })
  let l1 := l.withWork (fun h => { h with queue := q })
  let l2 := ((l1.set F.WORK_STAT.DELAYED h.delay.length).setB F.WORK_STAT.BOOST (l.granted 6 0)).set F.WORK_STAT.BUSY h.cores.length
  (List.range 16).foldl (fun m c =>
    match h.cores.find? (fun x => x.core == c) with
    | some x =>
      ((((m.set (F.WORK_CORE_STAT.FUNC c) x.item.func).set (F.WORK_CORE_STAT.FLOW c) x.item.flow).set (F.WORK_CORE_STAT.STATE c) 2).set
        (F.WORK_CORE_ID_LO.ID c) (x.item.w 2)).set (F.WORK_CORE_ID_HI.ID c) (x.item.w 3)
    | none =>
      let st := if h.paused.any (fun x => x.core == c) then 3 else if l.coreRuns c then 1 else 0
      ((m.set (F.WORK_CORE_STAT.FUNC c) 0).set (F.WORK_CORE_STAT.FLOW c) 0).set (F.WORK_CORE_STAT.STATE c) st) l2

/-- An item enters the queue with its arrival. -/
def Lane.workQueue (l : Lane) (it : Item) (arr : List Nat) (now : Nat) : Lane :=
  (l.withWork (fun h => { h with queue := h.queue ++ [{ it with arr := arr ++ [h.order] }], order := h.order + 1 })).workShow now

/-- The cause for which a submission is refused, if any (R393). -/
def Lane.workRefusal (l : Lane) (it : Item) : Option Nat :=
  if !it.delayed && decide (16384 ≤ l.work.queue.length) then some 0x01
  else if it.delayed && decide (4096 ≤ (l.work.delay.filter (fun x => x.list == it.list)).length) then some 0x02
  else if !it.noReply && !(l.flag (F.FIFO_CFG.EN it.reply) && decide (l.get (F.FIFO_CFG.PRODUCER it.reply) = 0x19)) then some 0x03
  else if it.mirror && it.delayed then some 0x04
  else if !funcs.contains it.func then some 0x05
  else if it.mirror && !(((l.image.map ImageSet.workAreas).getD []).any (fun a =>
      decide (a.1 ≤ it.resultOfs ∧ it.resultOfs < a.1 + a.2))) then some 0x06
  else none

/-- Results of a seat: RES, CANCEL, CODE. -/
def WorkH.resOf (h : WorkH) (seat : Nat) : Nat × Nat × Nat := ((h.res.find? (fun x => x.1 == seat)).map Prod.snd).getD (0, 0, 0)

/-- Store the result of a seat. -/
def Lane.setRes (l : Lane) (seat : Nat) (r : Nat × Nat × Nat) : Lane :=
  l.withWork (fun h => { h with res := upsert Prod.fst (seat, r) h.res })

/-- The staged words of a seat. -/
def WorkH.stagedOf (h : WorkH) (seat : Nat) : List Nat := ((h.staged.find? (fun x => x.1 == seat)).map Prod.snd).getD (List.replicate 8 0)

/-- A seat stages word `k`. -/
def Lane.workStage (l : Lane) (seat k : Nat) (w : Word) : Lane :=
  l.withWork (fun h => { h with staged := upsert Prod.fst (seat, (h.stagedOf seat).set k w.toNat) h.staged })

/-- A seat submits its eight staged words (R393, R394, R398). -/
def Lane.workSubmit (l : Lane) (pcie : Bool) (seat key now : Nat) : Lane :=
  let it := itemOf (l.work.stagedOf seat) seat
  match l.workRefusal it with
  | some c =>
    ((((l.setRes seat (2, (l.work.resOf seat).2.1, c)).cnt F.WORK_COUNT.REFUSED 1).ev workPage 0).err workPage 0x40 seat (Reg.WORK_SUB 7)).workTrace 0x07 0xFF it c
  | none =>
    let l1 := l.setRes seat (1, (l.work.resOf seat).2.1, 0)
    if it.mirror then l1.enterBy pcie (.work it.ws) (some seat) key
    else if it.delayed then
      let it1 := { it with late := decide (it.deadline < l.t64), arr := [l1.work.order] }
      ((l1.withWork (fun h => { h with delay := h.delay ++ [it1], order := h.order + 1 })).workTrace 0x02 0xFF it1 0).workShow now
    else (l1.workTrace 0x01 0xFF it 0).workQueue it [now / 2, 2, seat] now

/-- A mirrored submission takes effect (R394). -/
def Lane.workMirrored (l : Lane) (ws : List Nat) (now : Nat) : Lane :=
  let it : Item := ⟨ws, [], false, false, false, none⟩
  ((l.withWork (fun h => { h with replies := upsert Prod.fst (it.id, it.reply, it.noReply) h.replies })).workTrace 0x01 0xFF it 0).workQueue it [now / 2, 1] now

/-- The items that a tick at TIME64 `t` releases, by list, deadline and acceptance (R396, R398). -/
def WorkH.dueAt (h : WorkH) (t : Nat) : List Item :=
  let due := h.delay.filter (fun it => decide (it.deadline < t + 10000))
  due.foldr (fun it acc =>
    let key (x : Item) : List Nat := [x.list, x.deadline] ++ x.arr
    (acc.filter (fun x => decide (key x < key it))) ++ it :: acc.filter (fun x => decide (¬(key x < key it)))) []

/-- The scheduler's tick at a multiple of 10,000 ns of TIME64 (R398). -/
def Lane.delayTick (l : Lane) (now : Nat) : Lane :=
  let k := l.t64 / 10000
  if k ≤ l.work.tickAt then l
  else
    let due := l.work.dueAt (k * 10000)
    let l1 := l.withWork (fun h => { h with tickAt := k, delay := h.delay.filter (fun it => decide (¬(it.deadline < k * 10000 + 10000))) })
    (due.foldl (fun m it =>
      let m1 := if it.late then m.ev workPage 1 else m
      (m1.workTrace 0x03 0xFF it 0).workQueue it [now / 2, 0, it.list, it.deadline] now) l1).workShow now

/-! ### Ranges and arguments (R390, R391) -/

/-- A little-endian word of the service area. -/
def Lane.svcWord (l : Lane) (ofs : Nat) : Nat := bytesAt l.dram (svcArea + ofs) 4

/-- The service-area ranges an item names, as offset and length. -/
def Lane.itemRanges (l : Lane) (it : Item) : List (Nat × Nat) :=
  let d (k : Nat) : Nat := l.svcWord (it.argB + 4 * k)
  let c (k : Nat) : Nat := l.svcWord (it.argA + 4 * k)
  match it.func with
  | 0x0002 => [(it.argB, 4 + d 0)]
  | 0x0010 => [(it.argB, 12), (d 2, 4096 * d 1)]
  | 0x0020 => [(it.argA, it.argB)]
  | 0x0021 => [(it.argA, 12), (c 0, c 2), (c 1, c 2)]
  | _ => []

/-- An argument is invalid: a ring, position or length out of range, a range beyond the service area. -/
def Lane.argBad (l : Lane) (it : Item) : Bool :=
  let ring := decide (24 ≤ it.argA / 2 ^ 24) || decide (64 ≤ it.argA / 2 ^ 16 % 256)
  (match it.func with
    | 0x0001 => ring || decide (it.argB = 0 ∨ 4096 < it.argB)
    | 0x0002 => ring || decide (l.svcWord it.argB = 0 ∨ 4096 < l.svcWord it.argB)
    | 0x0003 => decide (24 ≤ it.argA / 2 ^ 24)
    | _ => false) || (l.itemRanges it).any (fun r => decide (svcBytes < r.1 + r.2))

/-- The seat may use every range the item names (R391). -/
def Lane.itemRights (l : Lane) (it : Item) : Bool :=
  (l.itemRanges it).all (fun r => (granules (svcArea + r.1) r.2).all (fun g => l.mayWriteGranule it.seat g))

/-- A status that an item has before it runs. -/
def Lane.itemBad (l : Lane) (it : Item) : Option Nat :=
  if l.argBad it then some 0x02 else if l.itemRights it then none else some 0x06

/-- The ring requests of an item, with tags from `tag` on (R262, R390; log entry 39). -/
def Lane.itemReqs (l : Lane) (it : Item) (tag : Nat) : List Acyc :=
  let ring := it.argA / 2 ^ 24
  let pos := it.argA / 2 ^ 16 % 256
  let obj := leBytes 2 it.argA
  match it.func with
  | 0x0001 => [⟨ring, pos, 1, tag, padTo (max it.argB 2) obj⟩]
  | 0x0002 => [⟨ring, pos, 2, tag, obj ++ listAt l.dram (svcArea + it.argB + 4) (l.svcWord it.argB)⟩]
  | 0x0003 => (List.range 64).map (fun p => ⟨ring, p, 3, tag + p, [0, 0, 0, 0]⟩)
  | _ => []

/-! ### Dispatch (R395, R397) -/

/-- The best candidate for a free core: preempted items first within a level, then the earliest arrival. -/
def WorkH.best (h : WorkH) : Option (Sum CoreH Item) :=
  let cs := h.paused.map (fun c => ([h.eff c.item, 0] ++ c.item.arr, Sum.inl c)) ++
    (h.queue.filter h.isReady).map (fun it => ([h.eff it, 1] ++ it.arr, Sum.inr it))
  (cs.foldl (fun (b : Option (List Nat × Sum CoreH Item)) c =>
    match b with
    | none => some c
    | some x => if c.1 < x.1 then some c else some x) none).map Prod.snd

/-- A free core is given the ready item of the highest effective priority. -/
def Lane.workDispatch (l : Lane) (now : Nat) : Lane :=
  match l.freeCore, l.work.best with
  | some c, some (.inl x) =>
    ((l.workTrace 0x04 c x.item 0).withWork (fun h =>
      { h with paused := h.paused.filter (fun y => y.core != x.core), cores := h.cores ++ [{ x with core := c }] })).workShow now
  | some c, some (.inr it) =>
    let bad := l.itemBad it
    let reqs := if bad.isSome then [] else l.itemReqs it l.work.tags
    let l1 := (l.workTrace 0x04 c it 0).withWork (fun h =>
      { h with
          queue := h.queue.filter (fun x => !(x == it)), tags := h.tags + reqs.length,
          cores := h.cores ++ [⟨c, it, now, bad, reqs.map Acyc.tag⟩] })
    Lane.workShow { l1 with ring := { l1.ring with acycQ := l1.ring.acycQ ++ reqs } } now
  | _, _ => l

/-- A revoked or ended boost: items on cores 8 to 15 stop at their safe points and return to the head of their level. -/
def Lane.workPreempt (l : Lane) (now : Nat) : Lane :=
  let stopped := l.work.cores.filter (fun c => decide (8 ≤ c.core))
  let l1 := stopped.foldl (fun m c => m.workTrace 0x08 c.core c.item 0) l
  ((l1.withWork (fun h => { h with cores := h.cores.filter (fun c => decide (c.core < 8)), paused := stopped ++ h.paused })).ev workPage 4).workShow now

/-- A ready item has waited WAIT_US: SERVICE_BOOST is requested for IDLE_MS (R397). -/
def Lane.boostRequest (l : Lane) (now : Nat) : Lane :=
  let asked := l.granted 6 0 || l.asking 6 0
  let waited := l.work.queue.any (fun it => match it.ready with | some t => decide (t + l.get F.WORK_BOOST.WAIT_US * 400 ≤ now) | none => false)
  if waited && !asked then l.ledgerAsk 6 (classQuanta 6) (l.get F.WORK_BOOST.IDLE_MS * 1000000) 0 now else l

/-- Cores 8 to 15 run from now on. -/
def Lane.boostGranted (l : Lane) (now : Nat) : Lane := ((l.withWork (fun h => { h with idle := now })).ev workPage 4).workShow now

/-- Cores 8 to 15 have been idle for IDLE_MS: the grant is released (R397). -/
def Lane.boostRelease (l : Lane) (now : Nat) : Lane :=
  if l.granted 6 0 && !(l.work.cores.any (fun c => decide (8 ≤ c.core))) &&
      decide (l.work.idle + l.get F.WORK_BOOST.IDLE_MS * 400000 ≤ now) then
    ((l.ledgerFree 6 0 now).ev workPage 4).workShow now
  else l

/-! ### Completion (R399, R400) -/

/-- The bytes of a completion message. -/
def message (id func status : Nat) (data : List Nat) : List Nat :=
  leBytes 8 id ++ [0, status] ++ leBytes 2 func ++ leBytes 4 data.length ++ data

/-- The message goes to a reply FIFO. -/
def Lane.sendReply (l : Lane) (reply : Nat) (bs : List Nat) (now : Nat) : Lane := fifoMessage reply now (bs.length / 4 + 1) bs l

/-- What an entry or an own result says, for comparison (R400). -/
def resultBytes (func status : Nat) (data : List Nat) : List Nat := leBytes 2 func ++ [status] ++ data

/-- The item of a core completes with a status and data. -/
def Lane.workFinish (l : Lane) (c : CoreH) (status0 : Nat) (data0 : List Nat) (prime : Bool) (now : Nat) : Lane :=
  let it := c.item
  let long := it.mirror && decide (192 < data0.length)
  let status := if long then 0x04 else status0
  let data := if long ∨ status0 ≠ 0 then [] else data0
  let l1 := (l.workTrace 0x05 c.core it status).withWork (fun h =>
    { h with cores := h.cores.filter (fun x => x.core != c.core), idle := if 8 ≤ c.core then now else h.idle })
  let l2 := l1.set F.WORK_COUNT.DONE ((l1.get F.WORK_COUNT.DONE + 1) % 2 ^ 16)
  let l3 :=
    if it.mirror then
      if prime then l2.enter (.svc it.id it.func status it.resultOfs data) none it.id
      else
        match l2.work.seen.find? (fun x => x.1 == it.id) with
        | some x =>
          let l4 := l2.withWork (fun h => { h with seen := h.seen.filter (fun y => y.1 != it.id) })
          if x.2 = resultBytes it.func status data then l4 else l4.cnt F.PAIR_DIFF.SVC 1
        | none => l2.withWork (fun h => { h with own := h.own ++ [(it.id, resultBytes it.func status data)] })
    else if it.noReply then l2
    else l2.sendReply it.reply (message it.id it.func status data) now
  l3.workShow now

/-- An entry of kind 0x08 takes effect: result area, own message, comparison (R400). -/
def Lane.workResult (l : Lane) (id func status ofs : Nat) (data : List Nat) (own : Bool) (now : Nat) : Lane :=
  let l1 := l.putImg ofs 4 data.length
  let l2 : Lane := { l1 with car := { l1.car with img := putList l1.car.img (ofs + 4) data } }
  let l3 := match l2.work.replies.find? (fun x => x.1 == id) with
    | some x => if x.2.2 then l2 else l2.sendReply x.2.1 (message id func status data) now
    | none => l2
  let l4 := l3.withWork (fun h => { h with replies := h.replies.filter (fun x => x.1 != id) })
  if own then l4
  else
    match l4.work.own.find? (fun x => x.1 == id) with
    | some x =>
      let l5 := l4.withWork (fun h => { h with own := h.own.filter (fun y => y.1 != id) })
      if x.2 = resultBytes func status data then l5 else l5.cnt F.PAIR_DIFF.SVC 1
    | none => l4.withWork (fun h => { h with seen := h.seen ++ [(id, resultBytes func status data)] })

/-- The punnets of a set in the hold ring from a PSEQ on, up to `n` (R390). -/
def Lane.holdFind (l : Lane) (set : Nat) : Nat → Nat → Nat → List Nat
  | 0, _, _ => []
  | k + 1, n, s =>
    if n = 0 ∨ l.recd.cnt.pseq ≤ s then []
    else if bytesAt l.dram (4096 * (s % holdSlots) + 24) 4 % 4096 = set then s :: l.holdFind set k (n - 1) (s + 1)
    else l.holdFind set k n (s + 1)

/-- What a function computes: its result data, and the lane with what it writes. -/
def Lane.workRun (l : Lane) (c : CoreH) : List Nat × Lane :=
  let it := c.item
  let answer (tag : Nat) : List Nat := ((l.ring.acycIn.find? (fun a => a.tag == tag)).map Acyc.data).getD []
  let d (k : Nat) : Nat := l.svcWord (it.argB + 4 * k)
  match it.func with
  | 0x0000 => (leBytes 4 it.argA ++ leBytes 4 it.argB, l)
  | 0x0001 => ((answer (c.tags.getD 0 0)).take it.argB, l)
  | 0x0003 => ((c.tags.map (fun t => padTo 4 (answer t))).flatten, l)
  | 0x0010 =>
    let old := l.recd.cnt.pseq - holdSlots
    let first := max old (l.recd.cnt.pseq / 2 ^ 32 * 2 ^ 32 + d 0)
    let ss := l.holdFind (it.argA % 4096) (l.recd.cnt.pseq - first) (d 1) first
    let bs := (ss.map (fun s => listAt l.dram (4096 * (s % holdSlots)) 4096)).flatten
    (leBytes 4 ss.length ++ leBytes 4 ((ss.head?).getD 0), { l with dram := putList l.dram (svcArea + d 2) bs })
  | 0x0020 => (leBytes 4 (crc32c (listAt l.dram (svcArea + it.argA) it.argB)), l)
  | 0x0021 =>
    let e (k : Nat) : Nat := l.svcWord (it.argA + 4 * k)
    ([], { l with dram := putList l.dram (svcArea + e 1) (listAt l.dram (svcArea + e 0) (e 2)) })
  | _ => ([], l)

/-- The item in service on a core completes, once its ring requests are answered. -/
def Lane.workDone (l : Lane) (core : Nat) (prime : Bool) (now : Nat) : Lane :=
  match l.work.cores.find? (fun c => c.core == core) with
  | none => l
  | some c =>
    match c.bad with
    | some st => l.workFinish c st [] prime now
    | none =>
      if c.tags.all (fun t => l.ring.acycIn.any (fun a => a.tag == t)) then
        let r := l.workRun c
        let l1 : Lane := { r.2 with ring := { r.2.ring with acycIn := r.2.ring.acycIn.filter (fun a => !c.tags.contains a.tag) } }
        l1.workFinish c 0 r.1 prime now
      else l

/-- A ring request has no response within 100 ms: STATUS 0x03; a discovery completes with zeros where nothing answered
(R390). -/
def Lane.acycTimeout (l : Lane) (core : Nat) (prime : Bool) (now : Nat) : Lane :=
  match l.work.cores.find? (fun c => c.core == core) with
  | none => l
  | some c =>
    if c.bad = none ∧ c.tags ≠ [] ∧ c.since + 40000000 ≤ now then
      let r := l.workRun c
      let l1 : Lane := { l with
        ring := { l.ring with
          acycIn := l.ring.acycIn.filter (fun a => !c.tags.contains a.tag), acycQ := l.ring.acycQ.filter (fun a => !c.tags.contains a.tag),
          acycOut := l.ring.acycOut.filter (fun a => !c.tags.contains a.tag) } }
      if c.item.func = 0x0003 then l1.workFinish c 0 r.1 prime now else l1.workFinish c 0x03 [] prime now
    else l

/-- An item that was dispatched in this CLK_REG cycle goes back: a cancel in the same cycle comes before its dispatch (R396). -/
def Lane.undispatch (l : Lane) (id now : Nat) : Lane :=
  match l.work.cores.find? (fun c => c.item.id == id && decide (c.since / 2 = now / 2)) with
  | none => l
  | some c => Lane.withWork { l with ring := { l.ring with acycQ := l.ring.acycQ.filter (fun a => !c.tags.contains a.tag) } }
      (fun h => { h with cores := h.cores.filter (fun x => x.core != c.core), queue := h.queue ++ [c.item] })

/-- A cancel takes effect: a waiting or delayed item goes, with its message of LEN 0 (R396, R399). -/
def Lane.workCancel (l0 : Lane) (id seat now : Nat) : Lane :=
  let l := l0.undispatch id now
  let r := l.work.resOf seat
  match (l.work.queue ++ l.work.delay).find? (fun it => it.id == id) with
  | none => l.setRes seat (r.1, 2, r.2.2)
  | some it =>
    let l1 := ((l.workTrace 0x06 0xFF it 0).setRes seat (r.1, 1, r.2.2)).withWork (fun h =>
      { h with
          queue := h.queue.filter (fun x => !(x == it)), delay := h.delay.filter (fun x => !(x == it)),
          replies := h.replies.filter (fun x => x.1 != id) })
    (if it.noReply then l1 else l1.sendReply it.reply (message id it.func 0x05 []) now).workShow now

/-- A mirrored item of this identity waits, or is on its way in the mirror set. -/
def Lane.mirrorItem (l : Lane) (id : Nat) : Bool :=
  l.work.queue.any (fun it => it.id == id && it.mirror) ||
    l.pair.entries.any (fun e => match e.pay with | .work ws => Item.id ⟨ws, [], false, false, false, none⟩ == id | _ => false)

/-- A write of WORK_CANCEL_HI: mirrored for a mirrored item, else at once. -/
def Lane.workCancelWrite (l : Lane) (pcie : Bool) (hi seat key now : Nat) : Lane :=
  let id := (l.rd Reg.WORK_CANCEL_LO).toNat + hi * 2 ^ 32
  if l.mirrorItem id then l.enterBy pcie (.workCancel id) (some seat) key else l.workCancel id seat now

/-- A time step moves every deadline (R58, R398). -/
def Lane.workStep (l : Lane) (d : Int) : Lane :=
  l.withWork (fun h =>
    { h with
        delay := h.delay.map (fun it =>
          let t := ((it.deadline : Int) + d).toNat
          { it with ws := (it.ws.set 6 (t % 2 ^ 32)).set 7 (t / 2 ^ 32) }),
        tickAt := (((h.tickAt * 10000 : Nat) : Int) + d).toNat / 10000 })

/-- WORK_SUB_k and WORK_SUB_RES as a seat reads them (R393). -/
def Lane.workSubRead (l : Lane) (seat k : Nat) : Word := word ((l.work.stagedOf seat).getD k 0)
def Lane.workResRead (l : Lane) (seat : Nat) : Word :=
  let r := l.work.resOf seat
  word (r.1 * 2 ^ 30 + r.2.1 * 2 ^ 28 + r.2.2 * 2 ^ 16 + min (l.work.queue.length + l.work.delay.length) 65535)

end Sys2Proof.Machine
end

