-- ==== Sys2Proof/Machine/Time.lean ====
section
/-! DEFINITION. The time base (chapter 03): its ticks, steps, states and servo, the alignment of two lanes, time
triggers, PPS and SYNC. -/

namespace Sys2Proof.Machine

/-- The increment in units of 2^-32 ns (R47). -/
def Lane.incr (l : Lane) : Nat := 2 * 2 ^ 32 + (l.rd Reg.TIME_INC).toNat

/-- Keep TIME_NOW current. -/
def Lane.showTime (l : Lane) : Lane := l.set64 Reg.TIME_NOW_LO Reg.TIME_NOW_HI l.t64

/-- The time states in which PPS out is driven (R67). -/
def ppsState (st : Nat) : Bool := decide (st = 1 ∨ st = 3 ∨ st = 4)

/-- `k` CLK_TIME ticks of the accumulator, up to tick `now` (R46); PPS out rises at a whole second of TIME64 for 100 ms in
FREE, LOCKED or HOLDOVER, SYNC out falls after its width (R67), half the cycle period whatever DIV is (DESIGN CHOICE, log entry 145: R67
does not say which period); PPS_PRESENT lasts 1.1 s. -/
def Lane.timeTicks (l : Lane) (k now : Nat) : Lane :=
  let t0 := l.t64
  let acc := l.time.acc + k * l.incr
  let t := acc / 2 ^ 32
  let st := l.get F.TIME_STAT.STATE
  let pps := (if t0 / 1000000000 < t / 1000000000 then some (t / 1000000000 * 1000000000)
    else l.time.ppsOut).filter (fun u => decide (t < u + 100000000) && ppsState st)
  let width := min (l.get F.TIME_SYNC_CFG.WIDTH * 100) (l.period / 2)
  let sync := l.time.syncOut.filter (fun u => decide (t < u + width))
  let l1 : Lane := Lane.showTime { l with time := { l.time with acc := acc, ppsOut := pps, syncOut := sync } }
  match l1.time.pps with
  | some u => if u + 440000000 < now ∧ l1.flag F.TIME_STAT.PPS_PRESENT then l1.set F.TIME_STAT.PPS_PRESENT 0 else l1
  | none => l1

/-- A nanosecond value moved by a step. -/
def moved (t : Nat) (d : Int) : Nat := ((t : Int) + d).toNat

/-- The instants of a line moved by a step. -/
def Line.move (x : Line) (d : Int) : Line := { x with since := moved x.since d, trans := x.trans.map (fun t => moved t d) }

/-- A 64-bit time held in two words of a table window is moved. -/
def Lane.moveWin (l : Lane) (lo : Nat) (d : Int) : Lane :=
  let v := moved ((l.win lo).toNat + (l.win (lo + 4)).toNat * 2 ^ 32) d
  (l.putWin lo (word v)).putWin (lo + 4) (word (v / 2 ^ 32))

/-- The running timers of cyclic programs, by their START words. -/
def Lane.runningTimers (l : Lane) : List Nat :=
  (l.car.win.filter (fun c => decide (0x01C00000 ≤ c.1 ∧ c.1 < 0x01C80000 ∧ c.1 % 32 = 0) && decide (bits c.2 27 27 = 1))).map (fun c => c.1 + 16)

/-- The START of every running timer is moved, so that it sees true time (R58, R198). -/
def Lane.moveTimers (l : Lane) (d : Int) : Lane := l.runningTimers.foldl (fun m a => m.moveWin a d) l

/-- The TIME64 values of carried state, as future targets or starts of intervals: the cycle origin, timers, recipes, ring axes,
the trial's timers (R58). -/
def Lane.moveCarried (l : Lane) (d : Int) : Lane :=
  let org := l.get64 Reg.CYCLE_ORG_T_LO Reg.CYCLE_ORG_T_HI
  let l1 := (l.moveTimers d).set64 Reg.CYCLE_ORG_T_LO Reg.CYCLE_ORG_T_HI (moved org d)
  let chan (e : ChanI) : ChanI := { e with ta := moved e.ta d, heldT := moved e.heldT d, dwells := e.dwells.map (fun (x : Nat × Nat) => (x.1, moved x.2 d)) }
  let axi (e : AxisI) : AxisI := { e with lneg := e.lneg.move d, lpos := e.lpos.move d, lhome := e.lhome.move d }
  { l1 with
      trial := l1.trial.map (fun t => { t with car := t.car.map (fun c => (Lane.moveTimers { l1 with car := c } d).car) })
      start := { l1.start with origin := l1.start.origin.map (fun (x : Nat × Nat) => (x.1, moved x.2 d)) }
      car := { l1.car with chans := l1.car.chans.map chan, axes := l1.car.axes.map axi } }

/-- The target of an armed trigger is moved, in its registers too (R58). -/
def Lane.moveTrig (l : Lane) (d : Int) (n : Nat) : Lane :=
  if l.flag (F.TT_CTRL.ARM n) then
    let t := l.time.trig.getD n ⟨0, 0⟩
    let l1 : Lane := { l with time := { l.time with trig := l.time.trig.set n ⟨moved t.tgt d, moved t.next d⟩ } }
    (l1.wr (Reg.TT_TGT_LO n) (word (moved t.tgt d))).wr (Reg.TT_TGT_HI n) (word (moved t.tgt d / 2 ^ 32))
  else l

/-- The TIME64 values that a lane holds of its own: triggers, pulses, captures, delay lists, debounced lines, open punnets (R58). -/
def Lane.moveOwn (l : Lane) (d : Int) : Lane :=
  let l1 := (List.range 32).foldl (fun m n => m.moveTrig d n) l
  let item (it : Item) : Item :=
    let v := moved it.deadline d
    { it with ws := it.ws.take 6 ++ [v % 2 ^ 32, v / 2 ^ 32 % 2 ^ 32] }
  let hw (h : AxHw) : AxHw := { h with lneg := h.lneg.move d, lpos := h.lpos.move d, lhome := h.lhome.move d }
  { l1 with
      store := { l1.store with lastRec := l1.store.lastRec.map (fun x => (x.1, moved x.2.1 d, x.2.2)) }
      time := { l1.time with ppsOut := l1.time.ppsOut.map (fun t => moved t d), syncOut := l1.time.syncOut.map (fun t => moved t d) },
      start := { l1.start with ready := l1.start.ready.map (fun t => moved t d) },
      axis := { l1.axis with hw := l1.axis.hw.map hw },
      ain := { l1.ain with convs := l1.ain.convs.map (fun c => { c with src := c.src.map (fun t => moved t d) }) },
      capt := { l1.capt with
        startAt := l1.capt.startAt.map (fun t => moved t d), t0 := moved l1.capt.t0 d, headAt := moved l1.capt.headAt d,
        ts := moved l1.capt.ts (256 * d), stopAt := l1.capt.stopAt.map (fun (x : Nat × Nat) => (moved x.1 (256 * d), x.2)) },
      recd := { l1.recd with opens := l1.recd.opens.map (fun p => { p with since := p.since.map (fun t => moved t d) }) },
      work := { l1.work with delay := l1.work.delay.map item, tickAt := moved (l1.work.tickAt * 10000) d / 10000 },
      pair := { l1.pair with primAt := l1.pair.primAt.map (fun t => moved t d) },
      memi := { l1.memi with sram := l1.memi.sram.map (fun t => moved t d) } }

/-- Move every TIME64 value that the lane holds as a future target or as the start of an interval (R58). -/
def Lane.moveTargets (l : Lane) (d : Int) : Lane := (l.moveCarried d).moveOwn d

/-- TIME64 itself steps, with the record of the time before and after (R58). -/
def Lane.stepClock (l : Lane) (d : Int) : Lane :=
  let t0 := l.t64
  let l2 : Lane := { l with time := { l.time with acc := ((l.time.acc : Int) + d * 2 ^ 32).toNat } }
  (l2.showTime.ev timePage 1).log1 0x01 0 0x0107 [(8, t0), (8, l2.t64)]

/-- A step of Δ ns at a cycle boundary: TIME64, every target, one event record with the time before and after (R58). -/
def Lane.timeStep (l : Lane) (d : Int) : Lane :=
  let l1 := l.moveTargets d
  Lane.stepClock { l1 with time := { l1.time with pendSet := none } } d

/-- The step of a lane in SHADOW beside a running one: the same Δ on what it holds of its own; its carried state follows as it
computes the cycle of the step (R58, R121). -/
def Lane.timeStepShadow (l : Lane) (d : Int) : Lane := (l.moveOwn d).stepClock d

/-- A change of time state takes effect (R59). -/
def Lane.timeState (l : Lane) (st : Nat) : Lane :=
  if l.get F.TIME_STAT.STATE = st then l
  else
    let l1 : Lane := { l with time := { l.time with ppsOut := if ppsState st then l.time.ppsOut else none } }
    (l1.set F.TIME_STAT.STATE st).ev timePage 0

/-- A TIME_SET takes effect at the start of cycle `e`: a step to S at t_E, or at the next PPS edge (R66); it is refused
while SOURCE is neither 0 nor 3. `source` is the party for ERR_CODE. -/
def Lane.timeSet (l0 : Lane) (s e source : Nat) : Lane :=
  let tE := l0.tOf e
  let l := l0.wr Reg.TIME_SET_HI (word (s / 2 ^ 32))
  if l.get F.TIME_CTRL.SOURCE ≠ 0 ∧ l.get F.TIME_CTRL.SOURCE ≠ 3 then l.err timePage 0x41 source Reg.TIME_SET_HI
  else if l.flag F.TIME_CTRL.SET_AT_PPS then { l with time := { l.time with pendSet := some (s, tE) } }
  else
    let l1 := l.timeStep ((s : Int) - tE)
    if l1.get F.TIME_STAT.STATE = 0 ∨ l1.get F.TIME_CTRL.SOURCE = 0 then l1.timeState 1 else l1

/-- A time-base correction of kind 0x01, or a TIME_SET, at the boundary of cycle `e` (R58, R59, R66). A
change of source leaves the time state as it was (DESIGN CHOICE, log entry 143: R49 has no row for it). -/
def Lane.timeApply (l : Lane) (e source : Nat) : Payload → Lane
  | .timeStep d =>
    let set := l.time.pendSet.isSome
    let l1 := l.timeStep d
    if set ∧ l1.get F.TIME_STAT.STATE = 0 then l1.timeState 1 else l1
  | .timeState st => l.timeState st
  | .timeSource src => l.set F.TIME_STAT.SOURCE_ACT src
  | .timeUtc w => l.wr Reg.TIME_UTC w
  | .timeSet s => l.timeSet s e source
  | _ => l

/-- The Δ of a TIME_SET at the boundary of cycle `e`, where it is a step at once: the running lane's t_E fixes it for both (R66). -/
def Lane.setDelta (l : Lane) (v e : Nat) : Option Int :=
  if (l.get F.TIME_CTRL.SOURCE ≠ 0 ∧ l.get F.TIME_CTRL.SOURCE ≠ 3) ∨ l.flag F.TIME_CTRL.SET_AT_PPS = true then none else some ((v : Int) - l.tOf e)

/-! ### The servo (R49, R54–R57) -/

/-- The bounds of FRAC (R47). -/
def fracLo : Int := 0x7FBE76C9
def fracHi : Int := 0x80418937

/-- 200 ppm of the increment in units of FRAC (R57). -/
def slewMax : Int := 2147483

/-- The increment is the frequency correction and at most 200 ppm to slew, inside R47 (R57). -/
def Lane.steer (l : Lane) (d : Int) : Lane :=
  l.wr Reg.TIME_INC (word (clampI ((l.time.freq : Int) + clampI d (-slewMax) slewMax) fracLo fracHi).toNat)

/-- The frequency correction that a servo update leaves (R47, R57). -/
def Lane.learn (l : Lane) (off : Int) : Lane :=
  { l with time := { l.time with freq := (clampI (Config.servoFreq l.time.freq off) fracLo fracHi).toNat } }

/-- An offset is slewed: the frequency correction learns from it and the increment takes up to 200 ppm more (R57). -/
def Lane.slew (l : Lane) (off : Int) : Lane :=
  let l1 := l.learn off
  l1.steer (Config.servoDelta l1.time.freq off)

/-- The lane leads time: it holds primacy, or is alone (R60). -/
def Lane.leads (l : Lane) : Bool := l.flag F.TIME_STAT.LEADER

/-- A correction that the leading lane decides: an entry of kind 0x01 while cycles run, else at once (log entry 43). -/
def Lane.correct (l : Lane) (p : Payload) : Lane :=
  if l.running then (if l.pair.entries.any (fun e => e.pay == p) then l else l.enter p none 0)
  else l.timeApply l.cycN 0x11 p

/-- The state that the last correction under way will leave (R59). -/
def Lane.nextState (l : Lane) : Nat :=
  (l.pair.entries.foldl (fun (a : Option Nat) e => match e.pay with | .timeState s => some s | _ => a) none).getD (l.get F.TIME_STAT.STATE)

/-- A correction of the time state towards `st`. -/
def Lane.correctState (l : Lane) (st : Nat) : Lane := if l.nextState = st then l else l.correct (.timeState st)

/-- The active source is PTP or the 10 MHz and PPS inputs. -/
def Lane.disciplined (l : Lane) : Bool := decide (1 ≤ l.get F.TIME_STAT.SOURCE_ACT ∧ l.get F.TIME_STAT.SOURCE_ACT ≤ 3)

/-- The source that TIME_CTRL selects is there: a PTP port that is up, edges of the 10 MHz input (R54, R55). -/
def Lane.sourceUp (l : Lane) : Bool :=
  match l.get F.TIME_CTRL.SOURCE with
  | 0 => true
  | 3 => l.flag F.TIME_STAT.REF10_PRESENT
  | _ => match l.get F.TIME_CTRL.PTP_PORT with
    | 1 => l.time.trUp.1
    | 2 => l.time.trUp.2.1
    | 3 => l.time.trUp.1 || l.time.trUp.2.1
    | _ => true

/-- The source that TIME_CTRL selects becomes the active one; a leading lane carries the change to both (R54, R59). -/
def Lane.sourceTake (l : Lane) : Lane :=
  let src := l.get F.TIME_CTRL.SOURCE
  if src = l.get F.TIME_STAT.SOURCE_ACT then l
  else
    let l1 : Lane := { l with time := { l.time with good := 0 } }
    if l1.leads then l1.correct (.timeSource src) else if l1.running then l1 else l1.timeApply 0 0x11 (.timeSource src)

/-- A measurement against the reference arrives (R49, R54, R57, R59, R62): offset in ns, UTC offset and leap indicators. In
free-run and with source 3 it is that of the 10 MHz input. The follower runs the servo in shadow: its count of good updates
and its frequency correction follow, its increment and the mirrored values do not. One update of 100 ns or more takes LOCKED
back to LOCKING (DESIGN CHOICE, log entry 144: R49 does not say how LOCKED is lost while the reference stays). -/
def Lane.servo (l : Lane) (off : Int) (utc : Word) : Lane :=
  let l0 := l.wr Reg.TIME_OFFSET (word (twos 32 (clampI off (-2147483647) 2147483647)))
  let l1 := if l.get F.TIME_STAT.SOURCE_ACT = 0 ∨ l.get F.TIME_STAT.SOURCE_ACT = 3 then
      (let m := l0.set F.TIME_STAT.REF10_PRESENT 1; if m.get F.TIME_CTRL.SOURCE = 3 then m.sourceTake else m) else l0
  if l1.disciplined = false then l1
  else
    let good := if off.natAbs < 100 then l1.time.good + 1 else 0
    let l2 : Lane := { l1 with time := { l1.time with good := min good 16 } }
    if l2.leads = false then l2.learn off
    else
      let ptp := decide (l.get F.TIME_STAT.SOURCE_ACT ≤ 2)
      let far := decide (l.get F.TIME_STEP_LIMIT.US * 1000 ≤ off.natAbs)
      let stepDue := l2.pair.entries.any (fun e => match e.pay with | .timeStep _ => true | _ => false)
      let l3 := if far && ptp && l.flag F.TIME_CTRL.STEP_EN then (if stepDue then l2 else l2.correct (.timeStep (-off))) else l2.slew off
      let l4 := if 16 ≤ good then l3.correctState 3
        else if l3.nextState = 3 ∧ off.natAbs < 100 then l3 else l3.correctState 2
      if ptp ∧ l4.rd Reg.TIME_UTC ≠ utc then l4.correct (.timeUtc utc) else l4

/-- The reference is lost (R49, R55): HOLDOVER after LOCKED; LOCKING ends in FREE (log entry 44). -/
def Lane.refLost (l : Lane) : Lane :=
  let l1 := if l.get F.TIME_STAT.SOURCE_ACT = 0 ∨ l.get F.TIME_STAT.SOURCE_ACT = 3 then l.set F.TIME_STAT.REF10_PRESENT 0 else l
  let l2 := Lane.ev { l1 with time := { l1.time with good := 0 } } timePage 2
  if l2.leads = false ∨ l2.disciplined = false then l2
  else if l2.nextState = 3 then l2.correctState 4
  else if l2.nextState = 2 then l2.correctState 1
  else l2

/-- A rising PPS edge in TDC bin `b` (R52, R56, R66): stamped; the leading lane turns a waiting TIME_SET into a step from
the whole second the edge marks. -/
def Lane.ppsIn (l : Lane) (b now : Nat) : Lane :=
  let t := (fineStamp l.time.acc l.incr b).1
  let l1 := (((l.set64 Reg.TIME_PPSIN_LO Reg.TIME_PPSIN_HI t).set F.TIME_STAT.PPS_PRESENT 1).ev timePage 6)
  let l2 : Lane := { l1 with time := { l1.time with pps := some now } }
  match l2.time.pendSet with
  | some (s, tE) =>
    if t < tE then l2
    else
      let w := (t + 500000000) / 1000000000 * 1000000000
      if l2.leads then (if l2.pair.entries.any (fun e => e.pay == .timeStep ((s : Int) - w)) then l2 else l2.correct (.timeStep ((s : Int) - w)))
      else l2
  | none =>
    -- an edge more than 1 µs from a whole second moves the second phase by slewing (R56)
    let off : Int := (t : Int) - ((t + 500000000) / 1000000000 * 1000000000 : Nat)
    if l2.get F.TIME_STAT.SOURCE_ACT = 3 ∧ l2.leads = true ∧ 1000 < off.natAbs then l2.slew off else l2

/-- A TIME_CTRL write takes effect: an unavailable source leaves the active source as it is (R54, R59, R66). -/
def Lane.timeCtrl (l : Lane) (source : Nat) : Lane :=
  if l.sourceUp then l.sourceTake else l.err timePage 0x40 source Reg.TIME_CTRL

/-! ### Two lanes on one time (R60, R61) -/

/-- A follower steers its own increment by its offset from the leader, own time less the leader's, in 1/256 ns (R60). -/
def Lane.follow (l : Lane) (off : Int) : Lane := l.steer (Config.followDelta l.time.freq off)

/-- A marker exchange at the follower: stamps in 1/256 ns, of sending by the leader, receipt here, sending here, receipt
there, and the path asymmetry measured at pairing (R60). The second part tells that the third miss in a row has come
while PAIRED (R61). -/
def Lane.marker (l : Lane) (t1 t2 t3 t4 asym : Int) : Lane × Bool :=
  let off := Int.fdiv ((t2 - t1) - (t4 - t3)) 2 - asym
  let miss := if 768 < off.natAbs then l.time.miss + 1 else 0
  let l1 := ((l.set F.TIME_ALIGN.OFS (twos 16 (clampI off (-32768) 32767))).setB F.TIME_STAT.ALIGN_OK (decide (off.natAbs ≤ 256))).follow off
  let fault := decide (3 ≤ miss ∧ l.st = .paired)
  let l2 : Lane := { l1 with time := { l1.time with
    miss := if fault then 0 else miss, unaligned := fault || (l1.time.unaligned && decide (256 < off.natAbs)) } }
  (if fault then l2.ev timePage 3 else l2, fault)

/-! ### Time triggers (R64–R66) -/

/-- General trigger `n`. -/
def Lane.trig (l : Lane) (n : Nat) : Trig := l.time.trig.getD n ⟨0, 0⟩

/-- Store general trigger `n`. -/
def Lane.setTrig (l : Lane) (n : Nat) (t : Trig) : Lane := { l with time := { l.time with trig := l.time.trig.set n t } }

/-- Trigger `n` fires now (R64): TT_FIRED, its event, the next target of a series, an end of a one-shot; capture units on
the trigger see it. -/
def Lane.ttFire (l : Lane) (n : Nat) (prime : Bool) (now : Nat) : Lane :=
  let t := l.trig n
  let l1 := l.wr Reg.TT_FIRED (l.rd Reg.TT_FIRED ||| word (2 ^ n))
  let l2 := if l1.flag (F.TT_CTRL.IRQ n) then l1.ev timePage 5 else l1
  let l3 := if l2.flag (F.TT_CTRL.PERIODIC n) then l2.setTrig n { t with next := t.next + (l2.rd (Reg.TT_PERIOD n)).toNat }
    else l2.set (F.TT_CTRL.ARM n) 0
  l3.timeUnits n t.next prime now

/-- A trigger whose target the accumulator has reached. -/
def Lane.ttDue (l : Lane) (n : Nat) : Bool := l.flag (F.TT_CTRL.ARM n) && decide ((l.trig n).next ≤ l.t64)

/-- Trigger `n` is armed with its committed target (R65). -/
def Lane.ttArm (l : Lane) (n source : Nat) (prime : Bool) (now : Nat) : Lane :=
  let tgt := (l.trig n).tgt
  let per := (l.rd (Reg.TT_PERIOD n)).toNat
  let l0 := l.set (F.TT_CTRL.MISSED n) 0
  if l0.flag (F.TT_CTRL.PERIODIC n) then
    if per = 0 then (l0.set (F.TT_CTRL.ARM n) 0).err timePage 0x03 source (Reg.TT_CTRL n)
    else
      let k := if tgt < l.t64 then (l.t64 - tgt) / per + 1 else 0
      let l1 := (l0.set (F.TT_CTRL.ARM n) 1).setTrig n ⟨tgt, tgt + k * per⟩
      if k = 0 then l1 else ((l1.set (F.TT_CTRL.LATE n) 1).set (F.TT_CTRL.MISSED n) (min k 65535)).ev timePage 4
  else
    let l1 := (l0.set (F.TT_CTRL.ARM n) 1).setTrig n ⟨tgt, tgt⟩
    if tgt < l.t64 then ((l1.set (F.TT_CTRL.LATE n) 1).ev timePage 4).ttFire n prime now else l1

/-- A TT_CTRL write takes effect on its mirrored fields (R65). -/
def Lane.ttCtrl (l : Lane) (n : Nat) (w : Word) (source : Nat) (prime : Bool) (now : Nat) : Lane :=
  let l1 := (l.set (F.TT_CTRL.IRQ n) (bits w 4 4)).set (F.TT_CTRL.PERIODIC n) (bits w 1 1)
  if bits w 0 0 = 1 then l1.ttArm n source prime now else l1.set (F.TT_CTRL.ARM n) 0

/-- A TT_TGT_HI write commits the target; an armed trigger takes it at once (R66, log entry 45). -/
def Lane.ttTgt (l : Lane) (n : Nat) (w : Word) (source : Nat) (prime : Bool) (now : Nat) : Lane :=
  let l1 := l.wr (Reg.TT_TGT_HI n) w
  let t := (l1.rd (Reg.TT_TGT_LO n)).toNat + w.toNat * 2 ^ 32
  let l2 := l1.setTrig n { l1.trig n with tgt := t }
  if l2.flag (F.TT_CTRL.ARM n) then l2.ttArm n source prime now else l2

/-- SYNC out at the start of cycle `n` (R67); its width is half the cycle period (DESIGN CHOICE, log entry 145). -/
def Lane.syncOut (l : Lane) (n : Nat) : Lane :=
  if l.flag F.TIME_SYNC_CFG.EN ∧ n % max (l.get F.TIME_SYNC_CFG.DIV) 1 = 0 then { l with time := { l.time with syncOut := some (l.tOf n) } }
  else l

/-- The other lane's time, taken at S1 by a lane that starts beside a running one (R48): the accumulator, the time state,
the active source, UTC. -/
def Lane.takeTime (l o : Lane) : Lane :=
  let l1 := (((l.set F.TIME_STAT.STATE (o.get F.TIME_STAT.STATE)).set F.TIME_STAT.SOURCE_ACT (o.get F.TIME_STAT.SOURCE_ACT)).wr
    Reg.TIME_UTC (o.rd Reg.TIME_UTC))
  Lane.showTime { l1 with time := { l1.time with acc := o.time.acc } }

end Sys2Proof.Machine
end

