-- ==== Sys2Proof/Machine/Apply.lean ====
section
/-! DEFINITION. What a mirror entry does on a lane when it takes effect: mirrored register and table-window writes,
commands, and the other kinds of R103; duplicates (R99). -/

namespace Sys2Proof.Machine

/-! ### Values that read back as others -/

/-- A field of a word, replaced by a function of its value. -/
def mapBits (hi lo : Nat) (f : Nat → Nat) (w : Word) : Word := withBits w hi lo (f (bits w hi lo))

/-- 0 reads back as 1. -/
def oneUp (n : Nat) : Nat := max n 1

/-- The word that a register takes where the tables say that a value reads back as another. -/
def coerce (addr : Nat) (w : Word) : Word :=
  match blkOf (addr / 0x1000) with
  | none => w
  | some b =>
    let k := addr / 0x1000 - b.page0
    let o := addr % 0x1000
    match b.ty with
    | 0x00 => if o = 0x048 then mapBits 15 8 (fun n => min (oneUp n) 100) w else w
    | 0x01 =>
      if k = 0 ∧ o = 0x064 then mapBits 19 0 (fun n => min (oneUp n) 1000000) w
      else if k = 1 ∧ o = 0x048 then mapBits 23 16 oneUp (mapBits 15 0 oneUp w) else w
    | 0x03 => if k = 3 ∧ o = 0x040 then mapBits 23 8 oneUp w else w
    | 0x10 => if k = 2 ∧ o = 0x040 then mapBits 31 16 oneUp w else w
    | 0x40 =>
      if o = 0x040 then mapBits 15 8 oneUp w else if o = 0x044 then mapBits 2 0 (fun n => min (oneUp n) 4) w else w
    | 0x60 =>
      if k = 0 ∧ o = 0x048 then mapBits 23 16 oneUp (mapBits 15 0 oneUp w)
      else if k = 1 ∧ 0x100 ≤ o ∧ o < 0x200 then mapBits 15 8 oneUp w else w
    | 0x70 => if o = 0x040 then mapBits 23 16 oneUp (mapBits 15 8 oneUp w) else w
    | 0x88 => if k = 0 ∧ o = 0x040 then mapBits 31 16 oneUp w else if k = 3 ∧ o = 0x048 then mapBits 11 2 oneUp w else w
    | 0x90 => if k = 0 ∧ o = 0x070 then mapBits 31 16 oneUp (mapBits 15 0 oneUp w) else w
    | 0x98 =>
      if 0x100 ≤ o ∧ (o - 0x100) % 0x40 = 0x0C then mapBits 2 0 (fun n => if n = 0 ∨ 4 < n then 4 else n) w
      else if 0x100 ≤ o ∧ (o - 0x100) % 0x40 = 0x18 then mapBits 16 0 oneUp w else w
    | _ => w

/-- Store the masked bits of `data` in a register, as it reads back. -/
def Lane.store' (l : Lane) (addr : Nat) (data mask : Word) : Lane :=
  l.wr addr (coerce addr ((l.rd addr &&& ~~~mask) ||| (data &&& mask)))

/-! ### The bits that are mirrored -/

/-- The bits of a register that enter the mirror set (R33): those that its chapter marks; ENABLE of a seat; LEDGER_WAIT of
the mirrored classes. TIME_SET_LO travels in the entry of TIME_SET_HI (R66), and a cancel in an entry of its own (R396). -/
def mirMask (addr : Nat) : Word :=
  match blkOf (addr / 0x1000), rowOf addr with
  | some b, some r =>
    let o := addr % 0x1000
    if b.ty = 0x04 ∧ o = 0x008 then 1#32
    else if b.ty = 0x01 ∧ addr = Reg.TIME_SET_LO then 0#32
    else if b.ty = 0x02 ∧ Reg.LEDGER_WAIT 0 ≤ addr ∧ addr < Reg.LEDGER_WAIT 3 then word r.rw
    else if b.ty = 0x90 then 0#32
    else if 0x02C ≤ o then word r.mir else 0#32
  | _, _ => 0#32

/-! ### One mirrored write -/

/-- What an entry brings to an application: the party for ERR_CODE.SOURCE, whether this lane holds primacy, the effect
cycle, the tick. -/
structure ApplyCtx where
  source : Nat
  prime : Bool
  cyc : Nat
  now : Nat

/-- A mirrored write of a loop table takes effect, or is refused as a whole with the words it came with (R170, R183). -/
def Lane.loopWrite (l : Lane) (ws : List (Nat × Word × Word)) (c : ApplyCtx) : Lane :=
  let l1 := ws.foldl (fun m x => m.putWin x.1 ((m.win x.1 &&& ~~~x.2.2) ||| (x.2.1 &&& x.2.2))) l
  match ws.find? (fun x => !tableOk l1 x.1) with
  | none => (ws.flatMap (fun x => modeSeen l x.1 (l.win x.1) (l1.win x.1))).foldl Lane.apply l1
  | some x => l.err (l.loopServer x.1) 0x41 c.source x.1

/-- HOST_HALT.SOFT takes effect: the halt is in force, or lasts as long as the input does (R446). -/
def Lane.haltShow (l : Lane) (on : Bool) : Lane :=
  if l.flag F.HOST_HALT.ACTIVE = on then l
  else
    let l1 := (l.setB F.HOST_HALT.ACTIVE on).ev hostPage 2
    if on then l1.cnt F.HOST_HALT.COUNT 1 else l1

/-- AIN_OW_CFG takes effect, or is refused for its SLOT_US (R274). -/
def Lane.owCfg (l : Lane) (data mask : Word) (source : Nat) : Lane :=
  let l1 := l.store' Reg.AIN_OW_CFG data mask
  let us := l1.get F.AIN_OW_CFG.SLOT_US
  if us < 5 ∨ 200 < us ∨ (l.period ≠ 0 ∧ l.period < us * 1000 + 5000) then l.err ainPage 0x40 source Reg.AIN_OW_CFG else l1

/-- The axis whose AXIS_CMD and AXIS_TGT stand at an address, by the places of direct and ring axes (R292). -/
def axisOf (addr : Nat) : Nat :=
  let p := addr / 0x1000
  if p < 0x691 then p - 0x681 else 16 * (p - 0x690) + (addr % 0x1000 - 0x80) / 0x80

/-- The codes of implemented pages in register `k` of SEAT_RIGHTS_PAGE; the others read 0b00 and do not change. -/
def implMask (k : Nat) : Word :=
  word (((List.range 16).map (fun j => if (blkOf (16 * k + j)).isSome then 3 * 4 ^ j else 0)).sum)

/-- A write to a mirrored register takes effect. -/
def Lane.mirReg (l : Lane) (addr : Nat) (data mask : Word) (c : ApplyCtx) : Lane :=
  let p := addr / 0x1000
  let o := addr % 0x1000
  let w := data &&& mask
  let plain := l.store' addr data mask
  match (blkOf p).map Blk.ty with
  | some 0x01 =>
    if addr = Reg.TIME_CTRL then plain.timeCtrl c.source
    else if p = 0x011 ∧ 0x100 ≤ o ∧ o < 0x300 then
      let n := (o - 0x100) / 0x10
      match o % 0x10 with
      | 0x0 =>
        let l1 := if bits w 8 8 = 1 then l.set (F.TT_CTRL.LATE n) 0 else l
        l1.ttCtrl n w c.source c.prime c.now
      | 0x8 => l.ttTgt n data c.source c.prime c.now
      | _ => plain
    else plain
  | some 0x04 =>
    if o = 0x008 then l.seatEnable (p - 0x40) (decide (bits data 0 0 = 1))
    else if 0x400 ≤ o ∧ o < 0x800 then l.store' addr data (mask &&& implMask ((o - 0x400) / 4))
    else plain
  | some 0x30 =>
    if o = 0x100 then
      let l1 := if bits w 0 0 = 1 then l.prepare else l
      if bits w 2 2 = 1 then l1.abandon else l1
    else
      let l1 := l.store' addr data (mask &&& 0xFF000000#32)
      progCmd l1 (p - 0x300) ((o - 0x80) / 8) (bits w 2 0) c.source
  | some 0x38 => if o = 0x040 then (chanCmd ⟨l, []⟩ (p - 0x381) (bits w 2 0) (bits w 27 16) c.cyc c.source).l else plain
  | some 0x44 => l.staCmd ((p - 0x440) / 16) ((p - 0x440) % 16 * 4 + (o - 0x100) / 0x100) (bits w 1 0) c.source
  | some 0x60 =>
    if addr = Reg.AIN_CTRL then
      let l1 := l.store' addr data (mask &&& 0x00FF0000#32)
      let l2 := if bits w 15 15 = 1 then l1.ainAck (bits w 13 8) else l1
      l2.fullReq (bits w 0 0) c.source c.now
    else if addr = Reg.AIN_OW_CFG then l.owCfg data mask c.source
    else if p = 0x601 ∧ o < 0x200 then
      l.chCfg ((o - 0x100) / 4) (coerce addr ((l.rd addr &&& ~~~mask) ||| w)) c.source
        (l.tOf c.cyc + l.get F.CYCLE_TRING.NS + l.get F.CYCLE_MERGE.NS)
    else if p = 0x601 ∧ o < 0x300 then plain.bandWrite ((o - 0x200) / 4)
    else if p = 0x601 then plain.bandWrite ((o - 0x300) / 4)
    else plain
  | some 0x68 => if o % 0x80 = 0 then l.axisCmd (axisOf addr) (bits w 3 0) else plain
  | some 0x70 =>
    if o = 0x040 then
      let l1 := l.store' addr data (mask &&& 0x00FFFF07#32)
      if bits w 3 3 = 1 then l1.busRecReq (p - 0x700) else l1
    else l.busObjCmd (p - 0x700) (bits w 6 0) (bits w 9 8) c.source
  | some 0x78 =>
    if addr = Reg.SAFE_LOAD_CTRL then
      let l1 := if bits w 0 0 = 1 then l.safeLoad c.source else l
      if bits w 1 1 = 1 then l1.safeActivate c.cyc c.source else l1
    else plain
  | some 0x80 =>
    if addr = Reg.CAPT_CTRL then l.captCmd (bits w 1 0) c.cyc c.prime c.source c.now
    else l.captWrite addr ((l.rd addr &&& ~~~mask) ||| w) c.source
  | some 0xB0 => plain.haltShow (decide (bits w 0 0 = 1) || l.flag F.HOST_HALT.PIN)
  | _ => plain

/-- The writes of one access take effect together: loop-table words are checked as one (R170), others in turn; a host-writable
variable takes its bytes (R212). -/
def Lane.mirWrites (l : Lane) (ws : List (Nat × Word × Word)) (c : ApplyCtx) : Lane :=
  let isLoop (a : Nat) : Bool := decide (0x01400000 ≤ a ∧ a < 0x01800000)
  if ws.all (fun x => isLoop x.1) then l.loopWrite ws c
  else ws.foldl (fun m x =>
    if isLoop x.1 then m.loopWrite [x] c
    else if 0x01800000 ≤ x.1 ∧ x.1 < 0x01C00000 then m.putWin x.1 ((m.win x.1 &&& ~~~x.2.2) ||| (x.2.1 &&& x.2.2))
    else if 0x04000000 ≤ x.1 ∧ x.1 < 0x04008000 then m.axisPe x.1 x.2.1 x.2.2 c.source
    else m.mirReg x.1 x.2.1 x.2.2 c) l

/-! ### Duplicates (R99, R104) -/

/-- The bus and frame-start stamp of a reception entry. -/
def Entry.frame (e : Entry) : Option (Nat × Nat) := match e.pay with | .busRx b _ _ _ _ t _ => some (b, t) | _ => none

/-- An entry repeats one already applied within the last 65,536 effect cycles. -/
def Lane.duplicate (l : Lane) (e : Entry) : Bool :=
  l.pair.keys.any (fun k => decide (k.kind = e.kind ∧ e.effect < k.effect + 65536) &&
    ((decide (e.key ≠ 0 ∧ k.key = e.key)) ||
      (match e.frame with
        | some f => decide (k.key / 2 ^ 56 = f.1) && sameFrame (k.key % 2 ^ 56) (f.2 % 2 ^ 56)
        | none => false)))

/-- Remember the key of an entry that is applied, and forget those that can match no more. -/
def Lane.noteKey (l : Lane) (e : Entry) : Lane :=
  let ks := l.pair.keys.filter (fun k => decide (e.effect < k.effect + 65536))
  { l with pair := { l.pair with keys := if e.key ≠ 0 then ks ++ [⟨e.kind, e.key, e.effect⟩] else ks } }

/-! ### One entry -/

/-- Entries that take effect at the boundary t_E itself: time-base corrections, sets of time, transfers, leaves, joins
(R58, R66, R110, R121); the others take effect in the merge phase (R98). -/
def Entry.atBoundary (e : Entry) : Bool :=
  match e.pay with
  | .timeStep _ | .timeState _ | .timeSource _ | .timeUtc _ | .timeSet _ | .transfer | .leave _ _ _ | .join _ => true
  | _ => false

/-- What an entry does, beside transfers, leaves and joins, which change both lanes. -/
def Lane.entryEffect (l : Lane) (e : Entry) (prime : Bool) (now : Nat) : Lane :=
  let seat := e.seat.getD 0
  let c : ApplyCtx := ⟨match e.seat with | some q => q | none => 0x11, prime, e.effect, now⟩
  match e.pay with
  | .commit sl => l.commitEffect sl e.effect
  | .claim w => l.claimApply seat w
  | .rights ws => l.mirWrites ws c
  | .regWrite ws => l.mirWrites ws c
  | .command ws => l.mirWrites ws c
  | .ledger cls q d who => l.ledgerAsk cls q d who now
  | .work ws => l.workMirrored ws now
  | .workCancel id => l.workCancel id seat now
  | .svc id func st ofs data => l.workResult id func st ofs data (decide (e.origin = l.self)) now
  | .busRx b k f i d t s => l.storeRx b k f i d t s
  | .busStat b st tec rxe => l.storeStat b st tec rxe
  | .hapOpen q nonce => l.hapOpened q nonce e.effect
  | .hapClose q n => if (l.sess q).map Sess.num = some n then l.endSession q else l
  | .hapAlive q n => if (l.sess q).map Sess.num = some n then l.hapTouch q e.effect else l
  | .stamp src t s =>
    let l1 : Lane := { l with cyc := { l.cyc with stamps := l.cyc.stamps ++ [(src, t, s)] } }
    if 0x4000 ≤ src then l1.captMet src (t * 256 + s) else l1
  | .transfer => l
  | .leave _ _ _ => l
  | .join _ => l
  | p => l.timeApply e.effect c.source p

/-- An entry takes effect on a lane, or is discarded as a duplicate and counted; mirrored writes are counted by the
function they came over (R99, R436), and keep a session alive (R443). -/
def Lane.applyEntry (l : Lane) (e : Entry) (prime : Bool) (now : Nat) : Lane :=
  if l.duplicate e then l.cnt F.PAIR_MIR_DUP.ENTRIES 1
  else
    let l1 := (l.noteKey e).entryEffect e prime now
    let l2 := if e.pcie then l1.inc (if e.origin = .A then Reg.HOST_MIR_PCIE_A else Reg.HOST_MIR_PCIE_B) 1 else l1
    match e.seat with
    | some q => if e.pcie then l2 else l2.hapTouch q e.effect
    | none => l2

end Sys2Proof.Machine
end

