-- ==== Sys2Proof/Machine/Init.lean ====
section
/-! DEFINITION. A lane as a cartridge brings it and as the reset kinds leave it (R7, R75, R80, R83, R385, R448). -/

namespace Sys2Proof.Machine

/-! ### Registers after a reset -/

/-- The page header of the SAFE pages keeps its state through a reset of kind L (1), as the pip runs on (R75). -/
def pipKeeps (addr kind : Nat) : Bool := decide (kind = 1 ∧ 0x780000 ≤ addr ∧ addr < 0x784000 ∧ addr % 0x1000 < 0x040)

/-- The bits that a reset kind restores take their reset values; the other bits keep theirs (R7). -/
def Lane.resetRegs (l : Lane) (kind : Nat) : Lane :=
  { l with
      regs := (l.regs.map (fun x =>
        let m := if pipKeeps x.1 kind then 0#32 else word (kindMask x.1 kind)
        ((x.1, (x.2 &&& ~~~m) ||| (resetWord x.1 &&& m)) : Nat × Word))).filter (fun x => decide (x.2 ≠ resetWord x.1)) }

/-! ### Firmware (R448, R449) -/

/-- Boot: RUNNING, BANK and the compatibility number of the firmware. Without a valid bank nothing but the pip starts. -/
def Lane.boot (l : Lane) : Lane :=
  match bootBank l.host.banks (l.get F.HOST_SEC_STAT.FUSED) with
  | some b => (((l.set F.HOST_SEC_STAT.BANK b.1).set F.HOST_SEC_STAT.RUNNING b.2.1).set F.PAIR_COMPAT.OWN b.2.2).set F.SAFE_VER.RUNNING b.2.1
  | none => l

/-- A firmware bank boots. -/
def Lane.booted (l : Lane) : Bool := (bootBank l.host.banks (l.get F.HOST_SEC_STAT.FUSED)).isSome

/-! ### Power-on (R7, R48, R71, R83) -/

/-- What survives a reset of kind P: the slot, the fuses, the flash (log, images, firmware, matrix, record store), the
supply. DRAM goes; every byte of it then reads 0 (DESIGN CHOICE, log entry 51: R7 names no value). -/
def Lane.blank (l : Lane) (now : Nat) : Lane :=
  let keep (m : Lane) : Lane :=
    ((((((((m.set F.SYS_ROLE.ROLE l.num).set F.SYS_ROLE.HW_REV (l.get F.SYS_ROLE.HW_REV)).set F.SYS_ROLE.OTHER_SEATED
      (l.get F.SYS_ROLE.OTHER_SEATED)).wr Reg.SYS_SUPPLY (l.rd Reg.SYS_SUPPLY)).wr Reg.LOG_PCYC (l.rd Reg.LOG_PCYC)).set64
      Reg.LOG_OPMS_LO Reg.LOG_OPMS_HI l.log.opFlash).set F.HOST_SEC_STAT.FUSED (l.get F.HOST_SEC_STAT.FUSED)).set F.HOST_SEC_STAT.KEY
      (if l.host.keyHash.isSome then 1 else 0)).wr Reg.HOST_SEC_IMGVER (l.rd Reg.HOST_SEC_IMGVER)
  (keep { lane0 with
    sup := { l.sup with ride := none }, start := start0 now,
    host := { host0 with banks := l.host.banks, stmt := l.host.stmt, keyHash := l.host.keyHash },
    pip := { pip0 with bank := l.pip.bank, inact := l.pip.inact, store := l.pip.store },
    recd := { recd0 with flashQ := [], store := l.recd.store },
    log := { l.log with buf := [], dropped := 0, rd := none },
    store := { l.store with prep := none, preparing := false, lastRec := [] } }).recShow.logShow

/-- Release of a reset of kind P: the supply is valid, the firmware boots, the lane is POWERED (R71, R83, R113, R448). -/
def Lane.powerOn (l : Lane) (now : Nat) : Lane :=
  let l0 := (l.blank now).wr Reg.LOG_PCYC (word (l.get F.LOG_PCYC.COUNT + 1))
  let l1 : Lane := { l0 with sup := { l0.sup with valid := true, brown := false } }
  let l2 := (l1.boot.setB F.SYS_RESET_CAUSE.BROWNOUT l.sup.brown).set F.SYS_STATE.LANE_STATE LaneSt.powered.code
  l2.log1 0x00 0 0x0101 [(4, (l2.rd Reg.SYS_RESET_CAUSE).toNat), (4, (l2.rd Reg.SYS_SUPPLY).toNat)]

/-- SYS_SUPPLY shows the supply entries (R72). -/
def Lane.showSupply (l : Lane) : Lane :=
  ((((l.setB F.SYS_SUPPLY.PWR1_OK l.sup.ok1).setB F.SYS_SUPPLY.PWR2_OK l.sup.ok2).set F.SYS_SUPPLY.PWR1_V l.sup.v1).set F.SYS_SUPPLY.PWR2_V
    l.sup.v2).setB F.SYS_SUPPLY.RIDE l.sup.ride.isSome

/-- A lane whose supply has gone: ABSENT; its pip acts on the loss of its supply (R72, R332). -/
def Lane.off (l : Lane) (brown : Bool) (now : Nat) : Lane :=
  let l0 := l.blank now
  let l1 : Lane := { l0 with sup := { l0.sup with valid := false, brown := brown }, pip := { l0.pip with downAt := some now } }
  l1.showSupply.set F.SYS_STATE.LANE_STATE LaneSt.absent.code

/-- An empty slot: its lane is ABSENT. -/
def Lane.empty (num : Nat) : Lane :=
  (Lane.set { lane0 with sup := { sup0 with seated := false, closed := false, ok1 := false, ok2 := false, v1 := 0, v2 := 0, valid := false } }
    F.SYS_ROLE.ROLE num).set F.SYS_STATE.LANE_STATE LaneSt.absent.code

/-- The slot's supply entries, whatever is in the slot (R71). -/
def SupplyH.entries (x slot : SupplyH) : SupplyH := { x with ok1 := slot.ok1, ok2 := slot.ok2, v1 := slot.v1, v2 := slot.v2 }

/-- The lane of a cartridge in a slot before its supply has become valid. -/
def Cart.lane (c : Cart) (num : Nat) (slot : SupplyH) : Lane :=
  let l : Lane := { Lane.empty num with
    sup := SupplyH.entries { sup0 with valid := false, brown := c.brown } slot,
    host := { host0 with banks := c.banks, keyHash := c.keyHash },
    pip := { pip0 with bank := c.matrix.getD matrix0, store := c.matrix },
    log := { log0 with next := ((c.log.map LogRec.seq).foldl max 0) + (if c.log = [] then 0 else 1), flash := c.log, opFlash := c.opMs },
    store := { store0 with serial := c.serial, boot := c.images, seats := c.seats } }
  ((((l.showSupply.set F.SYS_ROLE.HW_REV c.hwRev).set F.HOST_SEC_STAT.FUSED c.fused).set F.HOST_SEC_STAT.KEY (if c.keyHash.isSome then 1 else 0)).wr
    Reg.HOST_SEC_IMGVER (word c.imgVer)).wr Reg.LOG_PCYC (word c.pcyc)

/-! ### Lane reset (R7, R75, R80, R83) -/

/-- A reset of kind L begins with a cause (bit of SYS_RESET_CAUSE): the lane stops driving and is in PIP at S0; the pip,
the time block, DRAM, the flash and the running image set stay. -/
def Lane.resetL (l : Lane) (cause now : Nat) : Lane :=
  let l0 := ((l.stopDriving.setPresent false).askPrimacy false now).goTo .pip
  let l1 : Lane := { l0 with
    car := car0, acc := { acc0 with frozen := l.acc.frozen.filter (fun f => f.inst == 0x780) },
    start := { start0 now with inReset := some cause, pipRun := l.start.pipRun, fwChanged := l.start.fwChanged, fwPending := l.start.fwPending, fwFailed := l.start.fwFailed, seatsIn := l.start.seatsIn },
    ledger := ledger0, pair := { pair0 with charges := l.pair.charges, upSince := l.pair.upSince, upAll := l.pair.upAll, primAt := l.pair.primAt }, cyc := cyc0,
    ring := ring0, ain := ain0, axis := axis0, pbus := pbus0, capt := l0.capt.reset, recd := l0.recd.reset, fifos := [], work := work0,
    irq := irq0, dma := dma0,
    host := { host0 with banks := l.host.banks, stmt := l.host.stmt, keyHash := l.host.keyHash, mse := l.host.mse },
    store := { l0.store with prep := none, preparing := false, lastRec := [] }, trial := none }
  (l1.resetRegs 1).cnt F.SYS_RESET_COUNT.COUNT 1

end Sys2Proof.Machine
end

