-- ==== Sys2Proof/Machine/Confirm.lean ====
section
/-! DEFINITION. The confirmation of a lane's entries to their originators (R100, R436, R441). -/

namespace Sys2Proof.Machine

/-- An op as a response carries it: its head with OSTAT, and read data padded to a multiple of 8 (R440). -/
def HapOp.bytes (o : HapOp) : List Nat :=
  [o.op, o.size] ++ leBytes 2 o.count ++ [o.ostat, 0, 0, 0] ++ leBytes 8 o.addr ++ padTo ((o.data.length + 7) / 8 * 8) o.data

/-- Store what a lane keeps of a seat's session. -/
def Lane.setHapL (l : Lane) (h : HapL) : Lane := { l with host := { l.host with hap := upsert HapL.seat h l.host.hap } }

/-- Answer a request of a seat's session, and hold the response for a repetition: the last 32 are held (R441). -/
def Lane.hapRespond (l : Lane) (q seq : Nat) (ops : List HapOp) (cycle : Nat) : Lane :=
  match l.sess q with
  | none => l
  | some s =>
    let st := ((ops.find? (fun o => o.ostat != 0)).map HapOp.ostat).getD 0
    let bs := hapBytes 0x02 0 q st s.num seq ops.length cycle (ops.map HapOp.bytes).flatten s.key
    let h := l.hapL q
    let held := h.held.filter (fun x => x.1 != seq) ++ [(seq, bs)]
    (l.setHapL { h with held := held.drop (held.length - 32) }).hapSend h.ip h.port bs

/-- The effect cycle of the entry of a kind and KEY that is or will be applied: the first of equals, or its own without a
KEY (R99, R441). -/
def Lane.effectOf (l : Lane) (kind key dflt : Nat) : Nat :=
  if key = 0 then dflt
  else match l.pair.keys.find? (fun k => k.kind == kind && k.key == key) with
  | some k => k.effect
  | none => ((l.pair.entries.filter (fun e => e.kind == kind && e.key == key)).map Entry.effect).foldl min dflt

/-- The entries this lane accepted up to cycle `c` are confirmed: their writes are done, their requests answered. -/
def Lane.confirm (l : Lane) (c : Nat) : Lane :=
  let left := l.pair.unconf.filter (fun u => decide (c < u.cyc))
  let l1 : Lane := { l with
    pair := { l.pair with unconf := left },
    acc := { l.acc with
      resp := l.acc.resp.map (fun (r : Nat × Resp) =>
        if r.2 = .pending ∧ left.any (fun u => u.seat == some r.1) = false then (r.1, Resp.done) else r) } }
  l1.host.hap.foldl (fun (m : Lane) (h : HapL) =>
    let due := h.waits.filter (fun w => decide (w.cyc ≤ c))
    let m1 := if due = [] then m else m.setHapL { m.hapL h.seat with waits := h.waits.filter (fun w => decide (c < w.cyc)) }
    due.foldl (fun k w => k.hapRespond h.seat w.seq w.ops (k.effectOf w.kind w.key (w.cyc + 2))) m1) l1

end Sys2Proof.Machine
end

