-- ==== Sys2Proof/Machine/Settle.lean ====
section
/-! DEFINITION. What the ledger's answers bring about in the operations that asked (R88, R280, R281, R361, R397). -/

namespace Sys2Proof.Machine

/-- One answer of the ledger, 0 refused, 1 granted, 2 ended or stopped, reaches the operation that asked. -/
def Lane.settle1 (l : Lane) (x : Nat × LReq) (now : Nat) : Lane :=
  match x.2.cls, x.1 with
  | 0, 0 => l.set F.AIN_STAT.FULL_REFUSED 1
  | 1, 0 => l.captGrant 1 false now
  | 1, 1 => (l.fiPower true now).captGrant 1 true now
  | 1, 2 => l.fiPower false now
  | 2, 0 => l.captGrant 2 false now
  | 2, 1 => l.captGrant 2 true now
  | 2, 2 => l.captGrantEnd now
  | 3, 0 => { l with ring := { l.ring with train := l.ring.train.filter (fun t => t.1 != x.2.who) ++ [(x.2.who, now)] } }
  | 5, 0 => if l.granted 4 x.2.who || l.asking 4 x.2.who then l else l.ledgerAsk 4 (classQuanta 4) x.2.dur x.2.who now
  | 6, 1 => l.boostGranted now
  | 6, 2 => l.workPreempt now
  | _, _ => l

/-- Every answer not yet taken reaches its operation; the answers this gives rise to follow. -/
def settleAll (now : Nat) : Nat → Lane → Lane
  | 0, l => l
  | n + 1, l =>
    match l.ledger.news with
    | [] => l
    | xs => settleAll now n (xs.foldl (fun m x => m.settle1 x now) { l with ledger := { l.ledger with news := [] } })

/-- The ledger's answers reach the operations that asked. -/
def Lane.settle (l : Lane) (now : Nat) : Lane := settleAll now 8 l

end Sys2Proof.Machine
end

