-- ==== Sys2Proof/Machine/Clock.lean ====
section
/-! DEFINITION. The passage of time to the instant at which an event falls (log entry 1): a command that names an event
of a later instant lets CLK_TIME run on to it. -/

namespace Sys2Proof.Machine

/-- At the end of a CLK_REG cycle, of two ticks, the ledger decides the requests of the cycle (R45, R90). -/
def Lane.cycleEnd (l : Lane) (k now : Nat) : Lane :=
  if now / 2 = (now + k) / 2 ∨ l.ledger.asked = [] then l else (l.ledgerDecide (2 * (now / 2 + 1))).settle (2 * (now / 2 + 1))

/-- `k` ticks pass on a lane; the ledger decides; the trace queues drain (R152, R403); OP_MS counts the milliseconds with supply valid (R385). -/
def Lane.pass (l : Lane) (k now : Nat) : Lane :=
  let l1 := ((l.cycleEnd k now).timeTicks k (now + k)).drainFor ((now + k) / 2 - now / 2)
  if l1.sup.valid then l1.set64 Reg.LOG_OPMS_LO Reg.LOG_OPMS_HI ((l1.opMs + ((now + k) / 400000 - now / 400000)) % 2 ^ 48) else l1

/-- `k` ticks pass. -/
def State.pass (s : State) (k : Nat) : State :=
  if k = 0 then s else { s with a := s.a.pass k s.now, b := s.b.pass k s.now, now := s.now + k }

/-- Time passes to a tick. -/
def State.untilTick (s : State) (n : Nat) : State := s.pass (n - s.now)

/-- Time passes until TIME64 of a lane has reached `t`. -/
def State.untilT (s : State) (i : LaneId) (t : Nat) : State :=
  let l := s.lane i
  s.pass ((t * 2 ^ 32 - l.time.acc + (l.incr - 1)) / l.incr)

end Sys2Proof.Machine
end

