-- ==== Sys2Proof/Machine/Digest.lean ====
section
/-! DEFINITION. The words of carried state that no address of the manual names, in an order of the model's own, as the cycle
digest takes them (R105; log entry 48). -/

namespace Sys2Proof.Machine

/-- A signed number as a 64-bit word. -/
def wordOf (v : Int) : Nat := twos 64 v

/-- An absent value, or a present one's words. -/
def optWords {α : Type} (f : α → List Nat) : Option α → List Nat
  | none => [0]
  | some x => 1 :: f x

/-- A list: its length and the words of its items. -/
def listWords {α : Type} (f : α → List Nat) (xs : List α) : List Nat := xs.length :: (xs.map f).flatten

def Coef.words (c : Coef) : List Nat := [wordOf c.kp, c.kpSh, wordOf c.kd, c.kdSh, wordOf c.kff, c.kffSh]

def LoopI.words (e : LoopI) : List Nat := optWords Coef.words e.cLast ++ [e.seen.toNat, e.off.toNat, e.resumed.toNat]

def GroupI.words (e : GroupI) : List Nat := optWords (fun n => [n]) e.last

def Plan.words (p : Plan) : List Nat :=
  listWords (fun a => [wordOf a]) p.course ++ [p.cden, wordOf p.cp, wordOf p.cv, wordOf p.ca] ++
  listWords (fun x => [x.1, wordOf x.2]) p.phases ++
  [p.den, wordOf p.p0, wordOf p.v0, wordOf p.a0, p.k, p.done, p.total, wordOf p.tgt]

def GenI.words (e : GenI) : List Nat := optWords Plan.words e.plan ++ [wordOf e.tgt, e.mode]

def ProgI.words (e : ProgI) : List Nat :=
  [e.st, e.cause, e.consec, e.trap, e.stepPend.toNat, e.cold.toNat, e.warm.toNat, e.err.toNat, e.errCount] ++
  listWords (fun x => [x.1, x.2]) e.errList ++ [e.errMore.toNat, e.stopDue.toNat]

/-- The words of the writes of a step. -/
def writeWords (ws : List (Word × Word)) : List Nat := listWords (fun x => [x.1.toNat, x.2.toNat]) ws

def WaferRec.all (r : WaferRec) : List Nat :=
  [r.cyc, r.tApply, r.wafer, r.lot, r.slotFlags, r.chan, r.cause, r.step, r.src, r.entry, r.evidence, r.subns, r.state]

def EdgeDue.words (e : EdgeDue) : List Nat := listWords (fun n => [n]) e.hold ++ writeWords e.writes ++ e.record.all ++ [e.edge.toNat]

def Banks.words (b : Banks) : List Nat :=
  [b.step] ++ writeWords b.active ++ writeWords b.next ++ writeWords b.alt ++ writeWords b.hold ++ writeWords b.abort

def ChanI.words (e : ChanI) : List Nat :=
  [e.state, e.step, e.cause, e.cmdRes, e.heldWhy, e.acyc, e.ta, e.dur] ++ optWords (fun n => [n]) e.tmo ++ [e.dRem] ++
  optWords (fun n => [n]) e.tRem ++ [e.heldFrom, e.heldT] ++ listWords (fun x => [x.idx, x.cyc, x.t, x.subns]) e.latches ++
  listWords (fun x => [x.1, x.2]) e.dwells ++ [e.entry] ++ listWords (fun w => [w.toNat]) e.ctx ++ listWords EdgeDue.words e.due ++
  e.banks.words ++ optWords (fun n => [n]) e.cmdCyc ++ listWords (fun x => [x.1, x.2.1.toNat, x.2.2.toNat]) e.path1 ++
  optWords (fun x => [x.1, x.2]) e.leaveAt ++ optWords (fun w => [w.toNat]) e.imgCmd ++ listWords (fun n => [n]) e.gens ++ [e.orphan.toNat]

def Line.words (e : Line) : List Nat := [e.raw.toNat, e.since, e.deb.toNat] ++ listWords (fun n => [n]) e.trans

def AxisI.words (e : AxisI) : List Nat :=
  [e.st, wordOf e.pos, wordOf e.vel, wordOf e.acc] ++ optWords Plan.words e.plan ++
  [wordOf e.goal, e.mode, e.replan, wordOf e.act, wordOf e.ofs, e.hPhase, wordOf e.hStart, e.hSeen.toNat, e.homed.toNat, e.homeRes,
    e.cmdRes, e.limStop.toNat, e.doneF.toNat, e.fault, e.stallN, e.rest, wordOf e.iset, e.load, e.angle, wordOf e.iq] ++
  listWords (fun x => [x.1, wordOf x.2]) e.cmds ++ [e.ackOut.toNat] ++ e.lneg.words ++ e.lpos.words ++ e.lhome.words ++
  [e.latchTog.toNat, wordOf e.latch, e.resync.toNat, e.off.toNat, e.homeWas.toNat]

def AinC.words (e : AinC) : List Nat :=
  [e.dis, e.run, e.faulted.toNat, wordOf e.last, e.opn.toNat, e.band, e.word.toNat, e.tag, e.wordPrev.toNat, e.tagPrev]

/-- Words of engine state as (address, value) pairs: object `inst` of the kind whose objects begin at `base`. -/
def engineWords (base inst : Nat) (ws : List Nat) : List (Nat × Nat) :=
  (ws.zipIdx).map (fun x => (2 ^ 48 + (base + inst) * 2 ^ 16 + x.2, x.1 % 2 ^ 64))

/-- The carried state outside the cycle image, as (address, value) pairs in address order: the table windows, then what the
engines keep. -/
def Carried.tail (c : Carried) : List (Nat × Nat) :=
  c.win.map (fun x => (x.1, x.2.toNat)) ++
  (c.loops.map (fun e => engineWords 0x200000 e.inst e.words)).flatten ++
  (c.groups.map (fun e => engineWords 0x202000 e.group e.words)).flatten ++
  (c.gens.map (fun e => engineWords 0x204000 e.gen e.words)).flatten ++
  (c.progs.map (fun e => engineWords 0x300000 e.prog e.words)).flatten ++
  engineWords 0x310000 0 (listWords (fun n => [n]) c.edgeNew) ++
  (c.chans.map (fun e => engineWords 0x380000 e.chan e.words)).flatten ++
  engineWords 0x400000 0 (listWords (fun x => [x.1, x.2]) c.retOk) ++
  (c.ains.map (fun e => engineWords 0x600000 e.ch e.words)).flatten ++
  engineWords 0x610000 0 ([c.ow.last] ++ optWords (fun n => [n]) c.ow.again ++ listWords (fun x => [x.1, x.2]) c.ow.slots) ++
  (c.axes.map (fun e => engineWords 0x680000 e.ax e.words)).flatten ++
  (c.rels.map (fun x => engineWords 0x700000 x.1 (listWords (fun b => [b]) x.2.1 ++ [x.2.2]))).flatten

/-- Items `a` to `a + n − 1` of the carried state: the words of an image of `t` 8-byte words, then its tail. -/
def carriedPiece (img : Nat → Nat) (tail : List (Nat × Nat)) (t a n : Nat) : List (Nat × Nat) :=
  ((List.range n).filter (fun k => decide (a + k < t))).map (fun k => (8 * (a + k), img (8 * (a + k)))) ++
    (tail.drop (a - t)).take (n - (t - a))

end Sys2Proof.Machine
end

