-- ==== Sys2Proof/Machine/Cycle.lean ====
section
/-! DEFINITION. One cycle on one lane (chapter 06): the trace, the digest, how nodes fire, complete, are cut and
withdrawn, the merge, the snapshot. -/

namespace Sys2Proof.Machine

/-! ### The trace (R150–R152) -/

/-- A trace record (R151). -/
def cycTrcRec (cyc node ev eng plan wait act flags : Nat) : List Nat :=
  leBytes 4 cyc ++ leBytes 2 node ++ [ev, eng] ++ leBytes 3 plan ++ [wait] ++ leBytes 3 act ++ [flags]

/-- The trace's MODE in force. -/
def Lane.trcMode (l : Lane) : Nat := l.cyc.trcCfg % 4

/-- Cycle `n` lies in the span of MODE 2. -/
def Lane.inSpan (l : Lane) (n : Nat) : Bool :=
  let s := l.get64 Reg.CYCLE_TRC_START_LO Reg.CYCLE_TRC_START_HI
  decide (s ≤ n ∧ n < s + (l.rd Reg.CYCLE_TRC_COUNT).toNat)

/-- The current cycle is traced (R150). -/
def Lane.traced (l : Lane) : Bool :=
  match l.trcMode with
  | 1 => decide (l.cycN % max 1 (l.cyc.trcCfg / 2 ^ 16) = 0)
  | 2 => l.inSpan l.cycN
  | 3 => true
  | _ => false

/-- A record enters the on-die queue; a drop is counted (R152). -/
def Lane.trcQueue (l : Lane) (r : List Nat) : Lane :=
  let x := l.trcPush cycleTrc l.cyc.trc r (fun n => cycTrcRec l.cycN 0xFFFF 0x1F 0 n 0 0 0)
  let l1 : Lane := { x.1 with cyc := { x.1.cyc with trc := x.2 } }
  if x.2.drop ≠ 0 then l1.cnt F.CYCLE_TRC_STAT.DROPPED 1 else l1

/-- A record of the trace: held on die in MODE 3, else queued. -/
def Lane.trcOut (l : Lane) (r : List Nat) : Lane :=
  if l.trcMode = 3 then
    let h := l.cyc.trcHeld ++ [r]
    { l with cyc := { l.cyc with trcHeld := h.drop (h.length - 8192) } }
  else l.trcQueue r

/-- The records held in MODE 3 go to the buffer, all of them (R150). -/
def Lane.trcFlush (l : Lane) : Lane :=
  l.cyc.trcHeld.foldl (fun m r => (m.trcQueue r).drainCycle) { l with cyc := { l.cyc with trcHeld := [] } }

/-- A record of the cycle as a whole: OPEN or COMPLETE. -/
def Lane.trcCycle (l : Lane) (ev plan act : Nat) (late : Bool) : Lane :=
  if l.traced then l.trcOut (cycTrcRec l.cycN 0xFFFF ev 0 plan 0 act (b2n late)) else l

/-- A record of node `i`. -/
def Lane.trcNode (l : Lane) (i ev plan wait act : Nat) (late : Bool) : Lane :=
  if l.traced && (decide (l.cyc.trcCfg / 2 ^ 7 % 2 = 1) || l.ndTrace i) then
    l.trcOut (cycTrcRec l.cycN i ev (l.ndClass i * 64 + l.ndEngine i) plan wait act (b2n late))
  else l

/-- The trace at the boundary of cycle `n`: MODE 2 ends after its COUNT cycles; a change of CYCLE_TRC_CTRL takes effect,
and a trace that starts begins at the buffer's beginning (R150). -/
def Lane.trcBoundary (l : Lane) (n : Nat) : Lane :=
  let s := l.get64 Reg.CYCLE_TRC_START_LO Reg.CYCLE_TRC_START_HI
  let l1 := if l.trcMode = 2 ∧ l.get F.CYCLE_TRC_CTRL.MODE = 2 ∧ s + (l.rd Reg.CYCLE_TRC_COUNT).toNat ≤ n then
      (l.set F.CYCLE_TRC_CTRL.MODE 0).ev cyclePage 6 else l
  let w := (l1.rd Reg.CYCLE_TRC_CTRL).toNat
  let l2 := if l1.trcMode = 0 ∧ w % 4 ≠ 0 then
      let m := (l1.set F.CYCLE_TRC_STAT.DROPPED 0).wr Reg.CYCLE_TRC_WPTR 0#32
      { m with cyc := { m.cyc with trc := ⟨[], 0⟩, trcHeld := [] } }
    else l1
  { l2 with cyc := { l2.cyc with trcCfg := w } }

/-! ### The digest (R105) -/

/-- What a write of a node folds into its engine's CRC: every word written to outputs and to carried state as (address,
value) pairs; image words by image offset, register fields by address, engine state word by word (R105; log entry 48). The
signal record, errors and event records are none of these. -/
def NodeWrite.pairs : NodeWrite → List (Nat × Nat)
  | .img o _ v => [(o, v % 2 ^ 64)]
  | .win a w => [(a, w.toNat)]
  | .fld a _ lo v => [(a, v * 2 ^ lo)]
  | .cnt a _ lo n => [(a, n * 2 ^ lo)]
  | .inc a n => [(a, n)]
  | .loopI e => engineWords 0x200000 e.inst e.words
  | .groupI e => engineWords 0x202000 e.group e.words
  | .genI e => engineWords 0x204000 e.gen e.words
  | .progI e => engineWords 0x300000 e.prog e.words
  | .edgeOld i => engineWords 0x310000 0 [i]
  | .chanI e => engineWords 0x380000 e.chan e.words
  | .axisI e => engineWords 0x680000 e.ax e.words
  | .ev _ _ | .err _ _ _ _ | .log _ _ _ _ | .ovrRec _ | .wafer _ => []

/-- Fold pairs into the CRC register of an engine, by class and index. -/
def Lane.foldCrc (l : Lane) (key : Nat) (ps : List (Nat × Nat)) : Lane :=
  if ps = [] then l
  else
    let c := ((l.cyc.crcs.find? (fun x => x.1 == key)).map Prod.snd).getD crc64Init
    let old := ((l.cyc.wlog.find? (fun x => x.1 == key)).map Prod.snd).getD []
    { l with cyc := { l.cyc with
        crcs := upsert Prod.fst (key, ps.foldl crc64Pair c) l.cyc.crcs, wlog := upsert Prod.fst (key, old ++ ps) l.cyc.wlog } }

/-- The sweep slice of this cycle: 64 KiB of the carried state in address order, wrapping at its end, once at most; where
the next begins (R105; log entry 48). -/
def Lane.sweepSlice (l : Lane) : List (Nat × Nat) × Nat :=
  let t := (((l.image.map ImageSet.imgLen).getD 0) + 7) / 8
  let tail := l.car.tail
  let total := t + tail.length
  let n := min 8192 total
  let a := l.cyc.sweep % max 1 total
  let piece := carriedPiece (fun o => l.img o 8) tail t
  (piece a (min n (total - a)) ++ piece 0 (n - (total - a)), (a + n) % max 1 total)

/-- The sweep register of the cycle. -/
def Lane.sweepReg (l : Lane) : Nat := l.sweepSlice.1.foldl crc64Pair crc64Init

/-- The digest of the cycle: the XOR of the engines' registers and the sweep register. -/
def Lane.digest (l : Lane) : Nat := l.cyc.crcs.foldl (fun d x => Nat.xor d x.2) l.sweepReg

/-- The digest that a retained write log gives (R115). -/
def WLog.digest (w : WLog) : Nat := w.engs.foldl (fun d x => Nat.xor d (x.2.foldl crc64Pair crc64Init)) w.sweep

/-! ### Firing (R143–R146) -/

/-- The window offset at which a node completed, was cut or withdrawn. -/
def Lane.doneAt (l : Lane) (i : Nat) : Option Nat := (l.cyc.compl.find? (fun x => x.1 == i)).map Prod.snd

/-- For its successors a node counts as complete. -/
def Lane.nodeDone (l : Lane) (i n : Nat) : Bool := !l.selected i n || (l.doneAt i).isSome

/-- The selected nodes before `i` in the static order of its engine. -/
def Lane.enginePreds (l : Lane) (i n : Nat) : List Nat := (List.range l.nodes).filter (fun j => l.before j i && l.selected j n)

/-- Conditions 1 to 3 of R144. -/
def Lane.nodeReady (l : Lane) (i n : Nat) : Bool :=
  (l.enginePreds i n).all (fun j => l.nodeDone j n) && (l.ndPreds i).all (fun j => l.nodeDone j n) &&
    (match l.flowPred i n with | some j => l.nodeDone j n | none => true)

/-- The latest completion of a list of nodes. -/
def Lane.latest (l : Lane) (js : List Nat) : Nat := (js.map (fun j => (l.doneAt j).getD 0)).foldl max 0

/-- ACT of a ready node: the first CLK_FAB cycle at which the conditions of R144 hold. -/
def Lane.actOf (l : Lane) (i n : Nat) : Nat :=
  max (l.ndEst i) (max (l.latest (l.enginePreds i n)) (max (l.latest (l.ndPreds i)) (l.latest (l.flowPred i n).toList)))

/-- WAIT of a FIRE record: which conditions were unmet one CLK_FAB cycle before ACT (R151). -/
def Lane.waitOf (l : Lane) (i n act : Nat) : Nat :=
  let unmet (js : List Nat) : Bool := js.any (fun j => decide (l.doneAt j = some act))
  b2n (unmet (l.enginePreds i n)) + 2 * b2n (unmet (l.ndPreds i)) + 4 * b2n (unmet (l.flowPred i n).toList) +
    8 * b2n (decide (l.ndEst i = act))

/-- A MOVE node copies or scales its words (R140; log entry 47). -/
def moveExec (w : Work) (m : MoveImg) : Work :=
  (List.range m.words).foldl (fun k j =>
    let v := w.l.img (m.src + 4 * j) 4
    k.put (.img (m.dst + 4 * j) 4 (if m.scaled then (Config.moveScale m.node j (word v)).toNat else v))) w

/-- Execution time of node `i`: fixed for loops, generators and joins, by its words for a MOVE, by its kind for an axis, else
as its COST field has it (R140, R285). -/
def Lane.ndTime (l : Lane) (i : Nat) : Nat :=
  match l.ndKind i with
  | 1 => 96
  | 2 => 160
  | 3 => 48
  | 4 => match l.image.bind (fun im => im.moves.find? (fun m => m.node == i)) with
    | some m => 16 + 2 * m.words
    | none => l.ndCost i
  | 7 => match l.motor (l.ndObj i) with
    | 0 => 128
    | 1 => 160
    | _ => 96
  | 8 => 1
  | _ => l.ndCost i

/-- What node `i` does in cycle `n`: its writes, and the CLK_FAB cycles it takes (R140). -/
def Lane.nodeWork (l : Lane) (i n : Nat) : Work × Nat :=
  let w : Work := ⟨l, []⟩
  let k := l.ndObj i
  let e := l.ndEngine i
  let c := l.ndTime i
  match l.ndKind i with
  | 1 => (loopExec w k e n false, c)
  | 2 => (loopExec w k e n true, c)
  | 3 => (genExec w k e, c)
  | 4 => match l.image.bind (fun im => im.moves.find? (fun m => m.node == i)) with
    | some m => (moveExec w m, c)
    | none => (w, c)
  | 5 => match l.progImg k, l.image with
    | some im, some set =>
      let event := decide (im.evNode = i)
      let r := logicExec w im set.sl n (l.tOf n) event
      -- a derived BUDGET is never overrun (R192)
      (r.1, if (if event then im.declEv else im.declCy) then r.2 else min r.2 (l.ndDead i - l.ndEst i))
    | _, _ => (w, c)
  | 6 => (recipeExec w k n, c)
  | 7 => (axisExec w k (l.tOf n), c)
  | _ => (w, c)

/-- A node is in service. -/
def Lane.served (l : Lane) (i : Nat) : Bool := l.cyc.inServ.any (fun x => x.node == i)

/-- At the start of node `i` in cycle `n`: a recipe node commits the path-1 writes held over from cycle n − 1 (R226). -/
def Lane.startNode (l : Lane) (i n : Nat) : Lane :=
  if l.ndKind i = 6 then
    let w := pathStart ⟨l, []⟩ (l.ndObj i) n
    w.l.foldCrc (l.ndClass i * 64 + l.ndEngine i) (w.ws.map NodeWrite.pairs).flatten
  else l

/-- Node `i` fires. -/
def Lane.fireNode (l0 : Lane) (i n : Nat) : Lane :=
  let l := l0.startNode i n
  let act := l.actOf i n
  let w := l.nodeWork i n
  let l1 : Lane := { l with cyc := { l.cyc with inServ := l.cyc.inServ ++ [⟨i, act, act + w.2, w.1.ws⟩] } }
  l1.trcNode i 0x01 (l.ndEst i) (l.waitOf i n act) act (decide (l.ndEst i < act))

/-- Node `i` no longer counts as open: it leaves service at a window offset. -/
def Lane.closeNode (l : Lane) (i t : Nat) : Lane :=
  { l with cyc := { l.cyc with inServ := l.cyc.inServ.filter (fun x => x.node != i), compl := l.cyc.compl ++ [(i, t)] } }

/-- A node in service completes and commits its writes together (R144). -/
def Lane.completeNode (l : Lane) (x : InServ) : Lane :=
  let l1 := (x.ws.foldl Lane.apply l).foldCrc (l.ndClass x.node * 64 + l.ndEngine x.node) (x.ws.map NodeWrite.pairs).flatten
  (l1.closeNode x.node x.fin).trcNode x.node 0x02 (l.ndDead x.node) 0 x.fin (decide (l.ndEst x.node + l.ndTime x.node < x.fin))

/-! ### Deadlines (R148, R149, R199, R200) -/

/-- The task of an activation that runs at its DEADLINE: the first whose end lies beyond it. -/
def Lane.lateTask (l : Lane) (i n : Nat) (im : ProgImg) : Nat :=
  let ts := dueTasks (l.prog im.prog) (decide (im.evNode = i))
  let sl := (l.image.map ImageSet.sl).getD 0
  let ends (k : Nat) : Nat := l.actOf i n + (tasksRun im sl (l.tOf n) true (ts.take (k + 1)) ⟨l, []⟩ 0).2.2
  match (List.range ts.length).find? (fun k => decide (l.ndDead i < ends k)) with
  | some k => ts.getD k 0
  | none => ts.getLast?.getD 0

/-- A node that ends at its DEADLINE without having fired has its FIRE record there, late, with the conditions still unmet as
WAIT (R151; DEDUCED, log entry 166). -/
def Lane.trcUnfired (l : Lane) (i n : Nat) : Lane :=
  let open' (js : List Nat) : Nat := b2n (js.any (fun j => !l.nodeDone j n))
  if l.served i then l
  else l.trcNode i 0x01 (l.ndEst i) (open' (l.enginePreds i n) + 2 * open' (l.ndPreds i) + 4 * open' (l.flowPred i n).toList) (l.ndDead i) true

/-- A LOGIC activation is withdrawn at its DEADLINE and commits nothing (R199). -/
def Lane.withdrawNode (l : Lane) (i n : Nat) : Lane :=
  let l1 := match l.progImg (l.ndObj i) with
    | some im =>
      let w : Work := ⟨l, []⟩
      (withdraw (if im.evNode = i then stopValues w im else w) im.prog (l.lateTask i n im) n).l
    | none => l
  ((l1.trcUnfired i n).closeNode i (l.ndDead i)).trcNode i 0x03 (l.ndDead i) 0 (l.ndDead i) true

/-- A class 0, 2 or 3 node misses its DEADLINE: it is cut and commits nothing (R148). -/
def Lane.cutNode (l : Lane) (i : Nat) : Lane :=
  let n := l.cycN
  let l1 := ((l.cnt F.CYCLE_OVR_COUNT.CUT 1).ev cyclePage 0).err cyclePage 0x40 0x12 (nodeAddr i 0)
  let l2 := if l1.flag F.CYCLE_OVR_NODE.VALID then l1
    else (l1.wr Reg.CYCLE_OVR_NODE (word (2 ^ 31 + l.ndClass i * 2 ^ 26 + l.ndEngine i * 2 ^ 20 + i))).set64 Reg.CYCLE_OVR_CYC_LO Reg.CYCLE_OVR_CYC_HI n
  let l3 := ((((l2.logEv cyclePage 0 i 1).trcUnfired i n).closeNode i (l.ndDead i)).trcNode i 0x03 (l.ndDead i) 0 (l.ndDead i) true).trcFlush
  { l3 with cyc := { l3.cyc with cuts := l3.cyc.cuts ++ [i] } }

/-- Staging is late at the opening of the window: latched with KIND 1 (R138, R148). -/
def Lane.stageLate (l : Lane) : Lane :=
  let l1 := ((l.ev cyclePage 1).ev cyclePage 0).err cyclePage 0x41 0x12 0
  let l2 := if l1.flag F.CYCLE_OVR_NODE.VALID then l1
    else (l1.wr Reg.CYCLE_OVR_NODE (word (2 ^ 31 + 2 ^ 28 + 0xFFFF))).set64 Reg.CYCLE_OVR_CYC_LO Reg.CYCLE_OVR_CYC_HI l.cycN
  let l3 := l2.logEv cyclePage 1 0xFFFF 1
  { l3 with cyc := { l3.cyc with late := true } }

/-! ### The window as a whole -/

/-- The next thing to happen in the window: a completion, a withdrawal, a cut or a firing, with its offset and its order
among events of one CLK_FAB cycle. -/
inductive NodeEv where
  | finish (x : InServ)
  | withdrawn (i : Nat)
  | cut (i : Nat)
  | fire (i : Nat)

/-- Offset of an event, doubled, ends of nodes before firings. -/
def Lane.evAt (l : Lane) (n : Nat) : NodeEv → Nat
  | .finish x => 2 * x.fin
  | .withdrawn i => 2 * l.ndDead i
  | .cut i => 2 * l.ndDead i
  | .fire i => 2 * l.actOf i n + 1

/-- A node that has not completed at its DEADLINE: a LOGIC activation is withdrawn, a node of another class cut (R148, R199). -/
def Lane.overdue (l : Lane) (i : Nat) : NodeEv := if l.ndClass i = 1 then .withdrawn i else .cut i

/-- What may happen next: nodes in service end, at their DEADLINE at the latest; ready nodes fire before it, others meet it
(R144, R148, R199). -/
def Lane.nodeEvs (l : Lane) (n : Nat) : List NodeEv :=
  let serv := l.cyc.inServ.map (fun x => if l.ndDead x.node < x.fin then l.overdue x.node else .finish x)
  let waiting := (l.selNodes n).filter (fun i => !(l.doneAt i).isSome && !l.served i)
  serv ++ waiting.map (fun i => if l.nodeReady i n && decide (l.actOf i n < l.ndDead i) then .fire i else l.overdue i)

/-- The first of the events that may happen. -/
def Lane.nextEv (l : Lane) (n : Nat) : Option NodeEv :=
  (l.nodeEvs n).foldl (fun (b : Option NodeEv) e => match b with
    | none => some e
    | some x => if l.evAt n e < l.evAt n x then some e else b) none

/-- One event of the window. -/
def Lane.nodeEv (l : Lane) (n : Nat) : NodeEv → Lane
  | .finish x => l.completeNode x
  | .withdrawn i => l.withdrawNode i n
  | .cut i => l.cutNode i
  | .fire i => l.fireNode i n

/-- The events of the window in the order of time, until a condition holds. -/
def runNodes (stop : Lane → Bool) (n : Nat) : Nat → Lane → Lane
  | 0, l => l
  | k + 1, l =>
    if stop l then l
    else match l.nextEv n with
      | none => l
      | some e => runNodes stop n k (l.nodeEv n e)

/-- The window is open and the compute not complete. -/
def Lane.inWindow (l : Lane) : Bool := l.cyc.opened && !l.cyc.complete

/-- The window runs on until a condition holds. -/
def Lane.runUntil (l : Lane) (stop : Lane → Bool) : Lane :=
  if l.inWindow then runNodes stop l.cycN (2 * l.nodes + 2) l else l

/-! ### The merge (R98, R134, R250, R271, R287) -/

/-- What a lane's merge works on: the sampled part that stands for the lane's own, the other lane's if the lanes are
paired, the part of the lane that held primacy at the ring cut, whether that is this lane, whether this lane holds primacy. -/
structure MergeIn where
  own : Sampled
  oth : Option Sampled
  prim : Sampled
  cutPrime : Bool
  prime : Bool

/-- The ring axes of the running image. -/
def Lane.ringAxes (l : Lane) : List Nat := ((List.range 240).map (fun k => 16 + k)).filter (fun a => decide (l.motor a = 2))

/-- A cut of this cycle still waits for its outcome (R148). -/
def Lane.unjudged (l : Lane) : Bool := decide (l.cyc.judged < l.cyc.cuts.length)

/-- The window runs on until a condition holds, or a node is cut. -/
def Lane.runTo (l : Lane) (stop : Lane → Bool) : Lane := l.runUntil (fun m => stop m || m.unjudged)

/-- The merge phase of the current cycle: the sampled part, then the event entries of this effect cycle in mirror-set
order. -/
def Lane.merge (l : Lane) (i : MergeIn) (now : Nat) : Lane :=
  let n := l.cycN
  let tN := l.tOf n
  let l1 := ((l.stageBanks n).consumeAll i.own.maps ((i.oth.map Sampled.maps).getD []) i.oth.isNone).agreeAll (i.oth.map Sampled.ai) i.cutPrime
  let l2 : Lane := { l1 with axis := { l1.axis with fb := i.prim.ax } }
  let l3 := l2.ringAxes.foldl (fun m a => m.ringLines a tN) l2
  let l4 := match l3.image.bind ImageSet.diOff with
    | some o => l3.putImg o 16 i.prim.di
    | none => l3
  let l5 := l4.valueUnits tN i.prime now
  let due := (sortEntries (l5.pair.entries.filter (fun e => decide (e.effect = n)))).filter (fun e => !e.atBoundary)
  let l6 := (due.foldl (fun m e => m.applyEntry e i.prime now) l5).settle now
  let l7 := (l6.busAlone n).owLatch n true
  { l7 with
      pair := { l7.pair with
        entries := l7.pair.entries.filter (fun e => decide (n < e.effect)), sampIn := none },
      cyc := { l7.cyc with merged := true } }

/-! ### The window opens, the compute completes -/

/-- The compute window opens (R135); the open-wire decision of a slot cycle (R276). -/
def Lane.openWindow (l : Lane) : Lane :=
  let l1 := (l.set F.CYCLE_STAT.PHASE 2).owDecide l.cycN
  let l2 : Lane := { l1 with cyc := { l1.cyc with opened := true } }
  l2.trcCycle 0x10 ((l.get F.CYCLE_TRING.NS + l.get F.CYCLE_MERGE.NS) * 3 / 5) 0 false

/-- Slot of the snapshot of cycle `n`: N mod 2, or the other one while a rejoin pins the slot of N_s (R121, R139). -/
def Lane.snapSlot (l : Lane) (n : Nat) : Nat :=
  match l.pair.rejoin, l.slots.find? (fun s => s.complete && s.cyc == l.get64 Reg.PAIR_RJ_SNAP_LO Reg.PAIR_RJ_SNAP_HI) with
  | some _, some s => if l.get F.PAIR_RJ_STAT.PHASE = 2 then 1 - s.slot else n % 2
  | _, _ => n % 2

/-- The bits of a register that are carried state (the Reset entries 'Carried'). -/
def carriedMask (addr : Nat) : Word :=
  let p := addr / 0x1000
  let o := addr % 0x1000
  match (blkOf p).map Blk.ty with
  | some 0x40 => if o = 0x74 ∨ o = 0x78 then 0xFFFFFFFF#32 else 0#32
  | some 0x44 =>
    if 0x100 ≤ o ∧ o % 0x100 = 0x10 then 0xF000FF07#32 else if 0x100 ≤ o ∧ (o % 0x100 = 0x20 ∨ o % 0x100 = 0x24) then 0xFFFFFFFF#32 else 0#32
  | some 0x60 => if addr = Reg.AIN_FAULT_LO ∨ addr = Reg.AIN_FAULT_HI then 0xFFFFFFFF#32 else 0#32
  | some 0x68 => if 0x681 ≤ p ∧ o % 0x80 = 0x0C ∧ 0x80 ≤ o then 0x200#32 else 0#32
  | some 0xB0 =>
    if addr = Reg.HOST_MIR_PCIE_A ∨ addr = Reg.HOST_MIR_PCIE_B then 0xFFFFFFFF#32
    else if Reg.HOST_HAP_SESS 0 ≤ addr ∧ addr < Reg.HOST_HAP_SESS 8 then 0xFFFFFFFF#32 else 0#32
  | _ => 0#32

/-- Carried and mirrored registers, as a snapshot holds them. -/
def Lane.snapRegs (l : Lane) : List (Nat × Word) := l.regs.filter (fun x => decide (carriedMask x.1 ||| mirMask x.1 ≠ 0#32))

/-- Restore bits of registers from a snapshot: those of a mask by address. -/
def Lane.restoreRegs (l : Lane) (rs : List (Nat × Word)) (mask : Nat → Word) : Lane :=
  (l.regs.map Prod.fst ++ rs.map Prod.fst).eraseDups.foldl (fun m a =>
    if mask a = 0#32 then m else m.putMask a (mask a).toNat (Sparse.find resetWord rs a)) l

/-- The snapshot of the cycle that has completed, not yet complete in its slot (R139). -/
def Lane.takeSnap (l : Lane) (dig : Nat) : Lane :=
  let n := l.cycN
  let s : Snap := ⟨l.snapSlot n, n, dig, false, l.car, l.snapRegs, l.recd.cnt, l.acc.tokens,
    l.ledger.grants.filter (fun g => mirroredClass g.req.cls), l.pair.keys, l.ring.cons, l.ring.loss, l.ring.absCmd,
    (l.get64 Reg.CYCLE_ORG_NUM_LO Reg.CYCLE_ORG_NUM_HI, l.get64 Reg.CYCLE_ORG_T_LO Reg.CYCLE_ORG_T_HI), l.cyc.sweep, true⟩
  { l with
    slots := upsert Snap.slot s l.slots, cyc := { l.cyc with snapOf := some n }
    -- the words of the slot are written anew
    memi := { l.memi with bad := l.memi.bad.filter (fun b => decide (slotAt b.1 ≠ some (l.snapSlot n))) } }

/-- Show the latest complete snapshot. -/
def Lane.warmShow (l : Lane) : Lane :=
  let cs := (l.slots.filter Snap.complete).map Snap.cyc
  (l.setB F.SYS_WARM.VALID (decide (cs ≠ []))).set64 Reg.SYS_WARM_CYC_LO Reg.SYS_WARM_CYC_HI (cs.foldl max 0)

/-- The snapshot being written is finished (R139). -/
def Lane.snapDone (l : Lane) : Lane :=
  match l.cyc.snapOf with
  | none => l
  | some n =>
    Lane.warmShow { l with
      slots := l.slots.map (fun s => if s.cyc = n then { s with complete := true } else s), cyc := { l.cyc with snapOf := none } }

/-- The snapshot has not finished in time: its slot stays incomplete (R139). -/
def Lane.snapMissed (l : Lane) : Lane :=
  match l.cyc.snapOf with
  | none => l
  | some _ => (Lane.ev { l with cyc := { l.cyc with snapOf := none } } cyclePage 2).warmShow

/-- The window offset at which the last running node of an engine was done. -/
def Lane.engineDone (l : Lane) (cls eng : Nat) : Nat :=
  ((l.cyc.compl.filter (fun x => decide (l.ndClass x.1 = cls ∧ l.ndEngine x.1 = eng))).map Prod.snd).foldl max 0

/-- The compute of the cycle is complete: its digest, its times, the bus releases, the snapshot and the coder begin
(R105, R106, R139, R309, R376); a trial follows its engine (R209). -/
def Lane.finishCompute (l0 : Lane) (now : Nat) : Lane × Nat :=
  let l := l0.runUntil (fun _ => false)
  let n := l.cycN
  let dig := l.digest
  let done := (l.cyc.compl.map Prod.snd).foldl max 0
  let w := l.get F.CYCLE_WINDOW.NS * 3 / 5
  let l1 := ((l.set F.CYCLE_DONE_LAST.FAB done).set F.CYCLE_DONE_MAX.FAB (max done (l.get F.CYCLE_DONE_MAX.FAB))).set F.CYCLE_STAT.PHASE 3
  let pm := l.get F.CYCLE_MARGIN_CFG.PM
  let l2 := if pm ≠ 0 ∧ pm * w < done * 1000 then l1.ev cyclePage 4 else l1
  let planned := ((l.selNodes n).map (fun i => l.ndEst i + l.ndTime i)).foldl max 0
  let l3 := ((l2.trcCycle 0x11 0 done (decide (planned < done))).busRelease (fun i => l2.selected i n)).stageOut
  let l4 : Lane := { l3 with
    cyc := { l3.cyc with
      complete := true, sweep := l3.sweepSlice.2
      logs := (l3.cyc.logs ++ [(⟨n, l3.cyc.wlog, l.sweepReg⟩ : WLog)]).drop (l3.cyc.logs.length - 4) },
    pair := { l3.pair with digOwn := (l3.pair.digOwn ++ [(n, dig)]).drop (l3.pair.digOwn.length - 7) } }
  (((l4.trialRun n (l4.engineDone 1 (((l4.trial.map TrialH.prog).getD 0) / 16))).codeCycle n now).takeSnap dig, dig)

/-! ### A cycle begins -/

/-- The seal of the cycle that ends (R97). -/
def Lane.sealOf (l : Lane) : Seal := ⟨l.cycN, l.pair.accepted.length, sealCrc l.pair.accepted⟩

/-- Cycle `n` begins on a lane: number and phase, the lists of a cycle, the cycle-number record, the trace (R130, R132). -/
def Lane.newCycle (l : Lane) (n : Nat) : Lane :=
  let l1 := ((l.set64 Reg.CYCLE_NUM_LO Reg.CYCLE_NUM_HI n).set64 Reg.PAIR_CYC_LO Reg.PAIR_CYC_HI n).set F.CYCLE_STAT.PHASE 0
  let l2 := (l1.trcBoundary n).stageIn
  let l3 : Lane := { l2 with
    cyc := { l2.cyc with
      compl := [], inServ := [], wlog := [], crcs := [], cutDone := false, cutHolder := none, merged := false, opened := false,
      complete := false, late := false, ringLast := 0, stamps := [], cuts := [], judged := 0 },
    pair := { l2.pair with sampOwn := none, accepted := [], bytes := 0 } }
  let l4 := (l3.setB F.CYCLE_TRC_STAT.ACTIVE l3.traced).owLatch n false
  if n ≠ l.cyc.s2At ∧ (n - l.cyc.s2At) % 2 ^ 24 = 0 then l4.log1 0x10 0 0x0105 [(8, n), (8, l4.tOf n)] else l4

/-- The DI image at t_N, after the input filter (R136). -/
def Lane.diImage (l : Lane) (now : Nat) : Nat :=
  let h := l.pip.filter true now
  ((List.range 128).filter (fun i => (h.line i).fx)).foldl (fun m i => m + 2 ^ i) 0

/-- The lane's sampled part at the boundary of cycle `n`; its receipt maps follow at the ring cut (R136, R287). -/
def Lane.sample (l : Lane) (i : BoundaryIn) (n now : Nat) : Lane :=
  let l1 := l.sampleAi i.ai n
  let tN := l.tOf n
  let r := (i.ax.filter (fun x => decide (x.1 < 16))).foldl (fun (m : Lane × List (Nat × AxFb)) x =>
    let f := m.1.axRecord x.1 n x.2.1 x.2.2.1 x.2.2.2.1 x.2.2.2.2 tN
    (m.1.setAxHw f.2, m.2 ++ [(x.1, f.1)])) (l1, [])
  let raws := ((List.range 64).filter l.ainOn).map (fun ch => (ch, (r.1.rd (Reg.AIN_RAW ch)).toNat))
  { r.1 with pair := { r.1.pair with sampOwn := some ⟨n, l.diImage now, raws, r.2, [], l.flag F.HOST_HALT.PIN, 0⟩ } }

/-- The frames of a boundary (R82, R240, R263, R345): cycle frames, hold frames after a warm resumption, then acyclic frames
unless a halt is in force. -/
def Lane.launchAll (l : Lane) (n now : Nat) : Lane :=
  let tN := l.tOf n
  let hold := l.cyc.holdFrames && decide (n < l.cyc.holdTo)
  let l0 : Lane := { l with cyc := { l.cyc with holdFrames := hold } }
  let l1 := l0.sksBuild tN now
  let l2 := l1.rings.foldl (fun m r => m.launch (if hold then 2 else 1) (if hold then 0 else n) (l.tOf (n + 1)) r) l1
  if l2.flag F.HOST_HALT.ACTIVE then l2 else l2.rings.foldl (fun m r => m.launchAcyc n (l.tOf (n + 1)) r) l2

/-- The hold frames of a keeper in one period, the acyclic frames after them unless a halt is in force (R73, R261, R263). -/
def Lane.launchHold (l : Lane) (now : Nat) : Lane :=
  let l0 := l.foldPeriod
  let l1 := Lane.sksBuild { l0 with ring := { l0.ring with holdSeen := [], tx := [] } } l.t64 now
  let l2 := l1.rings.foldl (fun m r => m.launch 2 0 (l.t64 + l.period) r) l1
  if l2.flag F.HOST_HALT.ACTIVE then l2 else l2.rings.foldl (fun m r => m.launchAcyc 0 (l.t64 + l.period) r) l2

end Sys2Proof.Machine
end

