-- ==== Sys2Proof/Machine/Primacy.lean ====
section
/-! DEFINITION. The base arbiter and what changes hands with primacy (R107–R113, R283, R475), and a failed pair link
(R118, R119). -/

namespace Sys2Proof.Machine

/-! ### Outputs behind the selectors (R283) -/

/-- The codes at the AO terminals: those of the selected lane, while it drives or is a keeper; 0 with the selectors
open. -/
def State.aoShow (s : State) : State :=
  match s.base.aoSel with
  | none => { s with base := { s.base with aoTerm := [] } }
  | some i =>
    let l := s.lane i
    { s with base := { s.base with aoTerm := ((List.range 32).map (fun ch => (ch, twos 16 (l.aoCode ch)))).filter (fun x => decide (x.2 ≠ 0)) } }

/-- A lane whose outputs reach the base when it is selected. -/
def Lane.serves (l : Lane) : Bool := decide (l.st = .keeper) || l.drives

/-- The base selector of PPS out and SYNC out changes over to the primacy lane at a cycle boundary (R67). -/
def State.timeShow (s : State) : State :=
  match s.base.primacy with
  | some h => { s with base := { s.base with timeSel := some h } }
  | none => s

/-! ### Withdrawal (R108) -/

/-- The arbiter withdraws primacy, with the cause that PAIR_PRIM will show: the holder's transmitters stop, no gate is
driven, the test current stops (R111). -/
def State.withdraw (s : State) (cause : Nat) : State :=
  match s.base.primacy with
  | none => s
  | some i =>
    let note (l : Lane) : Lane := { l with pair := { l.pair with cause := cause } }
    let s1 : State := { s with base := { s.base with primacy := none, freeAt := some s.now, lost := some i } }
    let s2 := s1.on i (fun l => (((note l).busDrop.aoDriving false).gatesOff.owOff).leadTime (decide (l.st = .solo)))
    (s2.on i.other (fun l => (note l).gatesOff)).lines

/-- Why the holder is to lose primacy now, as a PAIR_PRIM.CAUSE code: supply lost 6, FAULTED 4, a pair-link failure that
took it to SHADOW 7, any other release 3. -/
def State.withdrawCause (s : State) : Option Nat :=
  match s.base.primacy with
  | none => none
  | some i =>
    let l := s.lane i
    if l.sup.valid = false then some 6
    else if l.flag F.PAIR_STAT.PRIM_REQ then none
    else match l.st with
      | .faulted => some 4
      | .shadow => some 7
      | _ => some 3

/-! ### Grant (R107, R113) -/

/-- The lane whose request the arbiter serves: after a withdrawal the other lane's standing request (R108), else the first to
ask, lane A when both fall in one REF period of 40 ns (R107). -/
def State.requester (s : State) : Option LaneId :=
  let ask (l : Lane) : Bool := l.flag F.PAIR_STAT.PRIM_REQ && l.sup.valid
  if ask s.a && ask s.b then
    match s.base.lost with
    | some i => some i.other
    | none => if s.b.pair.reqAt / 16 < s.a.pair.reqAt / 16 then some .B else some .A
  else if ask s.a then some .A
  else if ask s.b then some .B
  else none

/-- The number of the first cycle boundary after this instant. -/
def Lane.nextBoundary (l : Lane) : Nat :=
  l.get64 Reg.CYCLE_ORG_NUM_LO Reg.CYCLE_ORG_NUM_HI + (l.t64 - l.get64 Reg.CYCLE_ORG_T_LO Reg.CYCLE_ORG_T_HI) / max l.period 1 + 1

/-- A lane in SHADOW is granted primacy during its rejoin: from the next cycle boundary it goes on live, or sends hold frames
and resumes warm, from the latest cycle replayed or from N_s, 1 ms after the grant; else it starts cold (R109, R113, R123). -/
def Lane.takeOver (l : Lane) (now : Nat) : Lane :=
  let at' (w : Option Nat) : Lane :=
    { l with
        pair := { l.pair with promo := some (l.nextBoundary, w) }
        start := if w.isSome then { l.start with ready := some (l.t64 + 1000000) } else l.start }
  match l.pair.rejoin with
  | none => l
  | some r =>
    if l.flag F.PAIR_STAT.LIVE then at' none
    else match r.replayed, r.held with
      | some n, _ => at' (some n)
      | none, true => at' (some (l.get64 Reg.PAIR_RJ_SNAP_LO Reg.PAIR_RJ_SNAP_HI))
      | none, false =>
        let m := (l.dropRejoin.goTo .keeper)
        let m1 := match m.store.boot with
          | some im => (m.loadImages im 1).aoStart
          | none => m
        let m2 := (m1.set F.SYS_WARM.REASON 3).stopCycles
        { m2 with
            start := { m2.start with warmOk := false, resume := none, origin := none, ready := some (m2.t64), t0 := now },
            cyc := { m2.cyc with holdFrames := true } }

/-- The boundary has come from which a joining lane that holds primacy drives: SOLO, live, or as a keeper that is to resume
from cycle `ns` (R109, R113). -/
def Lane.promote (l : Lane) (w : Option Nat) : Lane :=
  match w with
  | none => (l.dropRejoin.setPresent true).goTo .solo
  | some ns =>
    let m := (l.dropRejoin.stopCycles.setPresent true).goTo .solo
    { m with start := { m.start with resume := some ns, warmOk := true }, cyc := { m.cyc with holdFrames := true } }

/-- What a lane that holds primacy serves passes to it: bus transmitters, DACs (R111). -/
def State.serveOut (s : State) (i : LaneId) : State :=
  (s.on i (fun l => ((List.range 12).foldl (fun m n => m.busRole n l.serves) l).aoDriving l.serves)).aoShow

/-- At an idle of bus `n` its transmitter is the primacy lane's, if that lane serves the field (R111, R306). -/
def State.busIdle (s : State) (n : Nat) : State :=
  match s.base.primacy with
  | none => s
  | some i =>
    if (s.lane i.other).flag (F.PBUS_STAT.TRANSMITTER n) && ((s.lane i.other).attempt n).isSome then s
    else (s.on i.other (fun l => l.busRole n false)).on i (fun l => l.busRole n l.serves)

/-- The entry of a reception, with its KEY (R103). -/
def Lane.enterRx (l : Lane) (n t : Nat) (p : Payload) : Lane := l.enter p none (n * 2 ^ 56 + t % 2 ^ 56)

/-- Frame-start stamp of the last reception of bus `n` that the lane holds as an entry or has stored (R104). -/
def Lane.lastRxOf (l : Lane) (n : Nat) : Nat :=
  (l.pair.entries.filterMap (fun e => match e.frame with | some (b, t) => if b = n then some t else none | none => none)).foldl max
    (((l.pair.lastRx.find? (fun x => x.1 == n)).map Prod.snd).getD 0)

/-- A new holder of primacy enters the receptions later than the old holder's last (R104). -/
def Lane.busCatch (l : Lane) : Lane :=
  l.pbus.seen.foldl (fun m x => match x.2 with
    | .busRx n _ _ _ _ t _ => if m.running && decide (l.lastRxOf n + 2000 < t) then m.enterRx n t x.2 else m
    | _ => m) l

/-- Primacy is granted to lane `i`: bus transmitters, firings not yet entered, DACs pass to it (R104, R111, R357). -/
def State.give (s : State) (i : LaneId) (planned : Bool) (cause : Nat) : State :=
  let s1 : State := { s with base := { s.base with primacy := some i, freeAt := none, lost := none, aoSel := some i } }
  let s2 := s1.on i (fun l => (((l.busTake planned).busCatch).captTake).aoDriving l.serves)
  let s3 := s2.on i.other (fun l => ((if planned then l else l.busDrop).aoDriving false).owOff)
  let s4 := if planned then (List.range 12).foldl State.busIdle s3 else s3
  (s4.primacyShown cause).aoShow

/-! ### A failed pair link (R118, R119) -/

/-- The lanes act on a missed deadline: the lane without primacy goes to SHADOW, the holder continues alone; without a
holder they wait. -/
def State.linkFail (s : State) (n : Nat) : State :=
  if s.a.st = .paired ∧ s.b.st = .paired then
    let late (l : Lane) : Lane := l.ev pairPage 7
    let s1 : State := { s with a := late s.a, b := late s.b }
    match s1.base.primacy with
    | some h => s1.leave h.other (fun l => l.toShadow s.now)
    | none =>
      let wait (l : Lane) : Lane := { l with pair := { l.pair with waitLink := some n } }
      { s1 with a := wait s1.a, b := wait s1.b }
  else s

/-! ### Divergence (R115–R117) -/

/-- Ticks of 24 h. -/
def day : Nat := 34560000000000

/-- Charge a mismatch to lane `i`; the second within 24 h reports its cartridge on both lanes (R116, R117). -/
def State.charge (s : State) (i : LaneId) : State :=
  let old := (s.lane i).pair.charges.filter (fun t => decide (s.now < t + day))
  let s1 := s.on i (fun l =>
    let l1 : Lane := { l with pair := { l.pair with charges := old ++ [s.now] } }
    (l1.set F.PAIR_DIV.CHARGED 1).set F.PAIR_DIV.CHARGED_24H (min (old.length + 1) 15))
  let s2 := s1.on i.other (fun l => l.set F.PAIR_DIV.CHARGED 0)
  if old = [] then s2
  else
    let serial := (s2.lane i).store.serial
    let rep (l : Lane) : Lane :=
      (((l.set F.PAIR_STAT.REPLACE 1).set F.PAIR_DIV.REPL_SLOT i.num).ev pairPage 6).log1 0x30 0 0x010B [(1, i.num), (8, serial)]
    { s2 with a := rep s2.a, b := rep s2.b }

/-- The decision of R116 from the outcomes of the lanes' self-checks, with primacy holder `h`. -/
def State.divide (s : State) (h : LaneId) (failA failB : Bool) : State :=
  let fails (i : LaneId) : Bool := match i with | .A => failA | .B => failB
  let show' (i : LaneId) (l : Lane) : Lane := l.set F.PAIR_DIV.CHECK (if fails i then 2 else 1)
  let s0 : State := { s with a := show' .A s.a, b := show' .B s.b }
  let clear (l : Lane) : Lane := { l with pair := { l.pair with check := none, waitDiv := none } }
  let s1 : State := { s0 with a := clear s0.a, b := clear s0.b }
  let loser : LaneId := if failA = failB then h.other else if failA then .A else .B
  let s2 := s1.charge loser
  let s3 := if fails loser then s2.fail loser else s2.leave loser (fun l => l.toShadow s.now)
  if failA && failB then s3.on h (fun l => l.set F.PAIR_DIV.BOTH 1) else s3

/-- The digest of cycle `n` recomputed from the retained write log differs from the one sent (R115). -/
def Lane.logDiffers (l : Lane) (n : Nat) : Bool :=
  match l.cyc.logs.find? (fun w => w.cyc == n), l.pair.digOwn.find? (fun x => x.1 == n) with
  | some w, some d => decide (w.digest ≠ d.2)
  | _, _ => false

/-- A lane's self-check of cycle `n`: the digest recomputed, an error in fabric SRAM within [t_(n−1), t_(n+1)), or the test
vectors (R115). -/
def Lane.checkFails (l : Lane) (n : Nat) (tests : Bool) : Bool :=
  tests || l.logDiffers n || l.memi.sram.any (fun t => Sys2Proof.Machine.inWindow t (l.tOf (n - 1)) (l.tOf (n + 1)))

/-- The decision at t_N+3, where both lanes are still PAIRED and check; without a holder it waits (R116, R475). -/
def State.decideDiv (s : State) (testA testB : Bool) : State :=
  match s.a.pair.check, s.b.pair.check with
  | some ca, some cb =>
    if s.a.st = .paired ∧ s.b.st = .paired then
      let fa := s.a.checkFails ca.cyc (testA || ca.failed)
      let fb := s.b.checkFails cb.cyc (testB || cb.failed)
      match s.base.primacy with
      | some h => s.divide h fa fb
      | none =>
        let wait (c : Check) (f : Bool) (l : Lane) : Lane :=
          { l with pair := { l.pair with check := some { c with failed := f }, waitDiv := some c.cyc } }
        { s with a := wait ca fa s.a, b := wait cb fb s.b }
    else s
  | _, _ => s

/-! ### Cuts on both lanes (R148) -/

/-- The outcome of a missed deadline or of late staging on lanes: on one, it becomes FAULTED; on both, the holder goes on
alone and the other becomes FAULTED; a lane alone that has failed with both goes on. -/
def State.cutOutcome (s : State) (cutA cutB : Bool) : State :=
  if s.a.st = .paired ∧ s.b.st = .paired then
    if cutA && cutB then
      match s.base.primacy with
      | some h => s.divide h true true
      | none =>
        let wait (l : Lane) : Lane :=
          { l with pair := { l.pair with check := some ⟨l.cycN, true⟩, waitDiv := some l.cycN } }
        { s with a := wait s.a, b := wait s.b }
    else if cutA then s.fail .A
    else if cutB then s.fail .B
    else s
  else
    let alone (i : LaneId) (s : State) : State :=
      if (s.lane i).st = .solo ∧ (s.lane i).flag F.PAIR_DIV.BOTH = false then s.fail i else s
    let s1 := if cutA then alone .A s else s
    if cutB then alone .B s1 else s1

/-! ### A grant and what waited for it (R475) -/

/-- What waited for a holder is decided: a divergence, a failed link. -/
def State.settleWaits (s : State) : State :=
  match s.base.primacy with
  | none => s
  | some _ =>
    let s1 := if s.a.pair.waitDiv.isSome ∨ s.b.pair.waitDiv.isSome then s.decideDiv false false else s
    match s1.a.pair.waitLink, s1.b.pair.waitLink with
    | none, none => s1
    | some n, _ => s1.linkFail n
    | none, some n => s1.linkFail n

/-- The arbiter grants primacy to the lane whose request it serves (R107); a lane in SHADOW then acts by R113. -/
def State.grant (s : State) : State :=
  match s.base.primacy, s.requester with
  | none, some i =>
    let c := if (s.lane i).pair.cause = 0 then 1 else (s.lane i).pair.cause
    let s1 := s.give i false c
    let s2 := if (s1.lane i).st = .shadow then (s1.on i (fun l => l.takeOver s.now)).serveOut i else s1
    (s2.settleWaits).lines
  | _, _ => s

/-- The tick from which a request for a free primacy can be granted: the end of its REF period, in which the other lane's
request would come first; at once where both ask or after a withdrawal (R79, R107, R108). -/
def State.grantFrom (s : State) : Nat :=
  match s.requester with
  | none => s.now
  | some i =>
    if s.base.lost.isSome || (s.lane i.other).flag F.PAIR_STAT.PRIM_REQ then s.now else 16 * ((s.lane i).pair.reqAt / 16 + 1)

/-- The arbiter grants a free primacy where a request can be granted by now. -/
def State.arbiter (s : State) : State := if s.grantFrom ≤ s.now then s.grant else s

/-- While a lane asks, a withdrawn primacy is granted anew within 360 ns (R108): decisions that need a holder come after
that grant, a first grant at the end of the request's REF period (R107). -/
def State.held (s : State) : State :=
  let s1 := match s.withdrawCause with
    | some c => s.withdraw c
    | none => s
  match s1.base.primacy with
  | some _ => s1
  | none => (s1.untilTick s1.grantFrom).grant

end Sys2Proof.Machine
end

