-- ==== Sys2Proof/Machine/Grid.lean ====
section
/-! DEFINITION. The cycle of the module: what crosses the pair link, the boundary, the ring cut, the merge, the compute
window and its end on the lanes that run, and the lane that replays a running lane's cycles (R93–R106, R121, R132–R139). -/

namespace Sys2Proof.Machine

/-! ### The pair link (R96, R97, R106, R134) -/

/-- The pair link carries data. -/
def State.linked (s : State) : Bool := s.a.linked && s.b.linked

/-- The next message on the way to lane `i` arrives: an event entry is held for its effect cycle; a one-sided record counts
on both lanes if it comes before the receiver's cut, else on neither: it is late (R134, R249). -/
def State.takeMsg (s : State) (i : LaneId) : State :=
  match (s.lane i.other).pair.outMsg with
  | [] => s
  | m :: t =>
    let s1 := s.on i.other (fun o => { o with pair := { o.pair with outMsg := t } })
    match m with
    | .entry e => s1.on i (fun l => Lane.owHalt { l with pair := { l.pair with entries := l.pair.entries ++ [e], othSeq := e.oseq + 1 } })
    | .oneSided _ r =>
      if (s1.lane i).cyc.cutDone ∨ (s1.lane i).cycN ≠ r.cyc then s1.on i (fun l => (l.cnt F.CYCLE_OVR_COUNT.LATE_REC 1).ev cyclePage 3)
      else
        let s2 := s1.on i (fun l => { l with ring := { l.ring with recs := l.ring.recs ++ [⟨r, true, true⟩] } })
        s2.on i.other (fun o => { o with
          ring := { o.ring with recs := o.ring.recs.map (fun x => if x.r = r then { x with acked := true } else x) } })

/-- Every message on the way to lane `i` that is up to a number arrives. -/
def takeMsgs (i : LaneId) : Nat → State → State
  | 0, s => s
  | n + 1, s => takeMsgs i n (s.takeMsg i)

/-- Every message on the way to lane `i` arrives, in order. -/
def State.takeAllMsgs (s : State) (i : LaneId) : State := takeMsgs i (s.lane i.other).pair.outMsg.length s

/-- The next seal on the way to lane `i` arrives, after the entries ahead of it; it confirms them to their originator
(R97, R100). -/
def State.takeSeal (s : State) (i : LaneId) : State :=
  match (s.lane i.other).pair.outSeal with
  | [] => s
  | e :: t =>
    let s1 := s.takeAllMsgs i
    s1.on i.other (fun o => Lane.confirm { o with pair := { o.pair with outSeal := t } } e.cyc)

/-- A digest mismatch of cycle `n` is met by a PAIRED lane: the self-check starts, unless one runs (R115). -/
def Lane.mismatch (l : Lane) (n : Nat) : Lane :=
  let l1 := (((l.cnt F.PAIR_DIV.TOTAL 1).set64 Reg.PAIR_DIV_CYC_LO Reg.PAIR_DIV_CYC_HI n).ev pairPage 2)
  match l1.pair.check with
  | some _ => l1
  | none => Lane.set { l1 with pair := { l1.pair with check := some ⟨n, false⟩ } } F.PAIR_DIV.CHECK 3

/-- The digests of cycle `n` are shown as last compared. -/
def Lane.showDig (l : Lane) (n own oth : Nat) : Lane :=
  ((l.set64 Reg.PAIR_DIG_CYC_LO Reg.PAIR_DIG_CYC_HI n).set64 Reg.PAIR_DIG_OWN_LO Reg.PAIR_DIG_OWN_HI own).set64
    Reg.PAIR_DIG_OTHER_LO Reg.PAIR_DIG_OTHER_HI oth

/-- The running lane chooses N_s, a complete snapshot no earlier than the joining lane's first buffered cycle, pins its slot
and logs from there: phase 2 (R121). -/
def State.pin (s : State) (j : LaneId) : State :=
  let o := s.lane j.other
  match (s.lane j).pair.rejoin with
  | none => s
  | some r =>
    match ((o.slots.filter (fun x => x.complete && decide (r.first ≤ x.cyc))).map Snap.cyc).max? with
    | none => s
    | some n =>
      let show' (l : Lane) : Lane :=
        ((((l.set64 Reg.PAIR_RJ_SNAP_LO Reg.PAIR_RJ_SNAP_HI n).set F.PAIR_RJ_STAT.PHASE 2).set F.PAIR_RJ_STAT.MATCHED 0).wr Reg.PAIR_RJ_BACKLOG 0#32).wr
          Reg.PAIR_RJ_KIB 0#32
      let keep (l : Lane) : Lane := { l with
        pair := { l.pair with rejoin := l.pair.rejoin.map (fun q => { q with ns := some n, log := q.log.filter (fun c => decide (n < c.cyc)) }) } }
      (s.on j (fun l => show' (keep l))).on j.other (fun l => show' (keep l))

/-- Both lanes run firmware that can pair (R127). -/
def State.compatible (s : State) : Bool := decide (s.a.get F.PAIR_COMPAT.OWN = s.b.get F.PAIR_COMPAT.OWN)

/-- A snapshot of the running lane is complete: a joining lane that has no N_s yet goes to phase 2 with one that is late
enough (R121, R123). -/
def State.pinAll (s : State) : State :=
  let go (s : State) (i : LaneId) : State :=
    if (s.lane i).st = .shadow ∧ ((s.lane i).pair.rejoin.map RejoinH.ns) = some none ∧ s.compatible = true then s.pin i else s
  go (go s .A) .B

/-- The rejoin of a lane is abandoned and counted; it begins again from phase `ph`, or ends with 7. The third in a row
faults the lane and reports its cartridge (R123). -/
def State.abandon (s0 : State) (i : LaneId) (ph0 : Nat) : State :=
  let failed := (s0.lane i.other).start.fwPending && !(s0.lane i).start.fwPending
  let s := s0.fwFails i
  let l := s.lane i
  match l.pair.rejoin, l.pair.promo with
  | none, _ => s0
  | _, some _ => s0
  | some r, none =>
    -- a firmware exchange that fails so is not tried again by itself (R127)
    let ph := if failed then 7 else ph0
    let excess := decide (ph = 7)
    let fails := min (l.get F.PAIR_RJ_STAT.FAILS + 1) 255
    -- the new N_s is later than the one before (R123)
    let first := if ph = 1 then (s.lane i.other).cycN + 1 else max r.first ((r.ns.map (· + 1)).getD 0)
    let show' (m : Lane) : Lane :=
      ((((m.set F.PAIR_RJ_STAT.MATCHED 0).set F.PAIR_STAT.LIVE 0).wr Reg.PAIR_RJ_BACKLOG 0#32).set F.PAIR_RJ_STAT.PHASE ph).ev pairPage 5
    let l1 := show' ((if excess then l.askPrimacy false s.now else l).stopCycles.set F.PAIR_RJ_STAT.FAILS fails)
    let l2 : Lane := { l1 with
      pair := { l1.pair with
        rejoin := if excess then none
          else some { r with
            log := [], buf := r.buf.filter (fun x => decide (first ≤ x.cyc)), held := false, replayed := none, joinAt := none, refused := false, start := s.now,
            first := first, ns := none },
        digIn := [], digOwn := [], outDig := [] } }
    let o1 := show' (s.lane i.other)
    let o2 : Lane := { o1 with
      pair := { o1.pair with
        rejoin := if excess then none else o1.pair.rejoin.map (fun q => { q with joinAt := none, first := first, ns := none }),
        entries := o1.pair.entries.filter (fun e => decide (e.pay ≠ .join i)), digIn := [], outDig := [] } }
    let s1 := (s.setLane i l2).setLane i.other o2
    if 3 ≤ fails then
      let rep (m : Lane) : Lane :=
        (((m.set F.PAIR_STAT.REPLACE 1).set F.PAIR_DIV.REPL_SLOT i.num).ev pairPage 6).log1 0x30 0 0x010B [(1, i.num), (8, l.store.serial)]
      (s1.on i rep).fail i
    else if ph = 2 then s1.pin i
    else s1

/-- A lane's digests, own and received, are compared (R106, R112, R121); a joining lane's pip must agree too (R349). -/
def State.compare (s : State) (i : LaneId) : State :=
  let l := s.lane i
  match l.pair.digIn with
  | [] => s
  | (n, d) :: t =>
    match l.pair.digOwn.find? (fun x => x.1 == n) with
    | none => s
    | some own =>
      let s1 := s.on i (fun l => ({ l with pair := { l.pair with digIn := t } }.showDig n own.2 d))
      if l.st = .paired then (if own.2 = d then s1 else s1.on i (fun l => l.mismatch n))
      else if l.st = .shadow then
        if own.2 = d ∧ vectorsDiffer s.a.pip s.b.pip = false then
          s1.on i (fun l => (l.set F.PAIR_RJ_STAT.MATCHED (min (l.get F.PAIR_RJ_STAT.MATCHED + 1) 64)).set F.PAIR_STAT.LIVE 1)
        else s1.abandon i 2
      else s1

/-- The next digest on the way to lane `i` arrives and is compared (R106). After 64 matches in a row a joining lane enters
the join entry, which both lanes hold at once (R121). -/
def State.takeDig (s : State) (i : LaneId) : State :=
  match (s.lane i.other).pair.outDig with
  | [] => s
  | d :: t =>
    let s1 := s.on i.other (fun o => { o with pair := { o.pair with outDig := t } })
    let s2 := (s1.on i (fun l => { l with pair := { l.pair with digIn := l.pair.digIn ++ [d] } })).compare i
    let l := s2.lane i
    match l.pair.rejoin with
    | some r =>
      if l.st = .shadow ∧ 64 ≤ l.get F.PAIR_RJ_STAT.MATCHED ∧ r.joinAt = none then
        let e : Entry := ⟨l.cycN + 2, l.pair.oseq, 0x02, i, none, 0, .join i, false⟩
        let take (m : Lane) : Lane :=
          let m1 : Lane := { m with
            pair := { m.pair with
              entries := m.pair.entries ++ [e], rejoin := m.pair.rejoin.map (fun q => { q with joinAt := some e.effect }) } }
          m1.set F.PAIR_RJ_STAT.PHASE 5
        State.on { s2 with a := take s2.a, b := take s2.b } i (fun m =>
          (Lane.cnt { m with pair := { m.pair with oseq := m.pair.oseq + 1 } } F.PAIR_MIR_COUNT.ENTRIES 1))
      else s2
    | none => s2

/-- A bounded number of steps. -/
def times (f : State → State) : Nat → State → State
  | 0, s => s
  | n + 1, s => times f n (f s)

/-- Everything but sampled parts that is on the pair link towards lane `i` arrives. -/
def State.deliverTo (s : State) (i : LaneId) : State :=
  let o := s.lane i.other
  let s1 := (times (fun x => x.takeSeal i) o.pair.outSeal.length s).takeAllMsgs i
  times (fun x => x.takeDig i) o.pair.outDig.length s1

/-- Everything but sampled parts that is on the pair link arrives. -/
def State.deliver (s : State) : State := if s.linked then (s.deliverTo .A).deliverTo .B else s

/-! ### Merge -/

/-- A 64-bit digest of the input image of ring `r` in a list of records: of each station the record that counts, in station order (R121). -/
def ringDigest (recs : List OneSided) (r : Nat) : Nat :=
  let best (p : Nat) : Option OneSided := (recs.filter (fun x => x.ring == r && x.station == p)).foldl
    (fun b x => match b with
      | none => some x
      | some y => if x.ord < y.ord then some x else some y) none
  ((List.range 64).filterMap best).foldl (fun c x => x.bytes.foldl (fun k b => crc64Pair k (x.station, b)) c) crc64Init

/-- What the running lane keeps of the cycle for a joining lane (R121). -/
def Lane.keepInputs (l : Lane) (oth : Option Sampled) (own : Sampled) : Lane :=
  match l.pair.rejoin with
  | some r =>
    if l.st = .solo ∧ r.first ≤ l.cycN then
      let recs := l.ring.recs.map RingRec.r
      let c : CycIn := ⟨l.cycN, l.pair.entries.filter (fun e => decide (e.effect = l.cycN)), own, oth, recs, l.rings.map (fun r => (r, ringDigest recs r))⟩
      { l with pair := { l.pair with rejoin := some { r with log := r.log ++ [c] } } }
    else l
  | none => l

/-- The merge of lane `i`, once its sampled parts are there: alone with its own, PAIRED with both and a primacy holder
(R97, R134, R475). -/
def State.tryMerge (s : State) (i : LaneId) : State :=
  let l := s.lane i
  if l.cyc.cutDone && !l.cyc.merged then
    match l.pair.sampOwn with
    | none => s
    | some own =>
      if l.st = .paired then
        match l.pair.sampIn, s.base.primacy with
        | some oth, some h =>
          let c := l.cyc.cutHolder.getD h
          s.setLane i (l.merge ⟨own, some oth, if c = i then own else oth, decide (c = i), s.prime i⟩ s.now)
        | _, _ => s
      else s.setLane i ((l.keepInputs none own).merge ⟨own, none, own, true, true⟩ s.now)
  else s

/-- The other lane's sampled part arrives at lane `i`, and its merge goes on. -/
def State.takeSamp (s : State) (i : LaneId) : State :=
  match (s.lane i.other).pair.outSamp with
  | [] => s
  | m :: t =>
    let s1 := s.on i.other (fun o => { o with pair := { o.pair with outSamp := t } })
    if m.cyc = (s1.lane i).cycN then (s1.on i (fun l => { l with pair := { l.pair with sampIn := some m } })).tryMerge i else s1

/-! ### Lanes that run -/

/-- The lane computes cycles and drives the field. -/
def Lane.runs (l : Lane) : Bool := l.drives && l.running

/-- A lane that runs, if any. -/
def State.runner (s : State) : Option LaneId := if s.a.runs then some .A else if s.b.runs then some .B else none

/-- Change every lane that runs. -/
def State.onRuns (s : State) (f : Lane → Lane) : State :=
  { s with a := if s.a.runs then f s.a else s.a, b := if s.b.runs then f s.b else s.b }

/-- Act for every lane that runs. -/
def State.each (s : State) (f : State → LaneId → State) : State :=
  let s1 := if s.a.runs then f s .A else s
  if s1.b.runs then f s1 .B else s1

/-! ### The ring cut (R134) -/

/-- A one-sided record whose forwarding has not completed by the ring cut: how long it takes is the links' (R134; log entry 167). -/
def LinkMsg.slow : LinkMsg → Bool
  | .entry _ => false
  | .oneSided _ r => !Config.forwarded r.cyc r.ring r.station

/-- Up to the ring cut the messages on the way to lane `i` arrive, but for the one-sided records whose forwarding takes longer. -/
def State.takeToCut (s : State) (i : LaneId) : State :=
  let out := (s.lane i.other).pair.outMsg
  let put (ms : List LinkMsg) (l : Lane) : Lane := { l with pair := { l.pair with outMsg := ms } }
  ((s.on i.other (put (out.filter (fun m => !m.slow)))).takeAllMsgs i).on i.other (put (out.filter LinkMsg.slow))

/-- The ring cut on a lane, with the lane that holds primacy at that instant: maps into its sampled part, which goes out while
PAIRED. -/
def Lane.cut (l0 : Lane) (holder : Option LaneId) : Lane :=
  if l0.cyc.cutDone then l0
  else
    -- the snapshot of the cycle before is finished by now (R132, R139)
    let l := l0.snapDone
    let l1 := l.rings.foldl Lane.cutRing l
    let samp := l1.pair.sampOwn.map (fun m => { m with maps := l1.cutMaps })
    let ret := min l.cyc.ringLast 1048575
    let l2 := ((l1.set F.CYCLE_STAT.PHASE 1).set F.CYCLE_RING_LAST.NS ret).set F.CYCLE_RING_MAX.NS (max (l.get F.CYCLE_RING_MAX.NS) ret)
    let l3 : Lane := { l2 with cyc := { l2.cyc with cutDone := true, cutHolder := holder }, pair := { l2.pair with sampOwn := samp, outSamp := [] } }
    match samp with
    | some m => if l3.st = .paired then l3.sendSampled m else l3
    | none => l3

/-- Offsets of the phases of a cycle from its nominal time. -/
def Lane.cutAt (l : Lane) : Nat := l.tOf l.cycN + l.get F.CYCLE_TRING.NS
def Lane.openAt (l : Lane) : Nat := l.cutAt + l.get F.CYCLE_MERGE.NS

/-- The ring cut of the cycle in progress, on every lane that runs. -/
def State.cut (s : State) : State :=
  match s.runner with
  | none => s
  | some i =>
    if (s.lane i).cyc.cutDone then s
    else
      let s1 := s.untilT i (s.lane i).cutAt
      (((if s1.linked then (s1.takeToCut .A).takeToCut .B else s1).onRuns (fun l => (l.cut s1.base.primacy).owNow)).pinAll).each State.tryMerge

/-! ### The compute window (R135, R138) -/

/-- The merge phase ends: the sampled parts have crossed the link, or their deadline is missed (R97, R119). -/
def State.merged (s : State) : State :=
  let s0 := s.cut.held
  let s1 := if s0.linked then (s0.takeSamp .A).takeSamp .B else s0
  let s2 := s1.each State.tryMerge
  match s2.runner with
  | none => s2
  | some i =>
    let miss (l : Lane) : Bool := decide (l.st = .paired) && !l.cyc.merged && l.pair.sampIn.isNone
    if miss s2.a || miss s2.b then ((s2.linkFail (s2.lane i).cycN).held).each State.tryMerge else s2

/-- The window opens on every lane that runs and has merged; staging late on a lane is handled as a missed deadline. -/
def State.window (s : State) (lateA lateB : Bool) : State :=
  let s1 := s.merged
  match s1.runner with
  | none => s1
  | some i =>
    if (s1.lane i).cyc.opened then s1
    else
      let s2 := s1.untilT i (s1.lane i).openAt
      let op (late : Bool) (l : Lane) : Lane :=
        if l.runs && l.cyc.merged && !l.cyc.opened then (let m := l.openWindow; if late then m.stageLate else m) else l
      let s3 : State := { s2 with a := op lateA s2.a, b := op lateB s2.b }
      let dead (late : Bool) (l : Lane) : Bool := late && l.runs && l.cyc.late
      s3.cutOutcome (dead lateA s3.a) (dead lateB s3.b)

/-! ### A lane that replays (R120–R122) -/

/-- A joining lane computes one cycle from the running lane's log. -/
def Lane.replay (l : Lane) (c : CycIn) (now : Nat) : Lane × Nat :=
  let l0 := (l.ringEnd l.cycN).newCycle c.cyc
  let l1 := c.entries.foldl (fun (m : Lane) e => match e.pay with
    | .timeStep d => if m.duplicate e then m else m.noteKey e |>.moveCarried d
    | .timeSet v => if m.duplicate e then m else match m.setDelta v e.effect with
      | some d => (m.noteKey e).moveCarried d
      | none => m.noteKey e
    | .timeState _ | .timeSource _ | .timeUtc _ => m.applyEntry e false now
    | _ => m) l0
  let l2 := match l1.cyc.exchAt, l1.store.prep with
    | some e, some im => if e = c.cyc then l1.exchange im e now else l1
    | _, _ => l1
  let l3 := (l2.busQueue).aoLatch
  let l4 := c.own.ai.foldl (fun (m : Lane) x => m.wr (Reg.AIN_RAW x.1) (word x.2)) l3
  let l5 : Lane := { l4 with
    ring := { l4.ring with recs := c.recs.map (fun r => ⟨r, false, true⟩) },
    pair := { l4.pair with entries := c.entries ++ l4.pair.entries.filter (fun e => decide (c.cyc < e.effect)) },
    cyc := { l4.cyc with cutDone := true } }
  let l6 := ((l5.merge ⟨c.own, c.oth, c.own, false, false⟩ now).spend).openWindow
  let r := l6.finishCompute now
  (r.1.snapDone, r.2)

/-- The cycle that a joining lane has computed last: the latest replayed, or N_s. -/
def Lane.replayedTo (l : Lane) (r : RejoinH) : Nat := r.replayed.getD (l.get64 Reg.PAIR_RJ_SNAP_LO Reg.PAIR_RJ_SNAP_HI)

/-- The ring records of a replayed cycle: the joining lane's own where they give the logged digest of the ring, else fetched (R121). -/
def RejoinH.inputs (r : RejoinH) (c : CycIn) : List OneSided :=
  let own := r.buf.filter (fun x => decide (x.cyc = c.cyc))
  (c.digs.map (fun d => (if ringDigest own d.1 = d.2 then own else c.recs).filter (fun x => x.ring == d.1))).flatten

/-- The joining lane `i` computes the next cycle of the running lane's log (R121, R122). -/
def State.replayNext (s : State) (i : LaneId) : State :=
  let l := s.lane i
  let o := s.lane i.other
  match l.pair.rejoin, o.pair.rejoin with
  | some r, some q =>
    match q.log.find? (fun c => c.cyc == l.replayedTo r + 1) with
    | none => s
    | some c =>
      let x := l.replay { c with recs := r.inputs c } s.now
      let l1 : Lane := { x.1 with pair := { x.1.pair with rejoin := some { r with replayed := some c.cyc, buf := r.buf.filter (fun y => decide (c.cyc < y.cyc)) } } }
      s.setLane i (if l1.get F.PAIR_RJ_STAT.PHASE < 4 then l1.wr Reg.PAIR_RJ_BACKLOG (word (o.cycN - c.cyc)) else l1)
  | _, _ => s

/-- In phases 4 and 5 the joining lane computes the cycle that the running lane has computed, and both send their digests
(R121). -/
def State.shadowCycle (s : State) (i : LaneId) : State :=
  let j := i.other
  let l := s.lane j
  if l.st = .shadow ∧ 4 ≤ l.get F.PAIR_RJ_STAT.PHASE ∧ l.get F.PAIR_RJ_STAT.PHASE ≤ 5 then
    let s1 := s.replayNext j
    let n := (s1.lane i).cycN
    let dig (m : Lane) : List (Nat × Nat) := m.pair.digOwn.filter (fun x => decide (x.1 = n))
    let push (m : Lane) : Lane := { m with pair := { m.pair with outDig := m.pair.outDig ++ dig m } }
    (s1.on j push).on i push
  else s

/-! ### Compute completion (R106) -/

/-- The nodes that have been cut on a lane have their outcome, once the window of every lane has come as far (R148). -/
def State.judgeCuts (s : State) : State :=
  let bad (l : Lane) : Bool := l.runs && l.unjudged
  if bad s.a || bad s.b then
    let last (l : Lane) : Nat := if bad l then (l.cyc.cuts.getLast?.map l.ndDead).getD 0 else 0
    let t := max (last s.a) (last s.b)
    let go (l : Lane) : Lane :=
      if l.runs then l.runTo (fun m => match m.nextEv m.cycN with | some e => decide (2 * t < m.evAt m.cycN e) | none => true) else l
    let s1 : State := { s with a := go s.a, b := go s.b }
    let done (l : Lane) : Lane := { l with cyc := { l.cyc with judged := l.cyc.cuts.length } }
    (State.cutOutcome { s1 with a := done s1.a, b := done s1.b } (bad s1.a) (bad s1.b)).held
  else s

/-- The window of lane `i` runs on until a condition holds, with the outcome of every cut on the way. -/
def State.runWin (i : LaneId) (stop : Lane → Bool) : Nat → State → State
  | 0, s => s
  | k + 1, s =>
    let s1 := s.on i (fun l => if l.runs then l.runTo stop else l)
    if s1.a.unjudged || s1.b.unjudged then State.runWin i stop k s1.judgeCuts else s1

/-- The window of lane `i` runs on until a condition holds. -/
def State.runWindow (s : State) (i : LaneId) (stop : Lane → Bool) : State := State.runWin i stop (2 * (s.lane i).nodes + 2) s

/-- The compute of lane `i` completes, at the instant of its last node: its digest goes out, a joining lane follows. -/
def State.complete (s0 : State) (i : LaneId) : State :=
  let s := s0.runWindow i (fun _ => false)
  let l := s.lane i
  if l.runs && l.inWindow then
    let done := (l.cyc.compl.map Prod.snd).foldl max 0
    let s1 := (s.setLane i l).untilT i (l.openAt + (done * 5 + 2) / 3)
    let r := (s1.lane i).finishCompute s1.now
    let l1 : Lane := { r.1 with
      pair := { r.1.pair with outDig := if r.1.st = .paired then r.1.pair.outDig ++ [(r.1.cycN, r.2)] else r.1.pair.outDig } }
    (s1.setLane i l1).shadowCycle i
  else s

/-- The cycle in progress comes to its end on every lane that runs: cut, merge, window, compute, and what crosses the link. -/
def State.finishCycle (s : State) : State := (((s.window false false).each State.complete).deliver).held

/-! ### The boundary (R132) -/

/-- The end of the cycle in progress on a lane: absence and return, the seal; alone, the seal confirms (R97, R100, R252). -/
def Lane.endCycle (l : Lane) : Lane :=
  let n := l.cycN
  let l1 := if n + 1 = l.cyc.s2At then l else l.ringEnd n
  let l2 := l1
  if l2.st = .paired then { l2 with pair := { l2.pair with outSeal := l2.pair.outSeal ++ [l2.sealOf] } }
  else (Lane.confirm { l2 with pair := { l2.pair with outMsg := [], outSeal := [], outSamp := [] } } n)

/-- A lane leaves at the boundary that its entry names: refused alone without FORCE, else it stops driving, drops PRESENT
and hands primacy over where it holds it; in a firmware exchange it resets with cause UPDATE (R110, R113, R127). -/
def State.leaveAt (s : State) (e : Entry) (i : LaneId) (force fw : Bool) : State :=
  let l := s.lane i
  let seat := match e.seat with | some q => q | none => 0x11
  let keep := decide (l.st = .paired) && s.prime i && decide ((s.lane i.other).st = .paired)
  let halt (m : Lane) : Lane := if keep then m.stopHanding else m.stopDriving
  let go (m : Lane) : Lane := (((((halt m).dropCheck.dropRejoin.loseEntries).goTo .leaving).setPresent false).askPrimacy false s.now)
  let stop (m : Lane) : Lane :=
    if fw then (let x := (go m).resetL 4 s.now; { x with start := { x.start with fwPending := false, fwChanged := true } }) else go m
  if l.st = .paired then
    let s1 := if s.prime i ∧ (s.lane i.other).st = .paired then s.give i.other true 3 else s
    s1.leave i stop
  else if l.st = .solo then
    if force then s.leave i stop else s.on i (fun m => m.err pairPage 0x40 seat Reg.PAIR_CTRL)
  else s

/-- A lane joins at its boundary, where its cycle begins with the running lane's: it has the running lane's entries, buses, recorder counters; both are PAIRED (R121,
R309, R379). A firmware exchange goes on with the other lane (R127). -/
def State.joinAt (s : State) (j : LaneId) : State :=
  let run := s.lane j.other
  let l0 := s.lane j
  if l0.st = .shadow ∧ run.st = .solo ∧ l0.pair.rejoin.isSome ∧ l0.time.unaligned = false then
    let l := (l0.ringEnd l0.cycN).newCycle run.cycN
    let l1 : Lane := { l with
      pair := { l.pair with
        entries := run.pair.entries, keys := run.pair.keys, rejoin := none, digIn := [], digOwn := [], outDig := [], outMsg := [], outSeal := [],
        outSamp := [], accepted := [], unconf := [] },
      pip := { l.pip with outs := run.pip.outs },
      capt := { l.capt with joined := run.cycN },
      time := { l.time with trig := run.time.trig },
      pbus := { l.pbus with captured := run.pbus.captured, queue := run.pbus.queue, objs := run.pbus.objs } }
    let l1b := (List.range 32).foldl (fun (m : Lane) k => (m.wr (Reg.TT_TGT_LO k) (run.rd (Reg.TT_TGT_LO k))).wr (Reg.TT_TGT_HI k) (run.rd (Reg.TT_TGT_HI k))) l1
    let l2 := ((((l1b.recJoin run.recd).closeAll true s.now).setPresent true).askPrimacy true s.now).goTo .paired
    let done (m : Lane) : Lane := (((m.set F.PAIR_RJ_STAT.PHASE 6).set F.PAIR_RJ_STAT.FAILS 0).set F.PAIR_RJ_STAT.MATCHED 64).ev pairPage 4
    let o1 := (((({ run with pair := { run.pair with rejoin := none, digIn := [], outDig := [] } } : Lane).closeAll true s.now).set F.PAIR_RJ_STAT.PHASE 6).askPrimacy true
      s.now).goTo .paired
    let next (m : Lane) : Lane :=
      if m.start.fwPending then (m.enter .transfer none 0).enter (.leave j.other true true) none 0 else m
    State.lines ((s.setLane j ((done l2).set F.PAIR_STAT.LIVE 0)).setLane j.other (next (o1.ev pairPage 4)))
  else s

/-- Entries that take effect at the boundary t_N itself (R58, R66, R110, R113, R121). A joining lane steps its time with the
running one. -/
def State.boundaryEntry (s : State) (e : Entry) : State :=
  match e.pay with
  | .transfer =>
    match s.base.primacy with
    | some h => if s.a.st = .paired ∧ s.b.st = .paired then s.give h.other true 2 else s
    | none => s
  | .leave i force fw => s.leaveAt e i force fw
  | .join j => s.joinAt j
  | .timeStep d =>
    let go (l o : Lane) : Lane :=
      if l.runs then l.applyEntry e false s.now
      else if l.st = .shadow ∧ o.runs then l.timeStepShadow d else l
    { s with a := go s.a s.b, b := go s.b s.a }
  | .timeSet v =>
    let go (l o : Lane) : Lane :=
      if l.runs then l.applyEntry e false s.now
      else if l.st = .shadow ∧ o.runs then
        match o.setDelta v e.effect with
        | some d => (l.timeStepShadow d).timeState (if o.get F.TIME_STAT.STATE = 0 ∨ o.get F.TIME_CTRL.SOURCE = 0 then 1 else o.get F.TIME_STAT.STATE)
        | none => l
      else l
    { s with a := go s.a s.b, b := go s.b s.a }
  | _ =>
    let go (l o : Lane) : Lane := if l.runs || (decide (l.st = .shadow) && o.runs) then l.applyEntry e false s.now else l
    { s with a := go s.a s.b, b := go s.b s.a }

/-- The boundary entries of effect cycle `n`, in mirror-set order. -/
def State.boundaryEntries (s : State) (n : Nat) : List Entry :=
  match s.runner with
  | none => []
  | some i => (sortEntries ((s.lane i).pair.entries.filter (fun e => decide (e.effect = n)))).filter Entry.atBoundary

/-- An exchange that stands for cycle `n` takes place on every lane that runs; a PAIRED lane without the image leaves the
pair where the other has it (R205). -/
def State.exchangeAt (s : State) (n : Nat) : State :=
  let due (l : Lane) : Bool := decide (l.cyc.exchAt = some n)
  let ok (l : Lane) : Bool := due l && l.store.prep.isSome
  let s1 :=
    if s.a.st = .paired ∧ s.b.st = .paired ∧ ok s.a ≠ ok s.b then
      s.leave (if ok s.a then .B else .A) (fun l => l.toShadow s.now)
    else s
  s1.onRuns (fun l => match l.store.prep with
    | some im => if due l then l.exchange im n s1.now else l
    | none => l)

/-- What a lane latches, launches and samples at t_N (R132, R136, R282, R309, R446); at N_org of a cold start nothing is
computed yet, and the hold values of the outputs stand (R73). -/
def Lane.latchAll (l : Lane) (i : BoundaryIn) (n now : Nat) : Lane :=
  let l0 := if n = l.cyc.s2At ∧ l.flag F.SYS_STATE.WARM = false then l else l.aoLatch
  let l1 := (l0.axLatch.trialMap n).busQueue.haltShow (l.flag F.HOST_HALT.PIN || l.flag F.HOST_HALT.SOFT)
  (((((l1.launchAll n now).sample i n now).ainRate).fiShow).captBoundary (l.tOf n) now).owNow

/-- A joining lane that computes the live cycles takes its own samples at t_N too (R121). -/
def Lane.shadowSample (l : Lane) (i : BoundaryIn) (n now : Nat) : Lane :=
  if l.st = .shadow ∧ 4 ≤ l.get F.PAIR_RJ_STAT.PHASE ∧ l.get F.PAIR_RJ_STAT.PHASE ≤ 5 then
    { l with pair := { l.pair with sampOwn := (l.sample i n now).pair.sampOwn } }
  else l

/-- Cycle `n` begins on the lanes that run, at t_N. -/
def State.beginCycle (s : State) (n : Nat) (ia ib : BoundaryIn) : State :=
  let s1 := s.onRuns (fun l => l.newCycle n)
  let s2 := ((s1.boundaryEntries n).foldl State.boundaryEntry s1).exchangeAt n
  let latch (l : Lane) (i : BoundaryIn) : Lane := if l.runs then l.latchAll i n s2.now else l.shadowSample i n s2.now
  let s3 : State := { s2 with a := latch s2.a ia, b := latch s2.b ib }
  let halt : Bool := match s3.base.primacy with
    | some h => (s3.lane h).flag F.HOST_HALT.PIN || (s3.lane h).flag F.HOST_HALT.SOFT
    | none => false
  let s4 := s3.onRuns (fun l => l.recBoundary (l.tOf n) halt s3.now)
  let s5 := s4.onRuns (fun l => l.syncOut n)
  ((s5.timeShow).aoShow).lines

/-- A divergence not decided by t_N+3, a seal or digest not held by t_N+2 (R97, R106, R116), as a boundary finds them. -/
def State.deadlines (s : State) : State :=
  match s.runner with
  | none => s
  | some i =>
    let n := (s.lane i).cycN + 1
    let s1 := match (s.lane i).pair.check with
      | some c => if c.cyc + 3 ≤ n ∧ (s.lane i).pair.waitDiv = none then s.decideDiv (Config.vectorsFail 0 c.cyc) (Config.vectorsFail 1 c.cyc) else s
      | none => s
    let old (l : Lane) : Bool := l.pair.outSeal.any (fun x => decide (x.cyc + 2 ≤ n)) || l.pair.outDig.any (fun x => decide (x.1 + 2 ≤ n))
    if s1.a.st = .paired ∧ s1.b.st = .paired ∧ (old s1.a || old s1.b) = true then s1.linkFail n else s1

/-- A keeper, or a lane alone that waits to resume, sends its hold frames and keeps its buses alive (R73, R82, R123). -/
def Lane.keep (l : Lane) (prime : Bool) (now : Nat) : Lane :=
  if l.cyc.holdFrames && !l.running && (decide (l.st = .keeper) || l.drives) then
    let l1 := l.launchHold now
    if prime then l1.busKeepalive else l1
  else if !l.runs && decide (1 ≤ l.stage) then l.foldPeriod
  else l

/-- What a joining lane computes a cycle from once the running lane is lost: the entries it holds, its own samples and the
records it has stored (R121, R123). -/
def Lane.ownInputs (l : Lane) (r : RejoinH) (n : Nat) : CycIn :=
  let own := (l.pair.sampOwn.filter (fun m => decide (m.cyc = n))).getD ⟨n, 0, [], [], [], false, 0⟩
  ⟨n, l.pair.entries.filter (fun e => decide (e.effect = n)), own, none, r.buf.filter (fun x => decide (x.cyc = n)), []⟩

/-- A lane with live state computes the cycles up to `n` that the running lane left (R123). -/
def catchUp (now n : Nat) : Nat → Lane → Lane
  | 0, l => l
  | k + 1, l =>
    match l.pair.rejoin with
    | none => l
    | some r =>
      let c := l.replayedTo r + 1
      if n < c then l
      else
        let x := (l.replay (l.ownInputs r c) now).1
        catchUp now n k { x with pair := { x.pair with rejoin := some { r with replayed := some c } } }

/-- The boundary comes at which a joining lane that has been granted primacy begins to drive (R109, R113). -/
def State.promoteDue (s : State) (i : LaneId) : State :=
  match (s.lane i).pair.promo with
  | none => s
  | some (n, w) =>
    let s1 := s.untilT i ((s.lane i).tOf n)
    let s2 := s1.on i (fun l => (if w.isNone then catchUp s1.now (n - 1) 64 l else l).promote w)
    ((s2.on i.other (fun o => o.keeperToShadow s1.now)).serveOut i).lines

/-- The cycle boundary: the cycle in progress ends, time passes to t_N, cycle N begins (R132). -/
def State.boundary (s0 : State) (ia ib : BoundaryIn) : State :=
  let s := (s0.arbiter.promoteDue .A).promoteDue .B
  let k : State := { s with a := s.a.keep (s.prime .A) s.now, b := s.b.keep (s.prime .B) s.now }
  let s1 := k.finishCycle
  match s1.runner with
  | none => k
  | some i =>
    let n := (s1.lane i).cycN + 1
    let s2 := (((s1.untilT i ((s1.lane i).tOf n)).deliver).deadlines).held
    match s2.runner with
    | none => s2
    | some _ => (s2.onRuns Lane.endCycle).beginCycle n ia ib

end Sys2Proof.Machine
end

