-- ==== Sys2Proof/Machine/Read.lean ====
section
/-! DEFINITION. What a read of a register or table window returns: the stored word, or the word that hidden state gives;
frozen instances (R26), captured HI registers (R70), the windows of the tables. -/

namespace Sys2Proof.Machine

/-! ### Words that hidden state gives -/

/-- The running image uses the instance of page `p` (PROFILE_LOCK): it sets registers there, or its graph runs on it. -/
def Lane.locked (l : Lane) (p : Nat) : Bool :=
  match l.image with
  | none => false
  | some im =>
    decide (1 ≤ l.stage) && ((blkOf p).map Blk.ty != some 0x04) &&
      (im.regs.any (fun x => instPage (x.1 / 0x1000) == instPage p) ||
        (List.range l.nodes).any (fun i =>
          (decide (l.ndClass i = 0) && decide (p = 0x200 + l.ndEngine i)) || (decide (l.ndKind i = 5) && decide (p = 0x300 + l.ndObj i / 16)) ||
            (decide (l.ndKind i = 6) && decide (p = 0x381 + l.ndObj i)) || (decide (l.ndKind i = 7) && decide (instPage p = 0x680))))

/-- BLK_STAT.BLOCK: nodes assigned to a loop engine, programs on a logic engine. -/
def Lane.blockStat (l : Lane) (p : Nat) : Nat :=
  match (blkOf p).map Blk.ty with
  | some 0x20 => ((List.range l.nodes).filter (fun i => decide (l.ndClass i = 0 ∧ l.ndEngine i = p - 0x200))).length
  | some 0x30 => ((l.image.map ImageSet.progs).getD [] |>.filter (fun x => decide (x.prog / 16 = p - 0x300))).length
  | _ => 0

/-- The key of a seat on the instance of page `p` is open at tick `now` (R29). -/
def Lane.keyOpen (l : Lane) (seat p now : Nat) : Bool :=
  match l.acc.keys.find? (fun k => k.seat == seat && k.inst == instPage p) with
  | some k => (match k.st with | .opened t => decide (now < t + 512) | .first => false)
  | none => false

/-- BLK_STAT as a seat reads it. -/
def Lane.blkStat (l : Lane) (seat p now : Nat) : Word :=
  let busy := l.get (F.BLK_STAT.RESET_BUSY (instPage p))
  word (l.blockStat p * 2 ^ 16 + b2n (l.keyOpen seat p now) * 16 + b2n (decide (l.get (F.ERR_CODE.CODE (instPage p)) ≠ 0)) * 8 + busy * 4 +
    l.get (F.BLK_CTRL.FREEZE (instPage p)) * 2 + b2n (l.flag (F.BLK_CTRL.ENABLE (instPage p)) && decide (busy = 0)))

/-- LOGIC_PSTAT of program `p`. -/
def Lane.pstat (l : Lane) (p : Nat) : Word :=
  match l.car.progs.find? (fun e => e.prog == p) with
  | some e => word (min e.consec 255 * 2 ^ 24 + e.trap % 256 * 2 ^ 16 + e.cause % 8 * 2 ^ 5 + b2n (l.progImg p).isSome * 16 + b2n e.stepPend * 8 + e.st % 4)
  | none => word (b2n (l.progImg p).isSome * 16)

/-- Words of a recipe channel's page. -/
def Lane.chanWord (l : Lane) (c o : Nat) : Option Word :=
  let e := l.chan c
  match o with
  | 0x44 => some (word (e.step % 2 ^ 16 * 2 ^ 16 + e.cause % 16 * 2 ^ 12 + e.cmdRes % 4 * 2 ^ 8 + e.heldWhy % 8 * 2 ^ 4 + e.state % 16))
  | 0x58 => some (word e.acyc)
  | 0x5C => some (word (e.acyc / 2 ^ 32))
  | 0x60 => some (word e.ta)
  | 0x64 => some (word (e.ta / 2 ^ 32))
  | 0x68 => some (word (if e.state = 2 then e.dRem else 0))
  | 0x6C => some (word (if e.state = 2 then e.dRem / 2 ^ 32 % 2 ^ 16 else 0))
  | _ => none

/-- RECIPE_SEQ_STAT. -/
def Lane.seqStat (l : Lane) : Word :=
  let n (p : ChanI → Bool) : Nat := (l.car.chans.filter p).length
  word (n (fun e => decide (e.state = 2)) * 2 ^ 24 + n (fun e => decide (e.state = 1 ∨ e.state = 3)) * 2 ^ 16)

/-- The word of a register that the base, the other lane or the time gives: SAFE_STAT.OTHER_RUN, SAFE_BASE, SAFE_SO_CMD, SAFE_SO_OUT,
SAFE_TO, SAFE_SKS_IN_ERR.RATE. -/
def State.baseWord (s : State) (i : LaneId) (addr : Nat) : Option Word :=
  let l := s.lane i
  if addr = Reg.SAFE_STAT then some (withBits (l.rd addr) 4 4 ((s.lane i.other).get F.SAFE_STAT.PIP_RUN))
  else if addr = Reg.SAFE_BASE then
    some (word (b2n s.base.brB * 8 + b2n s.base.brA * 4 + b2n s.b.start.present * 2 + b2n s.a.start.present))
  else if addr = Reg.SAFE_VER then
    some (withBits (l.rd addr) 31 16 (((bootBank l.host.banks (l.get F.HOST_SEC_STAT.FUSED)).map (fun b => b.2.1)).getD 0))
  else if addr = Reg.SAFE_SO_OUT_LO then some (word (maskOf s.outOn 0 32))
  else if addr = Reg.SAFE_SO_OUT_HI then some (word (maskOf s.outOn 32 32))
  else if addr = Reg.SAFE_TO then some (word (maskOf s.outOn 64 16 * 2 ^ 16 + l.pip.given 64 16 s.now))
  else if addr = Reg.SAFE_SO_CMD_LO then some (word (l.pip.given 0 32 s.now))
  else if addr = Reg.SAFE_SO_CMD_HI then some (word (l.pip.given 32 32 s.now))
  else if 0x782104 ≤ addr ∧ addr < 0x782304 ∧ addr % 8 = 4 then
    some (withBits (l.rd addr) 31 24 (min 255 (((l.pip.x.conn ((addr - 0x782104) / 8)).rejects.filter (fun t => decide (s.now ≤ t + 400000000))).length)))
  else none

/-- The bits of a rights register of pages whose codes stand for implemented pages; the others read 0b00 (R35, R36). -/
def rightsMask (addr : Nat) : Nat :=
  let g := 16 * ((addr % 0x1000 - 0x400) / 4)
  ((List.range 16).map (fun j => if (blkOf (g + j)).isSome then 3 * 4 ^ j else 0)).sum

/-- The word of a register that hidden state of the lane gives, as a seat reads it. -/
def State.overlay (s : State) (i : LaneId) (seat addr : Nat) : Option Word :=
  let l := s.lane i
  let p := addr / 0x1000
  let o := addr % 0x1000
  if o = 0x004 then some (word ((l.rd addr).toNat + ((blkOf p).map (fun b => (Config.blkMinor b.ty).toNat)).getD 0 * 2 ^ 16))
  else if o = 0x008 then some (withBits (l.rd (home addr)) 3 3 (b2n (l.locked p)))
  else if o = 0x00C then some (l.blkStat seat p s.now)
  else if o < 0x40 then none
  else match (blkOf p).map Blk.ty with
    | some 0x04 => if 0x400 ≤ o ∧ o < 0x800 then some (l.rd addr &&& word (rightsMask addr)) else none
    | some 0x30 => if 0x80 ≤ o ∧ o < 0x100 ∧ o % 8 = 4 then some (l.pstat ((p - 0x300) * 16 + (o - 0x80) / 8)) else none
    | some 0x38 => if p = 0x380 then (if o = 0x40 then some l.seqStat else none) else l.chanWord (p - 0x381) o
    | some 0x70 =>
      if o = 0x44 then
        let c := l.pctl (p - 0x700)
        let ewl := l.get (F.PBUS_CTRL.EWL (p - 0x700))
        some (withBits (withBits (l.rd addr) 7 7 (b2n (l.counted (p - 0x700)))) 3 3 (b2n (decide (ewl ≤ c.tec ∨ ewl ≤ c.rxe))))
      else none
    | some 0x78 => s.baseWord i addr
    | some 0x90 =>
      if p = 0x900 ∧ o < 0x60 then some (l.workSubRead seat ((o - 0x40) / 4))
      else if p = 0x900 ∧ o = 0x60 then some (l.workResRead seat) else none
    | some 0x98 =>
      let f := (p - 0x980) * 16 + (o - 0x100) / 0x40
      if 0x100 ≤ o ∧ o < 0x500 then
        (match (o - 0x100) % 0x40 with
          | 0x24 => some (word (l.fifoCaptured f seat 1))
          | 0x28 => some (word (l.fifoCaptured f seat 2))
          | 0x2C => some (word (l.fifoCaptured f seat 3))
          | _ => none)
      else none
    | some 0xA0 =>
      if p = 0xA01 ∧ 0x400 ≤ o ∧ o < 0x480 then
        some (word (maskOf (fun j => l.irq.level.contains (32 * ((o - 0x400) / 4) + j)) 0 32))
      else if p = 0xA07 ∧ 0x100 ≤ o ∧ o < 0x180 then some (word (l.tgtSum ((o - 0x100) / 4)))
      else if p = 0xA00 ∧ 0x100 ≤ o ∧ o < 0x180 then some (withBits (l.rd addr) 0 0 (b2n (l.awake ((o - 0x100) / 4))))
      else none
    | some 0xB0 => if addr = Reg.HOST_PCIE_ID then some (word (0x9640 * 2 ^ 16 + Config.vendorId.toNat)) else none
    | _ => none

/-- The word of a register now, as a seat reads it. -/
def State.liveWord (s : State) (i : LaneId) (seat addr : Nat) : Word := (s.overlay i seat addr).getD ((s.lane i).rd (home addr))

/-- Bits of a register that no seat can read: WO fields, actions of RWK fields, WORK_CANCEL (R6). -/
def readMask (addr : Nat) : Word :=
  match rowOf addr with
  | none => 0#32
  | some r =>
    let acts : Nat :=
      if addr = Reg.SYS_CTRL then 0x3 else if addr = Reg.PAIR_CTRL then 0x27 else if addr = Reg.LOGIC_EXCH_CTRL then 0x7
      else if addr = Reg.SAFE_LOAD_CTRL then 0x3 else if addr = Reg.HOST_SEC_CTRL then 0x3 else 0
    word (2 ^ 32 - 1 - Nat.lor (Nat.lor r.wo r.w1s) acts)

/-! ### FREEZE (R26) -/

/-- The RO status and counter bits of a register, which FREEZE holds: not EV_PEND, not FROZEN, RESET_BUSY and the reading seat's
KEY_OPEN, not the data words that a seat has taken from a FIFO. -/
def frozenMask (addr : Nat) : Nat :=
  let o := addr % 0x1000
  if o = 0x008 then 0x8
  else if o = 0x00C then 0xFFFF0009
  else if o < 0x020 ∨ o = 0x028 then 0
  else if (blkOf (addr / 0x1000)).map Blk.ty = some 0x98 ∧ 0x100 ≤ o ∧ o < 0x500 ∧ 0x20 ≤ (o - 0x100) % 0x40 ∧ (o - 0x100) % 0x40 ≤ 0x2C then 0
  else match rowOf addr with
    | none => 0
    | some r => 2 ^ 32 - 1 - Nat.lor (Nat.lor r.rw r.rwk) (Nat.lor r.w1c (Nat.lor r.wo r.w1s))

/-- Addresses of the registers of an instance that hidden state gives. -/
def shownAddrs (p : Nat) : List Nat :=
  let q := instPage p
  [q * 0x1000 + 0x08, q * 0x1000 + 0x0C] ++ match (blkOf q).map Blk.ty with
  | some 0x30 => (List.range 16).map (fun k => q * 0x1000 + 0x84 + 8 * k)
  | some 0x38 => if q = 0x380 then [q * 0x1000 + 0x40] else [0x44, 0x58, 0x5C, 0x60, 0x64, 0x68, 0x6C].map (fun o => q * 0x1000 + o)
  | some 0x78 => [Reg.SAFE_STAT, Reg.SAFE_VER, Reg.SAFE_BASE, Reg.SAFE_SO_CMD_LO, Reg.SAFE_SO_CMD_HI, Reg.SAFE_SO_OUT_LO, Reg.SAFE_SO_OUT_HI,
      Reg.SAFE_TO] ++ (List.range 64).map Reg.SAFE_SKS_IN_ERR
  | some 0x90 => [Reg.WORK_SUB_RES]
  | some 0xB0 => [Reg.HOST_PCIE_ID]
  | some 0xA0 => (List.range 32).map (fun k => 0xA01400 + 4 * k) ++ (List.range 32).map (fun k => 0xA07100 + 4 * k) ++
      (List.range 32).map (fun k => 0xA00100 + 4 * k)
  | _ => []

/-- The words of an instance in the cycle of the FREEZE write. -/
def State.freezeWords (s : State) (i : LaneId) (seat p : Nat) : List (Nat × Word) :=
  ((s.lane i).regs.filter (fun x => decide (instPage (x.1 / 0x1000) = instPage p))).filter (fun x => !(shownAddrs p).contains x.1) ++
    (shownAddrs p).map (fun a => (a, s.liveWord i seat a))

/-- The word of a register that a read returns, beside captured halves: frozen bits as they stood (R26). -/
def State.seenWord (s : State) (i : LaneId) (seat addr : Nat) : Word :=
  let w := s.liveWord i seat addr
  match (s.lane i).acc.frozen.find? (fun f => f.inst == instPage (addr / 0x1000)) with
  | some f =>
    let m := word (frozenMask addr)
    (w &&& ~~~m) ||| (Sparse.find resetWord f.words (home addr) &&& m)
  | none => w

/-! ### Captured halves (R70) -/

/-- The HI register of the 64-bit pair whose LO register stands at `addr`. -/
def hiOf (addr : Nat) : Option Nat :=
  let p := addr / 0x1000
  let o := addr % 0x1000
  (RegTable.loPairs.find? (fun x => decide (x.1 ≤ p ∧ p < x.1 + x.2.1 ∧ x.2.2.1 ≤ o ∧ (o - x.2.2.1) / max 1 x.2.2.2.2 < x.2.2.2.1 ∧
    (o - x.2.2.1) % max 1 x.2.2.2.2 = 0))).map (fun _ => addr + 4)

/-- The LO register of the pair whose HI register stands at `addr`. -/
def loOf (addr : Nat) : Option Nat := if (hiOf (addr - 4)).isSome ∧ 4 ≤ addr then some (addr - 4) else none

/-- One 32-bit register read by a seat: captured HI, the read word of a FIFO taken, a LO read captures its HI. -/
def State.readReg (s : State) (i : LaneId) (seat addr : Nat) : Word × State :=
  let l := s.lane i
  let o := addr % 0x1000
  if (blkOf (addr / 0x1000)).map Blk.ty = some 0x98 ∧ 0x100 ≤ o ∧ o < 0x500 ∧ (o - 0x100) % 0x40 = 0x20 then
    let r := l.fifoTake ((addr / 0x1000 - 0x980) * 16 + (o - 0x100) / 0x40) seat
    (word r.1.hdr, s.setLane i r.2)
  else
    let w := s.seenWord i seat addr &&& readMask addr
    match hiOf addr with
    | some h =>
      let c : Captured := ⟨seat, h, s.seenWord i seat h⟩
      (w, s.on i (fun l => { l with acc := { l.acc with
        captured := l.acc.captured.filter (fun x => !(x.party == seat && x.addr == h)) ++ [c] } }))
    | none =>
      match loOf addr, l.acc.captured.find? (fun x => x.party == seat && x.addr == addr) with
      | some _, some c => (c.val, s.on i (fun l => { l with acc := { l.acc with
          captured := l.acc.captured.filter (fun x => !(x.party == seat && x.addr == addr)) } }))
      | _, _ => (w, s)

/-! ### Table windows -/

/-- A word of a table window: the claim token of its block, the bits a seat's write reaches through the mirror set, the
bits that the image binds, whether it is read-only. -/
structure WinAt where
  token : Nat
  mask : Nat
  bound : Nat
  /-- no seat may write it -/
  ro : Bool

/-- A variable of a program, marked host-writable, holds the word at `addr` (R212). -/
def Lane.hostVar (l : Lane) (addr : Nat) : Nat :=
  let vs := ((l.image.map ImageSet.progs).getD []).flatMap ProgImg.hostVars
  ((List.range 4).map (fun k => if vs.any (fun v => decide (v.1 ≤ addr + k ∧ addr + k < v.1 + v.2)) then 0xFF * 2 ^ (8 * k) else 0)).sum

/-- The window that holds a word, if one does. -/
def Lane.winAt (l : Lane) (addr : Nat) : Option WinAt :=
  let inW (base size : Nat) : Bool := decide (base ≤ addr ∧ addr < base + size)
  if inW 0x01100000 0x200000 then some ⟨0x10, 0, 0, true⟩
  else if inW 0x01400000 0x80000 || inW 0x01500000 0x100000 || inW 0x01600000 0x8000 || inW 0x01700000 0x8000 then
    (match tableClass addr with
      | 0 => some ⟨0x20, 0, boundMask addr, false⟩
      | 1 => some ⟨0x20, tableMask addr, 0, false⟩
      | 2 => some ⟨0x20, 0, 0, true⟩
      | _ => some ⟨0x20, 0, 0, false⟩)
  else if inW 0x01800000 0x400000 then some ⟨0x30, l.hostVar addr, 0, decide (l.hostVar addr = 0)⟩
  else if inW 0x01C00000 0x110000 then some ⟨0x30, 0, 0, true⟩
  else if inW 0x02000000 0x400000 || inW 0x02400000 0x1000000 || inW 0x03400000 0x800000 || inW 0x03C00000 0x40000 then some ⟨0x38, 0, 0, true⟩
  else if inW 0x04000000 0x8000 then
    let w := addr % 128 / 4
    some ⟨0x68, axMask w, if w < 4 then 0xFFFFFFFF else 0, false⟩
  else if inW 0x04800000 0xC00000 && decide ((addr - 0x04800000) % 0x100000 < 4096) then
    some ⟨(addr - 0x04800000) / 0x100000 * 0x10000 + 0x70, 0,
      (match addr % 32 / 4 with | 0 => 0xFFFFFFFF | 1 => 0x1FFFFFFF | 2 => 0x00FFFFFF | 3 => 0xF00000FF | _ => 0),
      decide (16 ≤ addr % 32 ∧ addr % 32 < 24)⟩
  else if inW 0x05800000 0x4140 then some ⟨0x78, 0, 0, true⟩
  else none

/-- A word of a table window as it reads: the trial output window (R210), the interlock matrix in the active bank, an
object's state words, a table word. -/
def Lane.winRead (l : Lane) (addr : Nat) : Word :=
  if 0x01D00000 ≤ addr ∧ addr < 0x01D10000 then Sparse.find word0 l.store.trialOut (addr - 0x01D00000)
  else if 0x05800000 ≤ addr then l.pip.bank.w (addr - 0x05800000)
  else if 0x04800000 ≤ addr ∧ addr % 32 = 16 then l.objWord ((addr - 0x04800000) / 0x100000) (addr % 0x1000 / 32) 4
  else if 0x04800000 ≤ addr ∧ addr % 32 = 20 then l.objWord ((addr - 0x04800000) / 0x100000) (addr % 0x1000 / 32) 5
  else l.win addr

end Sys2Proof.Machine
end

