-- ==== Sys2Proof/Machine/Access.lean ====
section
/-! DEFINITION. A seat's access to a lane: the checks of chapter 02 in the order of R41, the violation latch, the key
sequence, what a write does at once on the lane it reached and what enters the mirror set, held accesses. -/

namespace Sys2Proof.Machine

/-! ### Keys (R29) -/

/-- What an access of a seat to the instance of page `p` does to its key: a first key value is remembered, the second opens
it, anything else closes it. A second write of the first value begins the sequence anew (DESIGN CHOICE, log entry 53: R29
does not say whether it only closes). -/
def Lane.keyStep (l : Lane) (seat p now : Nat) (lock : Option Nat) : Lane :=
  let q := instPage p
  let old := l.acc.keys.find? (fun k => k.seat == seat && k.inst == q)
  let rest := l.acc.keys.filter (fun k => !(k.seat == seat && k.inst == q))
  let new : List KeyEnt := match lock, old.map KeyEnt.st with
    | some 0x85C3, some .first => [⟨seat, q, .opened now⟩]
    | some 0x7A3C, _ => [⟨seat, q, .first⟩]
    | _, _ => []
  { l with acc := { l.acc with keys := rest ++ new } }

/-! ### Checks (R23, R26, R30, R32, R35, R37, R41, R74, R404, R476) -/

/-- Before S3 an access is served only where R74 lets it: seat 0 reads SYS, TIME/CLK, LEDGER and PAIR. -/
def early (seat addr : Nat) (write : Bool) : Bool :=
  decide (seat = 0 ∧ addr < 0x1000000) && !write &&
    (match (blkOf (addr / 0x1000)).map Blk.ty with
      | some t => decide (t < 4)
      | none => false)

/-- The seat's own SEAT page, whose reads are always served (R43). -/
def ownPage (seat addr : Nat) : Bool := decide (addr / 0x1000 = 0x40 + seat)

/-- A write to the own SEAT page that is served whatever the rights: VALID of the latch, a claim, a query (R43, R476). -/
def ownWrite (seat addr : Nat) (w : Word) : Bool :=
  ownPage seat addr && (decide (addr % 0x1000 = 0x48 ∧ bits w 31 31 = 1) || decide (addr % 0x1000 = 0x50) || decide (addr % 0x1000 = 0x58))

/-- The rights code of a seat on a register page or table granule. -/
def Lane.rightsOf (l : Lane) (seat addr : Nat) : Nat :=
  if addr < 0x1000000 then l.pageCode seat (addr / 0x1000) else l.tableCode seat ((addr - 0x1000000) / 0x100000)

/-- FIFO_RD and FIFO_WR registers: the FIFO, and whether the register is one of the producer's. -/
def fifoReg (addr : Nat) : Option (Nat × Bool) :=
  let p := addr / 0x1000
  let o := addr % 0x1000
  if 0x980 ≤ p ∧ p < 0x990 ∧ 0x100 ≤ o ∧ o < 0x500 then
    let k := (o - 0x100) % 0x40
    if 0x08 ≤ k ∧ k ≤ 0x10 then some ((p - 0x980) * 16 + (o - 0x100) / 0x40, true)
    else if 0x20 ≤ k ∧ k ≤ 0x2C then some ((p - 0x980) * 16 + (o - 0x100) / 0x40, false)
    else none
  else none

/-- A write that R32, R37, R404 or R476 refuses. -/
def Lane.refusedWrite (l : Lane) (seat addr : Nat) (w : Word) : Bool :=
  let p := addr / 0x1000
  let o := addr % 0x1000
  if 0x40 ≤ p ∧ p < 0x48 then
    let q := p - 0x40
    if o = 0x008 then (decide (q = 0) && decide (bits w 0 0 = 0)) || (decide (seat ≠ 0) && decide (bits w 0 0 ≠ l.get (F.BLK_CTRL.ENABLE p)))
    else if o = 0x050 then decide (q ≠ seat)
    else if 0x400 ≤ o then
      decide (seat ≠ 0) || (decide (q = 0) && decide (o < 0x800) &&
        (List.range 16).any (fun j =>
          let g := 16 * ((o - 0x400) / 4) + j
          decide ((0x40 ≤ g ∧ g < 0x48) ∨ (0xB00 ≤ g ∧ g < 0xB04)) && decide (bits w (2 * j + 1) (2 * j) ≠ 2)))
    else false
  else match fifoReg addr with
    | some (f, true) => decide (l.get (F.FIFO_CFG.PRODUCER f) ≠ seat)
    | _ => false

/-- A write that R26 refuses while the running images use the instance. -/
def Lane.lockedWrite (l : Lane) (addr : Nat) (w : Word) : Bool :=
  let p := addr / 0x1000
  l.locked p &&
    (if addr % 0x1000 = 0x008 then decide (bits w 2 2 = 1) || decide (bits w 0 0 ≠ l.get (F.BLK_CTRL.ENABLE (instPage p)))
     else match rowOf addr with
       | some r => decide ((w ^^^ l.rd (home addr)) &&& word r.pb ≠ 0#32)
       | none => false)

/-- The violation of one 32-bit register or table access, the first of R41 that applies. -/
def Lane.violation (l : Lane) (seat addr : Nat) (write : Bool) (w : Word) (badWidth key : Bool) : Option Nat :=
  let a := addr / 4 * 4
  let isReg := decide (addr < 0x1000000)
  let row := if isReg then rowOf a else none
  let win := if isReg then none else l.winAt a
  let code := l.rightsOf seat a
  let p := a / 0x1000
  if row.isNone && win.isNone then some 4
  else if badWidth then some 5
  else if l.stage < 3 then (if early seat a write then none else some 8)
  else if l.flag (F.BLK_CTRL.ENABLE (0x40 + seat)) = false then some 8
  else if !write then
    if code = 0 ∧ (isReg && ownPage seat a) = false then some 1
    else match (if isReg then fifoReg a else none) with
      | some (f, false) => if l.get (F.FIFO_CFG.CONSUMER f) ≠ seat then some 1 else none
      | _ => none
  else
    let own := isReg && ownWrite seat a w
    let bound : Bool := match win with
      | some x => decide ((w ^^^ l.winRead a) &&& word x.bound ≠ 0#32)
      | none => false
    let tok := match win with | some x => x.token | none => tokenOf p
    if (!own && decide (code < 2)) || (isReg && l.refusedWrite seat a w) || (win.map WinAt.ro).getD false then some 2
    else if !own && decide (code = 3) && decide (l.holder tok ≠ some seat) then some 3
    else if ((row.map RegRow.rwk).getD 0 ≠ 0) && !key then some 6
    else if bound || (isReg && l.lockedWrite a w) then some 7
    else none

/-- Bits 2^SIZE of an access width: the next power of two. -/
def sizeLog (n : Nat) : Nat := if n ≤ 1 then 0 else if n ≤ 2 then 1 else if n ≤ 4 then 2 else if n ≤ 8 then 3 else if n ≤ 16 then 4 else if n ≤ 32 then 5 else 6

/-- The two words of the data of an access. -/
def dataWord (data k : Nat) : Word := word (data / 2 ^ (32 * k))

/-- The violation of an access, with the address and SIZE that the latch records (R20, R41, R42). -/
def Lane.check (l : Lane) (seat addr size : Nat) (write : Bool) (data now : Nat) : Option (Nat × Nat × Nat) :=
  if addr < 0x10000000 then
    let bad := decide (¬((size = 4 ∨ size = 8) ∧ addr % size = 0))
    let key := addr < 0x1000000 && l.keyOpen seat (addr / 0x1000) now
    match l.violation seat addr write (dataWord data 0) bad key with
    | some k => some (k, addr, sizeLog size)
    | none =>
      if size = 8 then (l.violation seat (addr + 4) write (dataWord data 1) bad key).map (fun k => (k, addr + 4, 3))
      else none
  else if 0x1000000000 ≤ addr ∧ addr < 0x1800000000 then
    let g := (addr - 0x1000000000) / 0x10000000
    let code := l.dramCode seat g
    let kind : Option Nat :=
      if size = 0 ∨ 64 < addr % 64 + size then some 5
      else if l.stage < 3 ∨ l.flag (F.BLK_CTRL.ENABLE (0x40 + seat)) = false then some 8
      else if !write then (if code = 0 then some 1 else none)
      else if code < 2 ∨ granuleToken g = none then some 2
      else if code = 3 ∧ (granuleToken g).bind l.holder ≠ some seat then some 3
      else none
    kind.map (fun k => (k, addr, sizeLog size))
  else some (4, addr, sizeLog size)

/-! ### The violation latch (R40, R43) -/

/-- A violation of a seat is counted, latched and logged. EV_PEND.VIOL is set on the page of the target instance of a
register access; for a table-window or DRAM access on no block page (DESIGN CHOICE, log entry 141: R43 does not say which
page a window has). -/
def Lane.latchViol (l : Lane) (seat kind addr size : Nat) (write : Bool) (path : Path) : Lane :=
  let l1 := l.cnt (F.SEAT_VIOL_COUNT.COUNT seat) 1
  let l2 : Lane := if path = .pcie ∧ write then { l1 with
    host := { l1.host with aer := true, nonfatal := l1.host.nonfatal + b2n (Config.errNonfatal l.num) } } else l1
  if l2.flag (F.SEAT_VIOL_INFO.VALID seat) then
    let n := perRing l2.acc.since seat + 1
    Lane.set { l2 with acc := { l2.acc with since := upsert Prod.fst (seat, n) l2.acc.since } } (F.SEAT_VIOL_INFO.MORE seat) 1
  else
    let info := 2 ^ 31 + kind * 2 ^ 24 + addr / 2 ^ 32 % 256 * 2 ^ 16 + size * 2 ^ 8 + b2n write * 2 ^ 7 + path.code * 2 ^ 4
    let l3 := ((l2.wr (Reg.SEAT_VIOL_ADDR seat) (word addr)).wr (Reg.SEAT_VIOL_INFO seat) (word info)).ev (0x40 + seat) 31
    let l4 := if addr < 0x1000000 ∧ (blkOf (addr / 0x1000)).isSome then l3.ev (addr / 0x1000) 31 else l3
    Lane.log1 { l4 with acc := { l4.acc with since := upsert Prod.fst (seat, 0) l4.acc.since } } 0x04 seat 0x0108
      [(4, info), (8, addr % 2 ^ 40)]

/-- Writing 1 to VALID re-arms the latch; what came since is logged (R43). -/
def Lane.rearm (l : Lane) (seat : Nat) : Lane :=
  if l.flag (F.SEAT_VIOL_INFO.VALID seat) then
    let l1 := if l.flag (F.SEAT_VIOL_INFO.MORE seat) then l.log1 0x04 seat 0x0109 [(4, perRing l.acc.since seat)] else l
    (l1.set (F.SEAT_VIOL_INFO.VALID seat) 0).set (F.SEAT_VIOL_INFO.MORE seat) 0
  else l

/-! ### Soft reset, freeze (R26, R27) -/

/-- The fields of an instance that list B take their reset values; RESET_BUSY is 1. -/
def Lane.softReset (l : Lane) (p : Nat) : Lane :=
  let q := instPage p
  let mine (a : Nat) : Bool := decide (instPage (a / 0x1000) = q)
  let l1 : Lane := { l with
    regs := (l.regs.map (fun x =>
      let m := if mine x.1 then word (match rowOf x.1 with | some r => r.kb | none => 0) else 0#32
      ((x.1, (x.2 &&& ~~~m) ||| (resetWord x.1 &&& m)) : Nat × Word))).filter (fun x => decide (x.2 ≠ resetWord x.1)),
    acc := { l.acc with keys := l.acc.keys.filter (fun k => k.inst != q), frozen := l.acc.frozen.filter (fun f => f.inst != q) } }
  let l2 : Lane := match (blkOf q).map Blk.ty with
    | some 0x98 => { l1 with fifos := l1.fifos.filter (fun e => decide (0x980 + e.f / 16 ≠ q)) }
    | some 0xA8 => (if q = 0xA80 then l1 else { l1 with dma := { l1.dma with chans := l1.dma.chans.filter (fun c => decide (0xA81 + c.ch ≠ q)) } })
    | _ => l1
  l2.set (F.BLK_STAT.RESET_BUSY q) 1

/-- FREEZE of an instance is written (R26). -/
def State.freeze (s : State) (i : LaneId) (seat p : Nat) (on : Bool) : State :=
  let q := instPage p
  let rest := (s.lane i).acc.frozen.filter (fun f => f.inst != q)
  let was := (s.lane i).flag (F.BLK_CTRL.FREEZE q)
  let words := if on && !was then [⟨q, s.freezeWords i seat q⟩] else if on then (s.lane i).acc.frozen.filter (fun f => f.inst == q) else []
  s.on i (fun l => Lane.setB { l with acc := { l.acc with frozen := rest ++ words } } (F.BLK_CTRL.FREEZE q) on)

/-! ### What a write does at once (R33) -/

/-- The common page header: BLK_CTRL, EV_PEND, EV_MASK, EV_SET, EV_ROUTE, ERR_CODE (R24, R28); the key sequence is apart. -/
def State.headerWrite (s : State) (i : LaneId) (seat addr : Nat) (w : Word) : State :=
  let p := addr / 0x1000
  let q := instPage p
  match addr % 0x1000 with
  | 0x008 =>
    let s1 := if (blkOf p).map Blk.ty = some 0x04 then s else s.on i (fun l => l.set (F.BLK_CTRL.ENABLE q) (bits w 0 0))
    let s2 := s1.freeze i seat p (decide (bits w 1 1 = 1))
    if bits w 2 2 = 1 then s2.on i (fun l => l.softReset p) else s2
  | 0x010 => s.on i (fun l => (l.wr (home addr) (l.rd (home addr) &&& ~~~w)).irqFalls)
  | 0x014 => s.on i (fun l => (l.wr (home addr) (w &&& 0xC0FFFFFF#32)).irqFalls)
  | 0x018 => s.on i (fun l => l.wr (Reg.EV_PEND q) (l.rd (Reg.EV_PEND q) ||| (w &&& 0xC0FFFFFF#32)))
  | 0x01C => s.on i (fun l => (l.wr (home addr) (w &&& 0x000103FF#32)).irqFalls)
  | 0x020 =>
    if bits w 31 31 = 1 then
      s.on i (fun l => ((((l.set (F.ERR_CODE.CODE q) 0).set (F.ERR_CODE.SOURCE q) 0).set (F.ERR_CODE.DRAM q) 0).set (F.ERR_CODE.COUNT q) 0).wr (Reg.ERR_ADDR q) 0#32)
    else s
  | _ => s

/-- Registers that any write clears: peaks and largest times. -/
def clearsAll (addr : Nat) : Bool :=
  decide (addr = Reg.PAIR_MIR_PEAK ∨ addr = Reg.CYCLE_DONE_MAX ∨ addr = Reg.CYCLE_RING_MAX) || (List.range 24).any (fun r => decide (addr = Reg.RING_RET_MAX r))

/-- A plain local write: RW and RWK bits but those of `actions` stored as they read back, W1C bits cleared. -/
def Lane.plainWrite (l : Lane) (addr : Nat) (w : Word) (actions : Nat) : Lane :=
  match rowOf addr with
  | none => l
  | some r =>
    if clearsAll addr then l.wr addr 0#32
    else
      let m := word (Nat.lor r.rw r.rwk) &&& ~~~(mirMask addr) &&& ~~~(word actions)
      let l1 := if m = 0#32 then l else l.store' addr w m
      let c := w &&& word r.w1c &&& ~~~(mirMask addr)
      if c = 0#32 then l1 else l1.wr addr (l1.rd addr &&& ~~~c)

/-- A DMA channel's control register (R422, R424, R425, R428). -/
def Lane.dmaCtrl (l : Lane) (n seat : Nat) (w : Word) : Lane :=
  let l1 := if bits w 3 3 = 1 then l.dmaAbort n else l
  let l2 := if decide (bits w 1 1 = 1) = l1.flag (F.DMA_CH_CTRL.PAUSE n) then l1 else l1.dmaPause n (decide (bits w 1 1 = 1))
  let l3 := if bits w 2 2 = 1 then l2.dmaResume n else l2
  if bits w 0 0 = 1 then l3.doorbell n seat else l3

/-- A lane's CYCLE_TRC_CTRL: a mode without a buffer is refused (R150). -/
def Lane.cycTrcCtrl (l : Lane) (w : Word) (seat : Nat) : Lane :=
  let l1 := l.plainWrite Reg.CYCLE_TRC_CTRL w 0
  if l1.get F.CYCLE_TRC_CTRL.MODE ≠ 0 ∧ (l1.trcBuf cycleTrc).isNone then
    (l1.set F.CYCLE_TRC_CTRL.MODE 0).err cyclePage 0x43 seat Reg.CYCLE_TRC_CTRL
  else l1

/-- FIFO registers of FIFO `f` (R404, R405). -/
def Lane.fifoWrite (l : Lane) (f k seat : Nat) (w : Word) (now : Nat) : Lane :=
  match k with
  | 0x00 => l.fifoCfg f w seat
  | 0x08 => l.fifoPut f (leBytes 4 w.toNat) false now
  | 0x10 =>
    let vb := l.get (F.FIFO_WR_TAIL.VB f)
    (l.fifoPut f (leBytes vb w.toNat) true now).set (F.FIFO_WR_TAIL.VB f) 4
  | _ => l

/-- COMMIT_SVN advances the fused version to the running one; KEY_CHG applies the statement in the image store, signed by
the key held (R449, R450). -/
def Lane.secCtrl (l : Lane) (seat : Nat) (w : Word) : Lane :=
  let run := l.get F.HOST_SEC_STAT.RUNNING
  let l1 :=
    if bits w 0 0 = 1 then
      if seat ≠ 0 then (l.err hostPage 0x43 seat Reg.HOST_SEC_CTRL).ev hostPage 6
      else if l.get F.HOST_SEC_STAT.FUSED < run then l.set F.HOST_SEC_STAT.FUSED run else l
    else l
  if bits w 1 1 = 1 then
    match l1.host.stmt with
    | some (h, good) =>
      if good && l1.host.keyHash.isSome then
        Lane.set { l1 with host := { l1.host with keyHash := some h, stmt := none } } F.HOST_SEC_STAT.KEY 1
      else (l1.err hostPage 0x42 seat Reg.HOST_SEC_CTRL).ev hostPage 6
    | none => (l1.err hostPage 0x42 seat Reg.HOST_SEC_CTRL).ev hostPage 6
  else l1

/-- What a register write does at once on the lane it reached, beside the mirrored fields and the lanes' own states. -/
def Lane.localWrite (l : Lane) (acc : Acc) (addr : Nat) (w : Word) (now : Nat) : Lane :=
  let seat := acc.seat.val
  let p := addr / 0x1000
  let o := addr % 0x1000
  let plain := l.plainWrite addr w 0
  match (blkOf p).map Blk.ty with
  | some 0x03 => if addr = Reg.PAIR_CTRL then l.plainWrite addr w 0x27 else plain
  | some 0x00 => if addr = Reg.SYS_CTRL then l.plainWrite addr w 0x3 else plain
  | some 0x01 => if addr = Reg.TIME_SET_HI then l else plain
  | some 0x04 =>
    if o = 0x048 then (if bits w 31 31 = 1 then l.rearm (p - 0x40) else l)
    else if o = 0x058 then l.tokenQuery (p - 0x40) w
    else if o = 0x050 then l else plain
  | some 0x10 => if addr = Reg.CYCLE_TRC_CTRL then l.cycTrcCtrl w seat else plain
  | some 0x30 =>
    if addr = Reg.LOGIC_EXCH_CTRL then l
    else if addr = Reg.LOGIC_TRIAL_CTRL then
      let l1 := if bits w 14 14 = 1 then plain.trialStart seat else plain
      if bits w 15 15 = 1 then l1.trialEnd else l1
    else plain
  | some 0x78 => if addr = Reg.SAFE_LOAD_CTRL then l else plain
  | some 0x88 =>
    if addr = Reg.LOG_RD_CTRL then
      if bits w 1 1 = 1 then plain.logRead true seat else if bits w 0 0 = 1 then plain.logRead false seat else plain
    else plain
  | some 0x90 =>
    if p = 0x900 ∧ 0x40 ≤ o ∧ o < 0x60 then
      let l1 := l.workStage seat ((o - 0x40) / 4) w
      if o = 0x5C then l1.workSubmit (decide (acc.path = .pcie)) seat (if acc.path = .pcie then 0 else seat * 2 ^ 56 + ((l.sess seat).map Sess.num).getD 0 * 2 ^ 32 + acc.seq % 2 ^ 32) now
      else l1
    else if addr = Reg.WORK_CANCEL_LO then l.wr addr w
    else if addr = Reg.WORK_CANCEL_HI then
      l.workCancelWrite (decide (acc.path = .pcie)) w.toNat seat (if acc.path = .pcie then 0 else seat * 2 ^ 56 + ((l.sess seat).map Sess.num).getD 0 * 2 ^ 32 + acc.seq % 2 ^ 32) now
    else if addr = Reg.WORK_TRC_CTRL then l.workTrcCtrl w seat
    else plain
  | some 0x98 =>
    if 0x100 ≤ o ∧ o < 0x500 ∧ ((o - 0x100) % 0x40 = 0x00 ∨ (o - 0x100) % 0x40 = 0x08 ∨ (o - 0x100) % 0x40 = 0x10) then
      l.fifoWrite ((p - 0x980) * 16 + (o - 0x100) / 0x40) ((o - 0x100) % 0x40) seat w now
    else plain
  | some 0xA0 =>
    if p = 0xA01 ∧ 0x100 ≤ o ∧ o < 0x180 then l.irqClear ((o - 0x100) / 4) w now
    else if p = 0xA01 ∧ 0x200 ≤ o ∧ o < 0x280 then l.irqSet ((o - 0x200) / 4) w now
    else if p = 0xA02 ∧ 0x100 ≤ o ∧ o < 0x180 then l.irqMask ((o - 0x100) / 4) w now
    else if 0xA03 ≤ p ∧ p ≤ 0xA06 ∧ 0x400 ≤ o ∧ o < 0x800 then l.irqRoute ((p - 0xA03) * 256 + (o - 0x400) / 4) (w &&& 0x1F1F1F#32) seat now
    else plain
  | some 0xA8 =>
    if p = 0xA80 then plain
    else if o = 0x40 then l.dmaCfg (p - 0xA81) (w &&& 0xFFFF0001#32) seat
    else if o = 0x44 then l.dmaCtrl (p - 0xA81) seat w
    else plain
  | some 0xB0 => if addr = Reg.HOST_SEC_CTRL then l.secCtrl seat w else plain
  | some 0xB8 => if addr = Reg.MEMI_INJ then l.inject (bits w 7 0) seat else plain
  | _ => plain

/-! ### What enters the mirror set (R33, R66, R102, R110, R113, R206, R440) -/

/-- KEY of a HAP request's entry: seat, session, sequence; PCIe 0 (R103). -/
def Lane.accKey (l : Lane) (acc : Acc) : Nat :=
  if acc.path = .pcie then 0
  else acc.seat.val * 2 ^ 56 + ((l.sess acc.seat.val).map Sess.num).getD 0 * 2 ^ 32 + acc.seq % 2 ^ 32

/-- TIME_CTRL names a reserved source or port (R472). -/
def timeCtrlBad (w : Word) : Bool := decide (4 ≤ bits w 2 0 ∨ 4 ≤ bits w 5 3)

/-- The mirrored word of a register or table word that a write carries: the data and the mask, none if nothing enters. -/
def Lane.mirPart (l : Lane) (addr : Nat) (w : Word) : Option (Nat × Word × Word) :=
  if addr < 0x1000000 then
    let m := mirMask addr
    if m = 0#32 ∨ addr = Reg.TIME_SET_HI ∨ addr = Reg.PAIR_CTRL ∨ (addr = Reg.TIME_CTRL ∧ timeCtrlBad w = true) ∨
        (0x40 ≤ addr / 0x1000 ∧ addr / 0x1000 < 0x48 ∧ addr % 0x1000 = 0x050) then none
    else if (addr = Reg.LOGIC_EXCH_CTRL ∨ addr = Reg.SAFE_LOAD_CTRL) ∧ w &&& m = 0#32 then none
    else some (addr, w, m)
  else match l.winAt addr with
    | some x => if x.mask = 0 then none else some (addr, w, word x.mask)
    | none => none

/-- An access enters the mirror set. -/
def Lane.mirrors (l : Lane) (seat addr : Nat) (w : Word) : Bool :=
  (l.mirPart addr w).isSome || decide (addr = Reg.TIME_SET_HI) || (decide (addr = Reg.PAIR_CTRL) && decide (bits w 1 0 ≠ 0)) ||
    (decide (0x40 ≤ addr / 0x1000 ∧ addr / 0x1000 < 0x48) && decide (addr % 0x1000 = 0x050)) ||
    (decide (addr = Reg.LOGIC_EXCH_CTRL) && decide (bits w 1 1 = 1)) ||
    (decide (addr = Reg.WORK_SUB 7) && (itemOf ((l.work.stagedOf seat).set 7 w.toNat) seat).mirror) ||
    (decide (addr = Reg.WORK_CANCEL_HI) && l.work.queue.any (fun it => it.id == (l.rd Reg.WORK_CANCEL_LO).toNat + w.toNat * 2 ^ 32 && it.mirror))

/-- The kind of entry of mirrored writes: seat rights and ENABLE, over HAP a WO field that starts an action, or a register
write (R103, R216). -/
def mirPayload (pcie : Bool) (ws : List (Nat × Word × Word)) : Payload :=
  if ws.any (fun x => decide (0x40000 ≤ x.1 ∧ x.1 < 0x48000)) then .rights ws
  else if !pcie && ws.any (fun x => match rowOf x.1 with | some r => x.2.2 &&& word (Nat.lor r.wo (if x.1 = Reg.LOGIC_EXCH_CTRL ∨ x.1 = Reg.SAFE_LOAD_CTRL then r.rwk else 0)) ≠ 0#32 | none => false)
  then .command ws
  else .regWrite ws

/-- The lane enters what an access mirrors; a lane that computes no cycles applies it at once. -/
def Lane.mirrorIn (l : Lane) (acc : Acc) (pay : Payload) : Lane :=
  l.enterBy (decide (acc.path = .pcie)) pay (some acc.seat.val) (match pay with
    | .claim _ => 0 | .rights _ => 0 | .transfer => 0 | .leave _ _ _ => 0 | .commit sl => sl % 2 ^ 64 | _ => l.accKey acc)

/-- Entries that a lane without cycles has accepted take effect at once, on it alone. -/
def Lane.applyIdle (l : Lane) (prime : Bool) (now : Nat) : Lane :=
  if l.runs then l
  else
    let es := l.pair.accepted
    if es = [] then l
    else
      let l1 : Lane := { l with
        pair := { l.pair with
          accepted := [], unconf := [], outMsg := [], entries := l.pair.entries.filter (fun e => !es.any (fun x => x.oseq == e.oseq && x.origin == e.origin)) } }
      (es.foldl (fun m e => m.applyEntry { e with effect := l.cycN } prime now) l1).settle now

/-- PAIR_CTRL's mirrored commands (R110, R113): TRANSFER between PAIRED lanes; LEAVE of a PAIRED lane, or of a lane alone with
FORCE. -/
def State.pairCtrl (s : State) (acc : Acc) (w : Word) : State :=
  let i := acc.lane
  let seat := acc.seat.val
  let l := s.lane i
  let s1 :=
    if bits w 1 1 = 1 then
      if l.st = .paired ∧ (s.lane i.other).st = .paired then s.on i (fun l => (l.mirrorIn acc .transfer).owHalt)
      else s.on i (fun l => l.err pairPage 0x41 seat Reg.PAIR_CTRL)
    else s
  if bits w 0 0 = 1 then
    if l.st = .paired ∨ (l.st = .solo ∧ bits w 2 2 = 1) then s1.on i (fun l => (l.mirrorIn acc (.leave i (decide (bits w 2 2 = 1)) false)).owHalt)
    else if l.st = .solo then s1.on i (fun l => l.err pairPage 0x40 seat Reg.PAIR_CTRL)
    else s1
  else s1

/-! ### Lane-level commands in registers -/

/-- LANE_RESET: refused where the other lane is not PAIRED, without FORCE (R83, R84). -/
def State.laneReset (s : State) (i : LaneId) (seat : Nat) (force : Bool) : State :=
  if (s.lane i.other).st ≠ .paired ∧ force = false then s.on i (fun l => l.err sysPage 0x40 seat Reg.SYS_CTRL)
  else s.leave i (fun l => l.resetL 2 s.now)

/-- Ticks of FAULT_DWELL. -/
def Lane.dwell (l : Lane) : Nat := l.get F.SYS_CTRL.FAULT_DWELL * 40000000

/-- A FAULTED lane whose dwell has passed, and which is not held, resets with cause FAULT (R83, R113). -/
def State.faultReset (s : State) (i : LaneId) : State :=
  let l := s.lane i
  if l.st = .faulted ∧ l.flag F.SYS_CTRL.HOLD_FAULTED = false ∧ l.start.faultedAt + l.dwell ≤ s.now then s.leave i (fun l => l.resetL 3 s.now)
  else s

/-- A rejoin of lane `i` begins: phase 1 (R121). The joining lane asks for primacy (R107). -/
def State.rejoinBegin (s : State) (i : LaneId) : State :=
  let o := s.lane i.other
  let r : RejoinH := { start := s.now, first := o.cycN + 1, buf := [], log := [], held := false, replayed := none, joinAt := none, refused := false, ns := none }
  let go (l : Lane) : Lane :=
    let l1 : Lane := { l with pair := { l.pair with rejoin := some r } }
    (((l1.set F.PAIR_RJ_STAT.PHASE 1).set F.PAIR_RJ_STAT.MATCHED 0).set F.PAIR_RJ_STAT.IMAGES 0).wr Reg.PAIR_RJ_KIB 0#32
  ((s.on i (fun l => (go l).askPrimacy true s.now)).on i.other go).lines

/-- All four pair-link lanes, or at least one with RJ_ON_ONE set, have been up for 1 s (R119, R121). -/
def Lane.linkLong (l : Lane) (now : Nat) : Bool :=
  let long (o : Option Nat) : Bool := match o with | some t => decide (t + 400000000 ≤ now) | none => false
  long l.pair.upAll || (l.flag F.PAIR_CTRL.RJ_ON_ONE && long l.pair.upSince)

/-- A lane that lost its alignment rejoins once it is within ±1 ns again (R61). -/
def Lane.aligned (l : Lane) : Bool := !l.time.unaligned

/-- A rejoin of a SHADOW lane may begin: link, running lane, no refusal of its firmware, no failed exchange of it (R121, R124, R127). -/
def State.rejoinReady (s : State) (i : LaneId) : Bool :=
  let l := s.lane i
  decide (l.st = .shadow) && l.pair.rejoin.isNone && decide ((s.lane i.other).st = .solo) && (s.lane i.other).running && l.linkLong s.now &&
    l.aligned && !l.start.fwFailed

/-- PAIR_RJ_CTRL.START: refused while no pair-link lane is up (R121). -/
def State.rejoinStart (s : State) (i : LaneId) (seat : Nat) : State :=
  let l := s.lane i
  if l.linked = false then s.on i (fun l => l.err pairPage 0x43 seat Reg.PAIR_RJ_CTRL)
  else
    -- START clears a failed exchange of firmware (R127; log entry 170)
    let s1 := s.on i (fun m => { m with start := { m.start with fwFailed := false } })
    if s1.rejoinReady i && (!l.flag F.PAIR_CTRL.AUTO_REJOIN || l.start.fwFailed) then s1.rejoinBegin i else s1

/-- PAIR_RJ_CTRL.ABORT: a failure; a new rejoin begins from phase 1 at once with AUTO_REJOIN (R123). -/
def State.rejoinAbort (s : State) (i : LaneId) : State :=
  if (s.lane i).st = .shadow then s.abandon i (if (s.lane i).flag F.PAIR_CTRL.AUTO_REJOIN then 1 else 7) else s

/-- FW_START: the compatibility numbers must agree; each lane is to take the package in its image store, the lane without
primacy first (R126, R127). -/
def State.fwStart (s : State) (i : LaneId) (seat : Nat) : State :=
  let l := s.lane i
  let pkg := bootBank l.host.banks (l.get F.HOST_SEC_STAT.FUSED)
  match pkg with
  | none => s.on i (fun l => l.err pairPage 0x42 seat Reg.PAIR_CTRL)
  | some b =>
    if b.2.2 ≠ l.get F.PAIR_COMPAT.OWN then s.on i (fun l => l.err pairPage 0x42 seat Reg.PAIR_CTRL)
    else
      let first : LaneId := match s.base.primacy with | some h => h.other | none => i.other
      if s.a.st = .paired ∧ s.b.st = .paired then
        let mark (l : Lane) : Lane := { l with start := { l.start with fwPending := true } }
        let s1 : State := { s with a := mark s.a, b := mark s.b }
        s1.on first (fun l => (l.enter (.leave first true true) none 0).owHalt)
      else s

/-- COMMIT of an exchange enters where both lanes are READY with one seal, else is refused (R206). -/
def State.commitWrite (s : State) (acc : Acc) : State :=
  let i := acc.lane
  if commitOk (s.lane i) (s.lane i.other) then s.on i (fun l => l.mirrorIn acc (.commit (l.get64 Reg.LOGIC_EXCH_SEAL_LO Reg.LOGIC_EXCH_SEAL_HI)))
  else s.on i (fun l => l.err 0x300 0x41 acc.seat.val Reg.LOGIC_EXCH_CTRL)

/-- What one register write does at once, on the lane it reached and between the lanes. -/
def State.writeReg (s : State) (acc : Acc) (addr : Nat) (w : Word) : State :=
  let i := acc.lane
  let seat := acc.seat.val
  if addr % 0x1000 < 0x40 then s.headerWrite i seat addr w
  else
    let held := (s.lane i).flag F.SYS_CTRL.HOLD_FAULTED
    let s1 := s.on i (fun l => l.localWrite acc addr w s.now)
    if addr = Reg.SYS_CTRL then
      let s2 := if held ∧ bits w 2 2 = 0 then s1.faultReset i else s1
      if bits w 0 0 = 1 then s2.laneReset i seat (decide (bits w 1 1 = 1)) else s2
    else if addr = Reg.PAIR_CTRL then
      let s2 := s1.pairCtrl acc w
      if bits w 5 5 = 1 then s2.fwStart i seat else s2
    else if addr = Reg.PAIR_RJ_CTRL then
      let s2 := if bits w 1 1 = 1 then s1.rejoinAbort i else s1
      if bits w 0 0 = 1 then s2.rejoinStart i seat else s2
    else if addr = Reg.TIME_SET_HI then
      s1.on i (fun l => l.mirrorIn acc (.timeSet ((l.rd Reg.TIME_SET_LO).toNat + w.toNat * 2 ^ 32)))
    else if addr = Reg.TIME_CTRL ∧ timeCtrlBad w = true then s1.on i (fun l => l.err timePage 0x42 seat Reg.TIME_CTRL)
    else if addr = Reg.LOGIC_EXCH_CTRL ∧ bits w 1 1 = 1 then s1.commitWrite acc
    else if 0x40 ≤ addr / 0x1000 ∧ addr / 0x1000 < 0x48 ∧ addr % 0x1000 = 0x050 then
      s1.on i (fun l => (l.claimStat seat 1 0 (bits w 23 0)).mirrorIn acc (.claim (w &&& 0x87FFFFFF#32)))
    else s1

/-! ### The access -/

/-- An instance in its soft reset holds an access to its pages, but for reads of the header (R27). -/
def Lane.busy (l : Lane) (addr : Nat) (write : Bool) : Bool :=
  decide (addr < 0x1000000) && (blkOf (addr / 0x1000)).isSome && l.flag (F.BLK_STAT.RESET_BUSY (instPage (addr / 0x1000))) &&
    (write || decide (0x2C ≤ addr % 0x1000))

/-- A PCIe read waits for the seat's mirrored writes to be confirmed (R436). -/
def Lane.waits (l : Lane) (acc : Acc) (write : Bool) : Bool :=
  decide (acc.path = .pcie) && !write && l.pair.unconf.any (fun u => u.seat == some acc.seat.val)

/-- Accesses that passed their checks write: what they mirror enters as one entry (R102, R440). -/
def State.doWrites (s : State) (acc : Acc) (xs : List (Nat × Nat × Nat)) : Resp × State :=
  let i := acc.lane
  let n := (s.lane i).pair.oseq
  let dram := xs.filter (fun x => decide (0x1000000000 ≤ x.1))
  let ws := ((xs.filter (fun x => decide (x.1 < 0x1000000000))).map (fun x =>
    (List.range (x.2.1 / 4)).map (fun k => (x.1 + 4 * k, dataWord x.2.2 k)))).flatten
  let s0 := dram.foldl (fun (z : State) x =>
    let off := x.1 - 0x1000000000
    z.on i (fun l => (Lane.freshWords { l with dram := putList l.dram off (leBytes x.2.1 x.2.2) } off x.2.1).injected (off / 64) acc.seat.val)) s
  let mir := ws.filterMap (fun x => (s.lane i).mirPart x.1 x.2)
  let s1 := ws.foldl (fun x a => if a.1 < 0x1000000 then x.writeReg acc a.1 a.2 else x) s0
  let s2 := if mir = [] then s1 else s1.on i (fun l => l.mirrorIn acc (mirPayload (decide (acc.path = .pcie)) mir))
  let s3 := if n < (s2.lane i).pair.oseq then s2.on i (fun l => l.applyIdle (s2.prime i) s.now) else s2
  let s4 := s3.on i (fun l => l.settle s.now)
  (if n < (s4.lane i).pair.oseq ∧ (s4.lane i).runs = true then .pending else .done, s4)

/-- One access that passed its checks writes. -/
def State.doWrite (s : State) (acc : Acc) (addr size data : Nat) : Resp × State := s.doWrites acc [(addr, size, data)]

/-- An access that passed its checks reads: registers by halves, table words, DRAM with its codewords checked (R430, R431);
the image and table area reads free values (log entry 9). -/
def State.doRead (s : State) (acc : Acc) (addr size : Nat) : Resp × State :=
  let i := acc.lane
  let seat := acc.seat.val
  if addr < 0x1000000 then
    let r := s.readReg i seat addr
    if size = 8 then
      let q := r.2.readReg i seat (addr + 4)
      (.data (r.1.toNat + q.1.toNat * 2 ^ 32), q.2)
    else (.data r.1.toNat, r.2)
  else if addr < 0x10000000 then
    let l := s.lane i
    (.data ((l.winRead addr).toNat + (if size = 8 then (l.winRead (addr + 4)).toNat * 2 ^ 32 else 0)), s)
  else
    let off := addr - 0x1000000000
    let bad := (s.lane i).uncorrIn off size
    let f := (s.lane i).readWords off size seat s.now
    let s1 := s.leave i (fun _ => f)
    if bad then (.poison, s1)
    else if 112 ≤ off / 0x10000000 ∧ off / 0x10000000 < 120 then
      let x := s1.drawFree
      (.data (x.1.toNat % 256 ^ size), x.2)
    else (.data (bytesAt (s1.lane i).dram off size), s1)

/-- The pieces of a byte range, cut at every 64-byte boundary: address, length, place in the range (R434). -/
def tlpPieces (addr size : Nat) : List (Nat × Nat × Nat) :=
  (List.range ((addr % 64 + size + 63) / 64)).map (fun k =>
    let b := max addr (addr / 64 * 64 + 64 * k)
    (b, min (addr + size) (addr / 64 * 64 + 64 * (k + 1)) - b, b - addr))

/-- The first violation of an access, of its pieces where a PCIe access to DRAM is split (R434). -/
def Lane.checkAll (l : Lane) (acc : Acc) (addr size : Nat) (write : Bool) (data now : Nat) : Option (Nat × Nat × Nat) :=
  if acc.path = .pcie ∧ 0x1000000000 ≤ addr ∧ addr < 0x1800000000 then
    (tlpPieces addr size).findSome? (fun x => l.check acc.seat.val x.1 x.2.1 write (data / 256 ^ x.2.2 % 256 ^ x.2.1) now)
  else l.check acc.seat.val addr size write data now

/-- An access of a seat acts on the seat's key of the instance that it addresses (R29). -/
def State.keyMove (s : State) (acc : Acc) (addr : Nat) (lock : Option Nat) : State :=
  if addr < 0x1000000 ∧ (blkOf (addr / 0x1000)).isSome then s.on acc.lane (fun l => l.keyStep acc.seat.val (addr / 0x1000) s.now lock) else s

/-- What the checks say of an access: unanswered at S0 (R74), a violation (R40), held (R27, R436), or to be served. The key
sequence and the latch are kept; a read closes its key when it has been served, so that it still shows KEY_OPEN. A held access
is checked when it is served (R27), a read that waits when it arrives (R34). -/
def State.judge (s : State) (acc : Acc) (addr size : Nat) (write : Bool) (data : Nat) : Option Resp × State :=
  let i := acc.lane
  let l := s.lane i
  let seat := acc.seat.val
  let hold (ok : Bool) : Option Resp × State :=
    (some .held, s.on i (fun l => { l with acc := { l.acc with held := l.acc.held ++ [⟨acc, addr, size, write, data, ok⟩] } }))
  if l.stage = 0 ∨ l.sup.valid = false then (some .unanswered, s)
  else if l.busy addr write then hold false
  else
    let lock := if write ∧ size = 4 ∧ addr < 0x1000000 ∧ addr % 0x1000 = 0x028 then some (data % 2 ^ 16) else none
    let waits := l.waits acc write
    let v := if waits then l.checkAll acc addr size write data s.now else l.check seat addr size write data s.now
    match v with
    | some (k, a, z) => (some (.violation k), (s.keyMove acc addr none).on i (fun l => l.latchViol seat k a z write acc.path))
    | none => if waits then hold true else (none, if write then s.keyMove acc addr lock else s)

/-- An access in one piece that passed its checks is served. -/
def State.serve (s : State) (acc : Acc) (addr size : Nat) (write : Bool) (data : Nat) : Resp × State :=
  if write then s.doWrite acc addr size data
  else
    let r := s.doRead acc addr size
    (r.1, r.2.keyMove acc addr none)

/-- An access of a seat in one piece: as the checks say, else served. -/
def State.access1 (s : State) (acc : Acc) (addr size : Nat) (write : Bool) (data : Nat) : Resp × State :=
  let r := s.judge acc addr size write data
  match r.1 with
  | some x => (x, r.2)
  | none => r.2.serve acc addr size write data

/-- The answer of a piece at place `k` joins that of the pieces before it; the first that is not served stands. -/
def Resp.join (r x : Resp) (k : Nat) : Resp :=
  match r, x with
  | .data d, .data e => .data (d + e * 256 ^ k)
  | .done, .done => .done
  | .data _, y => y
  | .done, y => y
  | y, _ => y

/-- The pieces of a split access are done one after the other, with their answers joined (R434). -/
def State.pieces (s : State) (addr size data : Nat) (write : Bool) (f : State → Nat → Nat → Nat → Resp × State) : Resp × State :=
  (tlpPieces addr size).foldl (fun (z : Resp × State) x =>
    let y := f z.2 x.1 x.2.1 (data / 256 ^ x.2.2 % 256 ^ x.2.1)
    (z.1.join y.1 x.2.2, y.2)) (if write then .done else .data 0, s)

/-- A PCIe access to DRAM that crosses a 64-byte boundary is split (R434). -/
def splits (acc : Acc) (addr size : Nat) : Bool :=
  decide (acc.path = .pcie ∧ 0x1000000000 ≤ addr ∧ addr < 0x1800000000 ∧ 64 < addr % 64 + size)

/-- An access of a seat. A PCIe access to DRAM is split at every 64-byte boundary, and each piece is one access; it waits as
a whole where R436 makes it wait (R434). -/
def State.access (s : State) (acc : Acc) (addr size : Nat) (write : Bool) (data : Nat) : Resp × State :=
  if splits acc addr size = true ∧ (s.lane acc.lane).waits acc write = false then
    s.pieces addr size data write (fun z a n d => z.access1 acc a n write d)
  else s.access1 acc addr size write data

/-- The answer that a seat's last access has (PENDING until what it mirrored is confirmed). -/
def Lane.reply (l : Lane) (seat : Nat) (r : Resp) : Lane := { l with acc := { l.acc with resp := upsert Prod.fst (seat, r) l.acc.resp } }

/-- An access and its answer, as the seat sees it. -/
def State.answer (s : State) (acc : Acc) (addr size : Nat) (write : Bool) (data : Nat) : State :=
  let r := s.access acc addr size write data
  (r.2.on acc.lane (fun l => l.reply acc.seat.val r.1)).lines

/-- A held access is tried again: a read that has passed its checks is served once nothing holds it, whatever the rights by then
(R27, R34, R436). -/
def State.retry (s : State) (h : HeldAcc) : State :=
  let l := s.lane h.acc.lane
  if h.checked && decide (1 ≤ l.stage) && l.sup.valid && !l.busy h.addr h.write then
    if l.waits h.acc h.write then s.on h.acc.lane (fun l => { l with acc := { l.acc with held := l.acc.held ++ [h] } })
    else
      let r := if splits h.acc h.addr h.size then s.pieces h.addr h.size h.data h.write (fun z a n d => z.serve h.acc a n h.write d)
        else s.serve h.acc h.addr h.size h.write h.data
      (r.2.on h.acc.lane (fun l => l.reply h.acc.seat.val r.1)).lines
  else s.answer h.acc h.addr h.size h.write h.data

/-- The held accesses of a lane are tried again, in order (R27, R436). -/
def State.serveHeld (s : State) (i : LaneId) : State :=
  let hs := (s.lane i).acc.held
  let s0 := s.on i (fun l => { l with acc := { l.acc with held := [] } })
  hs.foldl State.retry s0

/-- A soft reset completes: RESET_BUSY clears, held accesses are served (R27). -/
def State.softResetDone (s : State) (i : LaneId) (p : Nat) : State :=
  let q := instPage p
  if (s.lane i).flag (F.BLK_STAT.RESET_BUSY q) then (s.on i (fun l => l.set (F.BLK_STAT.RESET_BUSY q) 0)).serveHeld i else s

end Sys2Proof.Machine
end

