-- ==== Sys2Proof/Machine/Start.lean ====
section
/-! DEFINITION. Supply, start stages and resets of a lane (chapter 04), the grid origin of a cold start (R130), the warm
resumption (R81, R82). -/

namespace Sys2Proof.Machine

/-! ### Slot and supply (R71, R72, R113) -/

/-- A cartridge is seated in an empty slot: with a supply entry present its supply is valid and the lane is POWERED, else it
stays ABSENT until its supply is (R71, R113). -/
def State.cartSeated (s : State) (i : LaneId) (c : Cart) : State :=
  let slot := (s.lane i).sup
  if slot.seated then s
  else
    let l := c.lane i.num slot
    (s.setLane i (if slot.ok1 || slot.ok2 then l.powerOn s.now else l)).lines

/-- The supply of a seated lane becomes valid: the reset of kind P is released (R71, R83). -/
def State.supplyValid (s : State) (i : LaneId) : State :=
  let l := s.lane i
  if l.sup.seated && !l.sup.valid && (l.sup.ok1 || l.sup.ok2) then (s.setLane i (l.powerOn s.now)).lines else s

/-- A ride-through begins where both entries are gone and ends where one is back (R72). -/
def Lane.rideShow (l : Lane) (now : Nat) : Lane :=
  let ride := if l.sup.ok1 || l.sup.ok2 || !l.sup.valid then none else some (l.sup.ride.getD now)
  Lane.showSupply { l with sup := { l.sup with ride := ride } }

/-- Entry `second` reads `v`, in 0.2 V units: present at or above 18 V. Its loss or return sets SUPPLY_CHG (R72). -/
def Lane.supplyChg (l : Lane) (second : Bool) (v now : Nat) : Lane :=
  let ok := decide (90 ≤ v)
  let old := if second then l.sup.ok2 else l.sup.ok1
  let sup := if second then { l.sup with ok2 := ok, v2 := min v 255 } else { l.sup with ok1 := ok, v1 := min v 255 }
  if l.sup.seated = false then { l with sup := sup }
  else
    let l1 := Lane.rideShow { l with sup := sup } now
    if ok ≠ old ∧ l.sup.valid then l1.ev sysPage 1 else l1

/-- Both entries are lost: the lane rides through (R72). -/
def Lane.rideThrough (l : Lane) (now : Nat) : Lane :=
  if l.sup.valid ∧ (l.sup.ok1 ∨ l.sup.ok2) then
    Lane.ev (Lane.rideShow { l with sup := { l.sup with ok1 := false, ok2 := false, v1 := 0, v2 := 0 } } now) sysPage 1
  else l

/-- The loss was one that BROWNOUT reports: at S2 or later, neither FAULTED nor stopped in LEAVING (R83). -/
def Lane.brownLoss (l : Lane) : Bool :=
  decide (2 ≤ l.stage) && !decide (l.st = .faulted) && !(decide (l.st = .leaving) && !l.start.present)

/-- The lane's last record and its operating time reach flash, and its supply is gone (R72, R385). -/
def Lane.supplyGone (l : Lane) (ride now : Nat) : Lane :=
  let brown := l.brownLoss
  let l1 := ((l.log1 0x00 0 0x0103 [(4, (l.rd Reg.SYS_SUPPLY).toNat), (4, ride)]).stopDriving.dropCheck.dropRejoin.loseEntries)
  ((l1.logFlash l1.log.buf.length).opRewrite).off brown now

/-- A loss that has lasted 1 ms: a supply-loss record, then ABSENT and a reset of kind P (R72, R113). -/
def State.supplyLoss (s : State) (i : LaneId) : State :=
  match (s.lane i).sup.ride with
  | none => s
  | some t =>
    let s1 := s.untilTick (t + 400000)
    (s1.leave i (fun l => l.supplyGone ((s1.now - t) / 400) s1.now)).lines

/-- A cartridge is withdrawn: its lane is ABSENT, its report for replacement ends (R113, R117). -/
def State.cartRemoved (s : State) (i : LaneId) : State :=
  if (s.lane i).sup.seated then
    let s1 := s.leave i (fun l => { Lane.empty i.num with sup := (Lane.empty i.num).sup.entries l.sup })
    (s1.on i.other (fun o => if o.get F.PAIR_DIV.REPL_SLOT = i.num then o.set F.PAIR_STAT.REPLACE 0 else o)).lines
  else s

/-! ### Stages (R73) -/

/-- Time since supply valid or reset release, in units of `u` ticks, as the stage registers hold it. -/
def Lane.sinceStart (l : Lane) (u now : Nat) : Nat := min ((now - l.start.t0) / u) 65535

/-- Stage `n` is reached: SYS_STATE, its time, its event and its record (R73, R386). -/
def Lane.reach (l : Lane) (n now : Nat) : Lane :=
  let ms := l.sinceStart 400000 now
  let l1 := l.set F.SYS_STATE.STAGE n
  let l2 := match n with
    | 0 => l1.set F.SYS_STAGE_T01.S0 (l.sinceStart 4000 now)
    | 1 => l1.set F.SYS_STAGE_T01.S1 ms
    | 2 => l1.set F.SYS_STAGE_T23.S2 ms
    | _ => l1.set F.SYS_STAGE_T23.S3 ms
  (l2.ev sysPage 0).log1 0x00 0 0x0104 [(1, n), (4, ms)]

/-- Both pip channels run: PIP_RUN, stage S0, PIP (R113, R319). -/
def State.pipRun (s : State) (i : LaneId) : State :=
  let l := s.lane i
  if l.sup.valid ∧ (l.st = .powered ∨ l.st = .pip) ∧ l.start.pipRun = false ∧ l.pip.faultAt = none then
    let l1 := (Lane.reach { l with start := { l.start with pipRun := true } } 0 s.now).bookS0.goTo .pip
    (s.setLane i (l1.pipStart s.now)).lines
  else s

/-- Discovery of the stations of every ring (R255). -/
def Lane.discoverAll (l : Lane) : Lane := l.rings.foldl Lane.discover l

/-- The latest complete snapshot. -/
def Lane.latestSnap (l : Lane) : Option Nat := ((l.slots.filter Snap.complete).map Snap.cyc).max?

/-- The table windows and the cycle image of the latest snapshot, from which a keeper sends (R73). -/
def Lane.keeperTables (l : Lane) : Lane :=
  match l.slots.find? (fun x => x.complete && l.latestSnap == some x.cyc) with
  | some x => { l with car := { l.car with img := x.car.img, win := x.car.win } }
  | none => l

/-- A lane's images for its start: the running set's registers on a warm start, else the set of the image store, with the
hold values of the analogue outputs. On a warm start the keeper has the tables and the cycle image of its latest snapshot (R73,
R80). -/
def Lane.startImages (l : Lane) : Lane :=
  let kind := if l.get F.SYS_RESET_COUNT.COUNT = 0 then 0 else 1
  let l1 := if l.start.warmOk then (match l.image with | some im => ((l.imageRegs im 1).keeperTables).aoWarm | none => l)
    else match l.store.boot with
      | some im => if (l.refusal im).isSome then ({ l with image := none }).imageRefused im else (l.loadImages im kind).aoStart
      | none => { l with image := none }
  (if kind = 0 then l1.timeCtrl 0x12 else l1).discoverAll

/-- At S3 of the first start after power-on the seats are loaded, unless the lane has received them; rights survive a lane reset
(R36, R477). -/
def Lane.seatsS3 (l : Lane) : Lane :=
  if l.start.seatsIn then l else Lane.loadSeats { l with start := { l.start with seatsIn := true } }

/-- A keeper starts from an origin (R130). -/
def Lane.takeOrigin (m : Lane) (n t : Nat) : Lane :=
  let m1 : Lane := { m with start := { m.start with origin := some (n, t), ready := some m.t64 } }
  (m1.set64 Reg.CYCLE_ORG_NUM_LO Reg.CYCLE_ORG_NUM_HI n).set64 Reg.CYCLE_ORG_T_LO Reg.CYCLE_ORG_T_HI t

/-- The origin that the primacy lane has chosen reaches the other keeper over the pair link, once that one too has loaded its
images for a cold start (R79, R130). -/
def State.passOrigin (s : State) : State :=
  let pass (s : State) (i : LaneId) : State :=
    match (s.lane i.other).start.origin with
    | some (n, t) =>
      let l := s.lane i
      if s.linked ∧ s.prime i.other = true ∧ (s.lane i.other).st = .keeper ∧ l.st = .keeper ∧ l.start.warmOk = false ∧ l.image.isSome = true ∧
          l.start.origin = none then
        s.on i (fun m => m.takeOrigin n t)
      else s
    | none => s
  pass (pass s .A) .B

/-- Stage S1: KEEPER with a request for primacy and hold frames, or SHADOW beside a lane that runs, whose time it takes
after power-on (R48, R73, R76, R113). -/
def State.stageS1 (s : State) (i : LaneId) : State :=
  let l := s.lane i
  if l.st = .pip ∧ l.start.pipRun = true ∧ l.start.inReset = none ∧ l.sup.valid = true ∧ l.booted = true then
    let l1 := (l.reach 1 s.now).startImages
    let l2 : Lane :=
      if s.otherRuns i then
        (if l.get F.SYS_RESET_COUNT.COUNT = 0 then l1.takeTime (s.lane i.other) else l1).goTo .shadow
      else
        let k := (l1.askPrimacy true s.now).goTo .keeper
        { k with cyc := { k.cyc with holdFrames := true }, pair := { k.pair with cause := 0 } }
    (((s.setLane i l2).lines).arbiter).passOrigin
  else s

/-- Stage S3: seats, sessions, recorder and service cores; the endpoint is bound (R73, R435). -/
def State.stageS3 (s : State) (i : LaneId) : State :=
  let l := s.lane i
  if l.stage = 2 ∧ (l.st = .shadow ∨ l.drives = true) then (s.setLane i ((l.reach 3 s.now).seatsS3.bindPcie.workShow s.now)).lines else s

/-! ### Arrival at S2 (R73, R79, R130) -/

/-- The cycle engines start with cycle `n` as the first (R73, R109, R130). -/
def Lane.enterS2 (l : Lane) (n now : Nat) (st : LaneSt) : Lane :=
  let l1 := if l.stage < 2 then l.stageOut.reach 2 now else l.stageOut
  let l2 := ((((l1.set F.CYCLE_STAT.RUN 1).set64 Reg.CYCLE_NUM_LO Reg.CYCLE_NUM_HI (n - 1)).setPresent true).askPrimacy true now).goTo st
  let l3 : Lane := { l2 with
    cyc := { l2.cyc with cutDone := true, merged := true, opened := true, complete := true, s2At := n, snapOf := none } }
  l3.log1 0x10 0 0x0105 [(8, n), (8, l3.tOf n)]

/-- The highest cycle number in the cycle-number records of a lane's event log (R130). -/
def Lane.lastCycle (l : Lane) : Nat :=
  ((l.log.flash ++ l.log.buf).filterMap (fun r => if r.srcType = 0x10 ∧ r.code = 0x0105 then (r.data.head?).map Prod.snd else none)).foldl max 0

/-- T_org of R130: the first instant no earlier than `t` on the phase. -/
def orgAt (t phase p : Nat) : Nat := t + (phase % p + p - t % p) % p

/-- The primacy lane has loaded its images on a cold start: it fixes the origin, which both lanes use (R130). -/
def State.gridOrigin (s : State) (i : LaneId) : State :=
  let s := s.held
  let l := s.lane i
  let o := s.lane i.other
  if l.st = .keeper ∧ s.prime i = true ∧ l.start.warmOk = false ∧ l.start.origin = none ∧ l.image.isSome = true ∧ 0 < l.period ∧
      ¬(o.st = .keeper ∧ o.start.warmOk = true) then
    let t := orgAt (l.t64 + 1000000) (l.get F.CYCLE_PHASE_CFG.NS) l.period
    let n := max l.lastCycle o.lastCycle + 2 ^ 32
    (s.on i (fun m => m.takeOrigin n t)).passOrigin
  else s

/-- A cold lane starts its first cycle: absence at S2 (R255). -/
def Lane.coldS2 (l : Lane) (n now : Nat) (st : LaneSt) : Lane :=
  let l1 := (l.enterS2 n now st).ringColdStart n
  { l1 with cyc := { l1.cyc with holdFrames := false } }

/-- Both keepers start with the same images, from the image store, at the same origin (R79). -/
def sameStart (l o : Lane) : Bool :=
  decide (o.st = .keeper) && decide (o.start.origin = l.start.origin) && !o.start.warmOk && decide (o.image.map ImageSet.sl = l.image.map ImageSet.sl)

/-- Stage S2: at T_org the keeper with primacy starts its cycles, alone or with the other keeper; a lane in SHADOW only
reaches the stage (R73, R76, R79). -/
def State.stageS2 (s0 : State) (i : LaneId) : State :=
  let s := s0.held
  let l := s.lane i
  if l.st = .shadow then
    if l.stage = 1 then
      let o := s.lane i.other
      let n := if o.runs && s.linked then o.cycN else l.cycN
      let t := if o.runs && s.linked then o.tOf n else l.tOf n
      (s.setLane i ((l.reach 2 s.now).log1 0x10 0 0x0105 [(8, n), (8, t)])).lines
    else s
  else match l.start.origin with
    | none => s
    | some (n, t) =>
      if l.st = .keeper ∧ s.prime i = true then
        let s1 := s.untilT i t
        if sameStart (s1.lane i) (s1.lane i.other) then
          (State.lines { s1 with a := s1.a.coldS2 n s1.now .paired, b := s1.b.coldS2 n s1.now .paired }).aoShow
        else
          let s2 := (s1.on i (fun m => m.coldS2 n s1.now .solo)).on i.other (fun o => o.keeperToShadow s1.now)
          (s2.lines).aoShow
      else s

/-! ### Resets of kind L (R80, R83) -/

/-- A word of the image and table area does not read, the snapshot slots apart (R80, R473). -/
def Lane.imageAreaBad (l : Lane) : Bool :=
  l.memi.bad.any (fun b => decide (4 < popcount 72 b.2) && decide (regionOf b.1 = 0) && (slotAt b.1).isNone)

/-- The snapshot slots as a start finds them: one with a word that does not read, or whose digest does not match its contents, is
not complete (R80). -/
def Lane.checkSlots (l : Lane) : Lane :=
  let bad (k : Nat) : Bool := l.memi.bad.any (fun b => decide (4 < popcount 72 b.2) && decide (slotAt b.1 = some k))
  { l with slots := l.slots.map (fun s => if s.sound && !bad s.slot then s else { s with complete := false }) }

/-- Why a start is cold, or 0 for a warm one (SYS_WARM.REASON, R80). -/
def Lane.coldReason (l : Lane) : Nat :=
  if l.start.fwChanged then 4
  else if l.imageAreaBad || (l.image.map (fun im => !im.valid || decide (im.version < (l.rd Reg.HOST_SEC_IMGVER).toNat))).getD false then 2
  else if l.image.isNone || !l.slots.any Snap.complete then 3
  else 0

/-- The reset of kind L is released: its cause bit and record, warm or cold (R80, R83). -/
def Lane.release (l : Lane) (now : Nat) : Lane :=
  match l.start.inReset with
  | none => l
  | some c =>
    let l0 := l.boot
    let new := decide (l0.get F.HOST_SEC_STAT.BANK ≠ l.get F.HOST_SEC_STAT.BANK ∨ l0.get F.HOST_SEC_STAT.RUNNING ≠ l.get F.HOST_SEC_STAT.RUNNING)
    let l1 : Lane := Lane.checkSlots { l0.set ⟨Reg.SYS_RESET_CAUSE, c, c⟩ 1 with start := { l.start with fwChanged := l.start.fwChanged || new } }
    let r := l1.coldReason
    let l1b := if r = 0 then l1 else l1.ev sysPage 2
    let l2 := l1b.set F.SYS_WARM.REASON r
    let l3 : Lane := { l2 with
      start := { l2.start with t0 := now, inReset := none, warmOk := decide (r = 0), fwChanged := false },
      image := if r = 0 then l2.image else none }
    ((l3.warmShow).bookS0).log1 0x00 0 0x0102 [(4, (l3.rd Reg.SYS_RESET_CAUSE).toNat), (4, l3.get F.SYS_RESET_COUNT.COUNT)]

/-! ### Warm resumption (R81, R82, R123) -/

/-- The highest cycle for which two lanes of the same images hold complete snapshots with equal digests (R81, R94). -/
def commonSnap (l o : Lane) : Option Nat :=
  if l.image.map ImageSet.sl ≠ o.image.map ImageSet.sl then none
  else ((l.slots.filter (fun x => x.complete && o.slots.any (fun y => y.complete && y.cyc == x.cyc && y.dig == x.dig))).map Snap.cyc).max?

/-- A keeper whose start is warm and not yet settled. -/
def Lane.warmKeeper (l : Lane) : Bool := decide (l.st = .keeper) && l.start.warmOk && l.start.resume.isNone

/-- The snapshots are compared over the pair link and the one to resume from is chosen; without a common one, or without the
link, the holder resumes alone from its own, and the other starts by rejoining (R81). -/
def State.snapshotExchange (s : State) : State :=
  let s := s.held
  let go (n : Option Nat) (l : Lane) : Lane :=
    { l with start := { l.start with resume := n, exchanged := true, ready := some (l.start.ready.getD l.t64) } }
  if s.a.warmKeeper && s.b.warmKeeper then
    match (if s.linked then commonSnap s.a s.b else none), s.base.primacy with
    | some n, _ => { s with a := go (some n) s.a, b := go (some n) s.b }
    | none, some h =>
      (s.on h (fun l => go l.latestSnap l)).on h.other (fun l =>
        (Lane.set { l with start := { l.start with warmOk := false, exchanged := true } } F.SYS_WARM.REASON 5).ev sysPage 2)
    | none, none => s
  else if s.a.warmKeeper then s.on .A (fun l => go l.latestSnap l)
  else if s.b.warmKeeper then s.on .B (fun l => go l.latestSnap l)
  else s

/-- N_r of R82 from N_s. -/
def Lane.resumeCycle (l : Lane) (ns : Nat) : Nat :=
  ns + 2 + ((l.start.ready.getD l.t64) - l.tOf (ns + 1)) / max l.period 1

/-- Carried state of snapshot cycle `ns`: from its slot, or as a joining lane has replayed it (R82, R123); PSEQ as the hold ring has
it (R379). -/
def Lane.restoreSnap (l : Lane) (ns : Nat) : Lane :=
  match l.slots.find? (fun x => x.complete && x.cyc == ns) with
  | none => l
  | some x =>
    let l1 : Lane := { l with
      car := x.car, cyc := { l.cyc with sweep := x.sweep }, ring := { l.ring with cons := x.cons, loss := x.loss, absCmd := x.absCmd }, pair := { l.pair with keys := x.keys },
      recd := { l.recd with cnt := { x.recd with pseq := max x.recd.pseq l.recd.cnt.pseq } } }
    ((l1.restoreRegs x.regs carriedMask).stageOut.faultsShow).ainShow

/-- The lane resumes from `ns` at cycle `nr`: programs, recipes, loops, axes, tokens, the recorder, the gap record (R82). -/
def Lane.resumeWarm (l : Lane) (ns nr now : Nat) (oth : Option RecH) (st : LaneSt) : Lane :=
  let l0 := (l.restoreSnap ns).ringEnd ns
  let l1 : Lane := { l0 with
    car := { l0.car with
      progs := l0.car.progs.map (fun p => { p with warm := true }),
      loops := l0.loopInsts.foldl (fun xs i => upsert LoopI.inst { l0.loopI i with resumed := true } xs) l0.car.loops,
      chans := l0.car.chans.map (fun c => chanWarm l0 nr c) } }
  let held := l1.car.chans.filter (fun c => decide ((l0.chan c.chan).state ≠ c.state))
  let l2 := (((held.foldl (fun m c => m.ev (chanPage c.chan) 1) l1).withTokens []).recWarm l0.recd.cnt oth ns nr).set F.SYS_STATE.WARM 1
  let l3 := ((l2.enterS2 nr now st).axesWarm).log1 0x10 0 0x0106 [(8, ns + 1), (8, nr - 1)]
  { l3 with
      cyc := { l3.cyc with holdFrames := true, holdTo := nr + 2 },
      start := { l3.start with resume := none } }

/-- A lane that can resume: a keeper, or a lane that took primacy in its rejoin. -/
def Lane.canResume (l : Lane) : Bool := l.start.resume.isSome && !l.running && (decide (l.st = .keeper) || decide (l.st = .solo))

/-- The warm resumption of lane `i`, with the other lane where both resume from one snapshot (R81, R82). The
t_ready of lane `i` then fixes N_r of both (DESIGN CHOICE, log entry 147: R82 does not say whose). -/
def State.warmResume (s0 : State) (i : LaneId) : State :=
  let sp := if ((s0.lane i).pair.promo.bind Prod.snd).isSome then s0.promoteDue i else s0
  let s := if (sp.lane i).warmKeeper then sp.snapshotExchange else sp
  let l := s.lane i
  let o := s.lane i.other
  match l.start.resume with
  | none => s
  | some ns =>
    if l.canResume = false then s
    else
      let both := o.canResume && decide (o.st = .keeper ∧ l.st = .keeper) && decide (o.start.resume = some ns)
      let s1 := if both then s else ((s.on i.other (fun m => m.keeperToShadow s.now)).lines).held
      if s1.prime i || (both && s1.prime i.other) then
        let nr := l.resumeCycle ns
        let s2 := s1.untilT i (l.tOf nr)
        let other := if o.sup.valid then some o.recd else none
        if both then
          (State.lines { s2 with
            a := s2.a.resumeWarm ns nr s2.now (some s.b.recd) .paired, b := s2.b.resumeWarm ns nr s2.now (some s.a.recd) .paired }).aoShow
        else ((s2.on i (fun m => m.resumeWarm ns nr s2.now other .solo)).lines).aoShow
      else s1

end Sys2Proof.Machine
end

