-- ==== Sys2Proof/Machine/Pair.lean ====
section
/-! DEFINITION. The pair at work: ejectors, the pair link, rejoin, the firmware that a joining lane or an update brings
(R113–R127, R348, R448, R449). -/

namespace Sys2Proof.Machine

/-! ### Ejectors (R113, R114) -/

/-- The ejector lever of slot `i` opens: a PAIRED lane leaves as by LEAVE, a lane alone refuses. -/
def State.ejectorOpen (s : State) (i : LaneId) : State :=
  let l := s.lane i
  if l.sup.seated && l.sup.closed then
    let l1 : Lane := { l with sup := { l.sup with closed := false } }
    let l2 := if l.st = .paired then (l1.enter (.leave i false false) none 0).owHalt
      else if l.st = .solo then l1.err pairPage 0x40 0x11 Reg.PAIR_CTRL else l1
    (s.setLane i l2).lines
  else s

/-- The ejector closes again before removal: a lane in LEAVING is to rejoin. -/
def State.ejectorClose (s : State) (i : LaneId) : State :=
  let l := s.lane i
  if l.sup.seated && !l.sup.closed then
    let l1 : Lane := { l with sup := { l.sup with closed := true } }
    (s.setLane i (if l.st = .leaving then l1.goTo .shadow else l1)).lines
  else s

/-! ### The pair link (R118, R123) -/

/-- A lane that can keep its end of the pair link up. -/
def Lane.linkable (l : Lane) : Bool := l.sup.valid && decide (1 ≤ l.stage)

/-- Pair-link lane `n` goes up or down, at both ends; without any lane a rejoin in phases 2 to 5 is abandoned (R123). -/
def State.linkChg (s : State) (n : Nat) (up : Bool) : State :=
  let ok := up && s.a.linkable && s.b.linkable
  if s.a.flag ⟨Reg.PAIR_STAT, n % 4, n % 4⟩ = ok ∧ s.b.flag ⟨Reg.PAIR_STAT, n % 4, n % 4⟩ = ok then s else
  let show' (l : Lane) : Lane := (l.setB ⟨Reg.PAIR_STAT, n % 4, n % 4⟩ ok).ev pairPage 3
  let s1 := State.lines { s with a := show' s.a, b := show' s.b }
  let drop (s : State) (i : LaneId) : State :=
    let l := s.lane i
    if l.st = .shadow ∧ l.linked = false ∧ 2 ≤ l.get F.PAIR_RJ_STAT.PHASE ∧ l.get F.PAIR_RJ_STAT.PHASE ≤ 5 then s.abandon i 7 else s
  ((drop (drop s1 .A) .B).lines).passOrigin

/-! ### Rejoin (R120–R124) -/

/-- With AUTO_REJOIN a lane in SHADOW begins its rejoin once the link has been up for 1 s (R121). -/
def State.rejoinAuto (s : State) (i : LaneId) : State :=
  if (s.lane i).flag F.PAIR_CTRL.AUTO_REJOIN && s.rejoinReady i then s.rejoinBegin i else s

/-- A rejoin has not reached phase 6 within TIMEOUT (R123). -/
def State.rejoinTimeout (s : State) (i : LaneId) : State :=
  match (s.lane i).pair.rejoin with
  | none => s
  | some r =>
    if (s.lane i).st = .shadow then
      let s1 := s.untilTick (r.start + (s.lane i).get F.PAIR_RJ_CTRL.TIMEOUT * 400000000)
      (s1.abandon i 2).lines
    else s

/-- The bits of a register that restart from 0 at a rejoin: the counters and latches that chapters 07 to 11 and 13 keep per
lane. -/
def restartMask (addr : Nat) : Word :=
  let p := addr / 0x1000
  let o := addr % 0x1000
  let all (b : Prop) [Decidable b] : Word := if b then 0xFFFFFFFF#32 else 0#32
  match (blkOf p).map Blk.ty with
  | some 0x20 => all (0x40 ≤ o ∧ o ≤ 0x58)
  | some 0x30 => all (0x44 ≤ o ∧ o ≤ 0x60)
  | some 0x38 => all (p ≠ 0x380 ∧ (o = 0x70 ∨ o = 0x74))
  | some 0x40 => all (o = 0x68 ∨ o = 0x6C ∨ o = 0x70)
  | some 0x44 => all (0x100 ≤ o ∧ (o % 0x100 = 0x14 ∨ o % 0x100 = 0x18))
  | some 0x60 =>
    if addr = Reg.AIN_STAT then 0x4#32
    else if p = 0x603 ∧ 0x200 ≤ o then 0x80000000#32
    else all (addr = Reg.AIN_OW_LAST ∨ addr = Reg.AIN_BAND_OUT_LO ∨ addr = Reg.AIN_BAND_OUT_HI ∨ addr = Reg.AIN_DIS_COUNT)
  | some 0x70 => if o = 0x44 then 0xFFFFFFBF#32 else all (o = 0x54 ∨ o = 0x58 ∨ o = 0x5C)
  | _ => 0#32

/-- At a rejoin the counters and latches of the engines, rings, inputs and buses restart from 0, and the transmit queues are
empty; the joining lane does so as it takes the rejoin set (log entry 196). -/
def Lane.restartCounts (l : Lane) : Lane :=
  let l1 := (l.regs.map Prod.fst).foldl (fun m a => if restartMask a = 0#32 then m else m.putMask a (restartMask a).toNat 0#32) l
  { l1 with pbus := { l1.pbus with captured := [], queue := [], objs := [], ctls := [] } }

/-- The rejoin set of a snapshot in the joining lane (R120): images only where the seals differ. -/
def Lane.takeSet (l o : Lane) (x : Snap) : Lane :=
  let streamed := decide (l.image.map ImageSet.sl ≠ o.image.map ImageSet.sl)
  let l0 : Lane := if streamed then (match o.image with
      | some im => { l.loadImages im 1 with store := { l.store with boot := some im } }
      | none => l)
    else l
  let l1 : Lane := { l0 with
    car := x.car, cyc := { l0.cyc with sweep := x.sweep }, slots := [], acc := { l0.acc with tokens := x.tokens }, start := { l0.start with seatsIn := true },
    ledger := { l0.ledger with grants := l0.ledger.grants.filter (fun g => !mirroredClass g.req.cls) ++ x.grants },
    ring := { l0.ring with cons := x.cons, loss := x.loss, absCmd := x.absCmd },
    pair := { l0.pair with entries := l0.pair.entries.filter (fun e => decide (x.cyc < e.effect)), keys := x.keys, oseq := o.pair.othSeq, othSeq := o.pair.oseq },
    host := { l0.host with keyHash := l0.host.keyHash.orElse (fun _ => o.host.keyHash) } }
  let l2 := l1.restoreRegs x.regs (fun a => carriedMask a ||| mirMask a)
  let l3 := (((l2.set F.TIME_STAT.STATE (o.get F.TIME_STAT.STATE)).set F.TIME_STAT.SOURCE_ACT (o.get F.TIME_STAT.SOURCE_ACT)).wr Reg.TIME_UTC
    (o.rd Reg.TIME_UTC)).setB F.HOST_SEC_STAT.KEY l1.host.keyHash.isSome
  let l4 := ((l3.set64 Reg.CYCLE_ORG_NUM_LO Reg.CYCLE_ORG_NUM_HI x.org.1).set64 Reg.CYCLE_ORG_T_LO Reg.CYCLE_ORG_T_HI x.org.2).set64
    Reg.CYCLE_NUM_LO Reg.CYCLE_NUM_HI x.cyc
  ((((l4.ledgerShow).setB F.PAIR_RJ_STAT.IMAGES streamed).warmShow).stageOut.restartCounts.faultsShow).ainShow.captIdle

/-- The joining lane has the whole rejoin set: phase 3 (R121). Its size in KiB is free (log entry 9). -/
def State.rejoinSet (s : State) (i : LaneId) : State :=
  let l := s.lane i
  let o := s.lane i.other
  match l.pair.rejoin, o.slots.find? (fun x => x.complete && x.cyc == l.get64 Reg.PAIR_RJ_SNAP_LO Reg.PAIR_RJ_SNAP_HI) with
  | some r, some x =>
    if l.st = .shadow ∧ l.get F.PAIR_RJ_STAT.PHASE = 2 ∧ r.refused = false ∧ s.compatible = true ∧ s.linked = true then
      let k := s.drawFree
      let show' (m : Lane) : Lane := (m.set F.PAIR_RJ_STAT.PHASE 3).wr Reg.PAIR_RJ_KIB k.1
      let l1 := l.takeSet o x
      let l2 : Lane := { l1 with pair := { l1.pair with rejoin := some { r with held := true, replayed := none } } }
      let st := l2.get F.PAIR_RJ_STAT.IMAGES
      let o1 := (show' o).set F.PAIR_RJ_STAT.IMAGES st
      ((k.2.setLane i ((show' l2).wr Reg.PAIR_RJ_BACKLOG (word (o.cycN - x.cyc)))).setLane i.other o1).lines
    else s
  | _, _ => s

/-- The latest cycle that the running lane has computed. -/
def Lane.computed (l : Lane) : Nat := if l.cyc.complete then l.cycN else l.cycN - 1

/-- The joining lane completes one replayed cycle; once caught up it computes each live cycle: phase 4 (R121, R122). -/
def State.replayCycle (s : State) (i : LaneId) : State :=
  let l := s.lane i
  match l.pair.rejoin with
  | none => s
  | some r =>
    if l.st = .shadow ∧ l.get F.PAIR_RJ_STAT.PHASE = 3 ∧ r.held = true then
      let s1 := s.replayNext i
      let l1 := s1.lane i
      match l1.pair.rejoin with
      | none => s1
      | some q =>
        if (s1.lane i.other).computed ≤ l1.replayedTo q then
          let ph (m : Lane) : Lane := (m.set F.PAIR_RJ_STAT.PHASE 4).wr Reg.PAIR_RJ_BACKLOG 0#32
          ((s1.on i (fun m => (ph m).set F.CYCLE_STAT.RUN 1)).on i.other ph).lines
        else s1
    else s

/-- The running pip's state record arrives in phase 2 (R348). -/
def State.pipRecord (s : State) (i : LaneId) : State :=
  let l := s.lane i
  if l.st = .shadow ∧ l.pair.rejoin.isSome ∧ 2 ≤ l.get F.PAIR_RJ_STAT.PHASE then s.on i (fun m => m.pipLoad (s.lane i.other).pip s.now) else s

/-! ### Firmware (R124, R126, R448, R449) -/

/-- A package written to a lane's image store, into the bank that does not run: refused without a good signature, or below
the fused version. -/
def Lane.fwPackage (l : Lane) (p : FwPkg) : Lane :=
  if l.sup.valid = false then l
  else if p.signed = false then (l.err hostPage 0x40 0x12 0).ev hostPage 6
  else if p.version < l.get F.HOST_SEC_STAT.FUSED then (l.err hostPage 0x41 0x12 0).ev hostPage 6
  else { l with host := { l.host with banks := l.host.banks.set (1 - l.get F.HOST_SEC_STAT.BANK) (some (p.version, p.compat)) } }

/-- The running lane's firmware is in the joining lane's banks and is the one that boots. -/
def Lane.install (l : Lane) (v c : Nat) : Lane :=
  let own := l.get F.HOST_SEC_STAT.BANK
  let kept := match (l.host.banks.getD own none) with | some (w, d) => if w < v then some (w, d) else none | none => none
  { l with host := { l.host with banks := if own = 0 then [kept, some (v, c)] else [some (v, c), kept] } }

/-- The running lane's firmware reaches a joining lane whose compatibility number differs: installed, with a reset of cause
UPDATE, or refused by the checks of R448 and R449, and the lane waits in SHADOW (R124). -/
def State.firmwareReceive (s : State) (i : LaneId) (signed : Bool) : State :=
  let l := s.lane i
  let o := s.lane i.other
  if l.st = .shadow ∧ s.compatible = false ∧ s.linked = true then
    let v := o.get F.HOST_SEC_STAT.RUNNING
    let s := if signed = false ∨ v < l.get F.HOST_SEC_STAT.FUSED then s.fwFails i else s
    let refuse (l : Lane) (code : Nat) : Lane :=
      let l1 : Lane := { l with pair := { l.pair with rejoin := l.pair.rejoin.map (fun r => { r with refused := true }) } }
      ((l1.err pairPage 0x42 0x11 0).err hostPage code 0x12 0).ev hostPage 6
    if signed = false then s.on i (fun l => refuse l 0x40)
    else if v < l.get F.HOST_SEC_STAT.FUSED then s.on i (fun l => refuse l 0x41)
    else
      s.leave i (fun l =>
        let x := (l.install v (o.get F.PAIR_COMPAT.OWN)).resetL 4 s.now
        { x with start := { x.start with fwChanged := true } })
  else s

end Sys2Proof.Machine
end

