-- ==== Sys2Proof/Machine/Host.lean ====
section
/-! DEFINITION. The links to hosts (chapter 19): the PCIe endpoint (R433–R436), the halt input (R446), the tool ring (R447),
ARP and ICMP (R438), PTP peer delay and the tool-ring ports (R55), reads that meet memory errors (R431). -/

namespace Sys2Proof.Machine

/-! ### The PCIe endpoint -/

/-- The link comes up with a width and a speed: the endpoint is bound to its seat from S3 on (R433, R435). -/
def Lane.pcieUp (l : Lane) (width speed : Nat) : Lane :=
  if l.sup.valid ∧ 1 ≤ l.stage ∧ l.flag F.HOST_PCIE_STAT.LINK = false then
    let l1 : Lane := { l with host := { l.host with mse := true } }
    (((((l1.set F.HOST_PCIE_STAT.LINK 1).set F.HOST_PCIE_STAT.WIDTH width).set F.HOST_PCIE_STAT.SPEED speed).set F.HOST_PCIE_STAT.DSTATE 0).set
      F.HOST_PCIE_STAT.BME 1).ev hostPage 0 |>.bindPcie
  else l

/-- Tokens of seat `q` are released by entries that lane `l` enters (R38, R39). -/
def Lane.releaseBy (l : Lane) (q : Nat) : Lane :=
  (l.tokensOf q).foldl (fun m t => m.enter (.claim (word (2 ^ 31 + t))) (some q) 0) l

/-- The binding ends: link down 0, hot reset 1, FLR 2, MSE or BME cleared 3 (R435). -/
def Lane.pcieEnd (l : Lane) (cause : Nat) (prime : Bool) (now : Nat) : Lane :=
  let q := l.get F.HOST_PCIE_CFG.SEAT
  let l1 := match cause with
    | 0 => if l.flag F.HOST_PCIE_STAT.LINK then (((l.set F.HOST_PCIE_STAT.LINK 0).set F.HOST_PCIE_STAT.WIDTH 0).set F.HOST_PCIE_STAT.SPEED 0).ev hostPage 0 else l
    | 3 => Lane.set { l with host := { l.host with mse := false } } F.HOST_PCIE_STAT.BME 0
    | _ => l.set F.HOST_PCIE_STAT.BME 0
  if l.flag F.HOST_PCIE_STAT.BOUND then
    let l2 := (((l1.set F.HOST_PCIE_STAT.BOUND 0).showBound q).ev hostPage 1).dmaUnbind q
    (l2.releaseBy q).applyIdle prime now
  else l1

/-- The function goes to D0 (0) or D3hot (3); its seat, where it is bound, wakes and takes what waits for it (R415). -/
def Lane.dstate (l : Lane) (d : Nat) : Lane :=
  if l.flag F.HOST_PCIE_STAT.LINK then
    let l1 := l.set F.HOST_PCIE_STAT.DSTATE (if d = 3 then 3 else 0)
    let q := 0x10 + l1.get F.HOST_PCIE_CFG.SEAT
    if d ≠ 3 ∧ l1.awake q = true then l1.irqWoken q else l1
  else l

/-! ### Halt (R446) -/

/-- The filtered level of HALT_REQ at a lane; it acts at the next cycle boundary. -/
def Lane.haltPin (l : Lane) (on : Bool) : Lane := if l.sup.valid then l.setB F.HOST_HALT.PIN on else l

/-! ### Tool ring (R447) -/

/-- Ticks for which a duplicate entry (400 ms) and a node-table entry (60 s) are held. -/
def dupAge : Nat := 160000000
def nodeAge : Nat := 24000000000

/-- The port a frame leaves by: an own-port frame over the cross hop, a cross-hop frame out the own port. A PTP event message
carries the residence time with it (R55). -/
def Lane.toolForward (l : Lane) (cross : Bool) (src seq : Nat) : Lane :=
  { l with host := { l.host with
      sent := l.host.sent ++ [(if cross then 0 else 1, src, seq)]
      resid := l.host.resid ++ [(src, seq, Config.residence l.num src seq)] } }

/-- A node has sent a supervision frame: the node table holds 512. -/
def Lane.noteNode (l : Lane) (src now : Nat) : Lane :=
  let old := l.host.nodes.filter (fun x => x.1 != src)
  let nodes := if old.length < 512 then old ++ [(src, now)] else old
  Lane.set { l with host := { l.host with nodes := nodes } } F.HOST_TR_STAT.NODES nodes.length

/-- An HSR frame arrives at lane `i` by its own port or over the cross hop: a duplicate is discarded and counted; a frame not
for the module is forwarded, one for it is taken, one for all is both. -/
def State.toolFrame (s : State) (i : LaneId) (cross : Bool) (src seq : Nat) (toModule toOthers supervision : Bool) : State :=
  let l := s.lane i
  if l.sup.valid ∧ 1 ≤ l.stage ∧ l.flag (if cross then F.HOST_TR_STAT.XHOP else F.HOST_TR_STAT.LINK) = true then
    let seen (m : Lane) : Bool := m.host.dups.any (fun d => d.1 == src && d.2.1 == seq && decide (s.now < d.2.2 + dupAge))
    if seen l || (l.flag F.HOST_TR_STAT.XHOP && toModule && seen (s.lane i.other)) then s.on i (fun m => m.cnt F.HOST_TR_DUP.COUNT 1)
    else
      s.on i (fun m =>
        let m1 : Lane := { m with host := { m.host with dups := m.host.dups ++ [(src, seq, s.now)] } }
        let m2 := if supervision then m1.noteNode src s.now else m1
        if toOthers || !toModule then m2.toolForward cross src seq else m2)
  else s

/-- The primacy lane sends a supervision frame on both ports; lane A uses even sequence numbers and lane B odd ones. The
module's own address is written 0. -/
def State.toolSupervision (s : State) : State :=
  match s.base.primacy with
  | none => s
  | some i => s.on i (fun l =>
      if 1 ≤ l.stage then
        let n := 2 * l.host.seq + i.num
        { l with host := { l.host with seq := l.host.seq + 1, sent := l.host.sent ++ [(0, 0, n), (1, 0, n)] } }
      else l)

/-- Entries older than their ages are forgotten. -/
def Lane.toolExpiry (l : Lane) (now : Nat) : Lane :=
  let nodes := l.host.nodes.filter (fun x => decide (now < x.2 + nodeAge))
  Lane.set { l with host := { l.host with dups := l.host.dups.filter (fun d => decide (now < d.2.2 + dupAge)), nodes := nodes } } F.HOST_TR_STAT.NODES
    nodes.length

/-- The tool-ring port of lane `i`, or the cross hop of the base, goes up or down; with PTP_PORT 3, PTP runs on TR1 while it
is up and else on TR2 (R55). -/
def State.trLink (s : State) (i : LaneId) (cross up : Bool) : State :=
  let put (j : LaneId) (l : Lane) : Lane :=
    let mine := cross || decide (j = i)
    let l1 := if mine ∧ l.sup.valid then (l.setB (if cross then F.HOST_TR_STAT.XHOP else F.HOST_TR_STAT.LINK) up).ev hostPage 5 else l
    let u := l1.time.trUp
    let v : Bool × Bool × Bool := if cross then (u.1, u.2.1, up) else if i = .A then (up, u.2.1, u.2.2) else (u.1, up, u.2.2)
    { l1 with time := { l1.time with trUp := v, tr2 := !v.1 && v.2.1 } }
  { s with a := put .A s.a, b := put .B s.b }

/-! ### Other frames (R55, R438) -/

/-- A frame that is no HAP arrives on the host port 0 or the record port 1: ARP for the own address 0 and ICMP echo 1 are
answered, every other is discarded. -/
def Lane.otherFrame (l : Lane) (port kind : Nat) : Lane :=
  if l.sup.valid ∧ 1 ≤ l.stage ∧ kind < 2 then { l with host := { l.host with answered := l.host.answered ++ [(port, kind)] } } else l

/-- A peer-delay request arrives in TDC bin `b`, and its answer leaves `d` ticks later in bin `b'`: both stamps, in 1/256 ns
(R52, R55). -/
def State.peerDelay (s : State) (i : LaneId) (b d b' : Nat) : State :=
  let l := s.lane i
  if l.sup.valid ∧ 1 ≤ l.stage then
    let stamp (l : Lane) (b : Nat) : Nat := let x := fineStamp l.time.acc l.incr b; x.1 * 256 + x.2
    let t2 := stamp l b
    let s1 := s.pass d
    s1.on i (fun m => { m with time := { m.time with peer := some (t2, stamp m b') } })
  else s

/-! ### Reads that meet an error (R430, R431) -/

/-- A read meets a codeword with an error: corrected, or reported and handled by region (R430, R431). -/
def Lane.readError (l : Lane) (c : Codeword) (by' : Reader) (now : Nat) : Lane :=
  let src := match by' with | .seat q => q % 8 | .dma _ _ _ => 0x1A | _ => 0x1B
  match c with
  | .sram n => l.sramError n src now
  | .die p rs n => l.dieError p rs n src
  | .dram i m near =>
    if dramWords ≤ i then l
    else
      let l0 := l.spoil i m
      let un := decide (4 < popcount 72 (l0.wrong i)) && near.isNone
      let l1 := l0.readNear i near src now
      match by' with
      | .dma ch k side => if un ∧ ch < 64 then l1.dmaFail ch k 3 (if side = 2 then 2 else 0) [] now else l1
      | .port => if un ∧ regionOf i = 1 then (l1.cnt F.REC_PORT_SKIP.COUNT 1).ev recPage 1 else l1
      | _ => l1

end Sys2Proof.Machine
end

