-- ==== Sys2Proof/Machine/Hap.lean ====
section
/-! DEFINITION. HAP (R438–R445): datagrams, sessions, requests and their ops, as one lane's host-link block serves them. -/

namespace Sys2Proof.Machine

/-! ### Datagrams (R439) -/

/-- A datagram: header fields, body, the bytes under the TAG, the TAG. -/
structure Dgram where
  ty : Nat
  flags : Nat
  seat : Nat
  session : Nat
  seq : Nat
  nops : Nat
  body : List Nat
  tagged : List Nat
  tag : List Nat
  deriving DecidableEq, Repr

/-- The datagram that bytes spell; none with a bad MAGIC, VER or length. -/
def Dgram.parse (bs : List Nat) : Option Dgram :=
  let n := leVal (slice bs 18 2)
  if 48 ≤ bs.length ∧ bs.take 3 = [0x48, 0x50, 1] ∧ bs.length = 48 + n ∧ bs.getD 5 0 < 8 then
    some ⟨bs.getD 3 0, bs.getD 4 0, bs.getD 5 0, leVal (slice bs 8 4), leVal (slice bs 12 4), leVal (slice bs 16 2), slice bs 32 n,
      bs.take (32 + n), bs.drop (32 + n)⟩
  else none

/-- The TAG holds under a key (R443). -/
def Dgram.holds (d : Dgram) (key : List Nat) : Bool := decide (d.tag = (Sha.hmac key d.tagged).take 16)

/-- An op of a body (R440). -/
structure RawOp where
  op : Nat
  size : Nat
  count : Nat
  addr : Nat
  data : List Nat
  deriving DecidableEq, Repr

/-- The ops of a body; none where it is malformed. -/
def parseOps : Nat → List Nat → Option (List RawOp)
  | 0, bs => if bs = [] then some [] else none
  | n + 1, bs =>
    let op := bs.getD 0 0
    let size := bs.getD 1 0
    let count := leVal (slice bs 2 2)
    let addr := leVal (slice bs 8 8)
    let len := if op = 2 then (2 ^ size * count + 7) / 8 * 8 else 0
    let rest := bs.drop 16
    if bs.length < 16 ∨ (op ≠ 1 ∧ op ≠ 2) ∨ 10 < size ∨ count = 0 ∨ 256 < count ∨ 2 ^ 40 ≤ addr ∨ rest.length < len then none
    else (parseOps n (rest.drop len)).map (fun t => ⟨op, size, count, addr, rest.take len⟩ :: t)

/-- Accesses of an op: address, size, data. -/
def RawOp.accesses (o : RawOp) : List (Nat × Nat × Nat) :=
  let n := 2 ^ o.size
  (List.range o.count).map (fun k => (o.addr + n * k, n, leVal (slice o.data (n * k) n)))

/-- The words of table and register writes of an op. -/
def RawOp.words (o : RawOp) : List (Nat × Word) :=
  if o.op = 2 then
    (o.accesses.map (fun x => if x.1 < 0x10000000 ∧ (x.2.1 = 4 ∨ x.2.1 = 8) then (List.range (x.2.1 / 4)).map (fun k => (x.1 + 4 * k, dataWord x.2.2 k)) else [])).flatten
  else []

/-- Words that an op would enter in the mirror set. -/
def Lane.mirCount (l : Lane) (seat : Nat) (o : RawOp) : Nat := (o.words.filter (fun x => l.mirrors seat x.1 x.2)).length

/-- Bytes of a response to the ops. -/
def respLen (os : List RawOp) : Nat := 48 + (os.map (fun o => 16 + (if o.op = 1 then (2 ^ o.size * o.count + 7) / 8 * 8 else 0))).sum

/-! ### Ops (R440–R442) -/

/-- An instance in soft reset answers a HAP op once it has completed (R27, log entry 1). -/
def State.ready (s : State) (acc : Acc) (addr : Nat) (write : Bool) : State :=
  if (s.lane acc.lane).busy addr write then s.softResetDone acc.lane (addr / 0x1000) else s

/-- One read of an op: state, op status so far, data so far. -/
def hapRead (acc : Acc) (x : State × Nat × List Nat) (a : Nat × Nat × Nat) : State × Nat × List Nat :=
  let r := (x.1.ready acc a.1 false).access acc a.1 a.2.1 false 0
  match r.1 with
  | .data v => (r.2, x.2.1, x.2.2 ++ leBytes a.2.1 v)
  | .poison => (r.2, (if x.2.1 = 0 then 7 else x.2.1), x.2.2)
  | _ => (r.2, (if x.2.1 = 0 then 5 else x.2.1), x.2.2)

/-- One write of an op is judged: state, op status so far, the writes to serve. -/
def hapJudge (acc : Acc) (x : State × Nat × List (Nat × Nat × Nat)) (a : Nat × Nat × Nat) : State × Nat × List (Nat × Nat × Nat) :=
  let r := (x.1.ready acc a.1 true).judge acc a.1 a.2.1 true a.2.2
  match r.1 with
  | none => (r.2, x.2.1, x.2.2 ++ [a])
  | some _ => (r.2, (if x.2.1 = 0 then 5 else x.2.1), x.2.2)

/-- An op runs; one that fails carries no data (log entry 50). -/
def State.runOp (s : State) (acc : Acc) (o : RawOp) : State × HapOp :=
  if o.op = 1 then
    let r := o.accesses.foldl (hapRead acc) (s, 0, [])
    (r.1, ⟨o.op, o.size, o.count, o.addr, r.2.1, if r.2.1 = 0 then r.2.2 else []⟩)
  else
    let r := o.accesses.foldl (hapJudge acc) (s, 0, [])
    let s1 := if r.2.2 = [] then r.1 else (r.1.doWrites acc r.2.2).2
    (s1, ⟨o.op, o.size, o.count, o.addr, r.2.1, []⟩)

/-- The ops of a request, in order. -/
def State.runOps (s : State) (acc : Acc) (os : List RawOp) : State × List HapOp :=
  os.foldl (fun (x : State × List HapOp) o => let r := x.1.runOp acc o; (r.1, x.2 ++ [r.2])) (s, [])

/-! ### Answers without a session (R442) -/

/-- A response with a status and no ops. Its TAG is keyed with the session key; without a session the manual names no key
and the TAG is free (log entry 9). -/
def State.hapStatus (s : State) (i : LaneId) (ip port seat session seq st : Nat) : State :=
  let l := s.lane i
  match l.sess seat with
  | some x => s.on i (fun l => l.hapSend ip port (hapBytes 0x02 0 seat st session seq 0 l.cycN [] x.key))
  | none =>
    let a := s.drawFree
    let b := a.2.drawFree
    let c := b.2.drawFree
    let d := c.2.drawFree
    let m := (hapBytes 0x02 0 seat st session seq 0 l.cycN [] []).take 32
    d.2.on i (fun l => l.hapSend ip port (m ++ ([a.1, b.1, c.1, d.1].map (fun w => leBytes 4 w.toNat)).flatten))

/-- A datagram whose TAG fails is dropped, counted, and logged once per second at most (R443). -/
def Lane.tagFail (l : Lane) (now : Nat) : Lane :=
  let l1 := (l.cnt F.HOST_HAP_COUNT.TAG_FAIL 1).ev hostPage 3
  let due := match l1.host.tagLog with | some t => decide (t + 400000000 ≤ now) | none => true
  if due then Lane.logEv { l1 with host := { l1.host with tagLog := some now } } hostPage 3 0 1 else l1

/-- HAP is served from S3 (R73, R74). -/
def Lane.hapUp (l : Lane) : Bool := l.sup.valid && decide (l.stage = 3)

/-! ### Requests (R441, R444) -/

/-- A request of a seat's session whose TAG holds. -/
def State.hapServe (s : State) (i : LaneId) (ip port : Nat) (urgent : Bool) (x : Sess) (d : Dgram) : State :=
  let h := (s.lane i).hapL d.seat
  let s1 := s.on i (fun l => l.setHapL { h with ip := ip, port := port })
  let fail (st : Nat) : State := s1.hapStatus i ip port d.seat x.num d.seq st
  match h.held.find? (fun r => r.1 == d.seq) with
  | some r => s1.on i (fun l => l.hapSend ip port r.2)
  | none =>
    if h.waits.any (fun w => w.seq == d.seq) then s1
    else if decide (d.seq + 32 ≤ h.hi.getD 0) then fail 4
    else if urgent && (decide (512 < d.tagged.length + 16) || decide (8 < d.nops)) then fail 1
    else match parseOps d.nops d.body with
      | none => fail 1
      | some os =>
        let l := s1.lane i
        if 1472 < respLen os then fail 1
        else if 1 < (os.filter (fun o => decide (0 < l.mirCount d.seat o))).length || os.any (fun o => decide (18 < l.mirCount d.seat o)) then fail 8
        else
          let acc : Acc := ⟨i, Fin.ofNat 8 d.seat, if urgent then .hapUrgent else .hapNormal, d.seq⟩
          let n := l.pair.oseq
          let r := s1.runOps acc os
          let s2 := r.1.on i (fun m => m.setHapL { m.hapL d.seat with hi := some (max ((m.hapL d.seat).hi.getD 0) d.seq) })
          let m := s2.lane i
          match m.pair.entries.find? (fun e => decide (n ≤ e.oseq ∧ e.origin = i)) with
          | some e =>
            if m.runs then
              s2.on i (fun k => k.setHapL { k.hapL d.seat with waits := (k.hapL d.seat).waits ++ [⟨d.seq, r.2, e.kind, e.key, k.cycN⟩] })
            else s2.on i (fun k => k.hapRespond d.seat d.seq r.2 k.cycN)
          | none => s2.on i (fun k => k.hapRespond d.seat d.seq r.2 k.cycN)

/-- A REQUEST datagram arrives at lane `i`: from an address and port, in a frame of PCP 7 or not, at a normal queue that is
full or not. -/
def State.hapRequest (s : State) (i : LaneId) (ip port : Nat) (pcp7 full : Bool) (bs : List Nat) : State :=
  if (s.lane i).hapUp = false ∨ 1472 < bs.length then s
  else match Dgram.parse bs with
    | none => s.hapStatus i ip port (bs.getD 5 0 % 8) 0 (leVal (slice bs 12 4)) 1
    | some d =>
      let urgent := pcp7 || decide (d.flags % 2 = 1)
      if full && !urgent then
        (s.on i (fun l => (l.cnt F.HOST_HAP_COUNT.DROPPED 1).ev hostPage 4)).hapStatus i ip port d.seat d.session d.seq 9
      else match (s.lane i).sess d.seat with
        | none => s.hapStatus i ip port d.seat d.session d.seq 3
        | some x =>
          if x.num ≠ d.session then s.hapStatus i ip port d.seat d.session d.seq 3
          else if d.ty ≠ 1 ∨ d.holds x.key = false then s.on i (fun l => l.tagFail s.now)
          else s.hapServe i ip port urgent x d

/-! ### Sessions (R443) -/

/-- An OPEN datagram: it enters the mirror set; the lane answers at its effect cycle. -/
def State.hapOpen (s : State) (i : LaneId) (ip port : Nat) (bs : List Nat) : State :=
  if (s.lane i).hapUp = false ∨ 1472 < bs.length then s
  else match Dgram.parse bs with
    | none => s.hapStatus i ip port (bs.getD 5 0 % 8) 0 (leVal (slice bs 12 4)) 1
    | some d =>
      match (s.lane i).seatKey d.seat with
      | none => s.on i (fun l => l.tagFail s.now)
      | some key =>
        if d.ty ≠ 0x10 ∨ d.holds key = false then s.on i (fun l => l.tagFail s.now)
        else if d.body.length ≠ 16 then s.hapStatus i ip port d.seat 0 d.seq 1
        else
          s.on i (fun l =>
            let l1 : Lane := { l with host := { l.host with opens := l.host.opens ++ [⟨d.seat, d.body, ip, port, d.seq⟩] } }
            (l1.enter (.hapOpen d.seat d.body) (some d.seat) 0).applyIdle (s.prime i) s.now)

/-- A CLOSE (0x12) or KEEPALIVE (0x13) datagram of a session: it enters the mirror set. -/
def State.hapSession (s : State) (i : LaneId) (ip port ty : Nat) (bs : List Nat) : State :=
  if (s.lane i).hapUp = false ∨ 1472 < bs.length then s
  else match Dgram.parse bs with
    | none => s.hapStatus i ip port (bs.getD 5 0 % 8) 0 (leVal (slice bs 12 4)) 1
    | some d =>
      match (s.lane i).sess d.seat with
      | none => s.hapStatus i ip port d.seat d.session d.seq 3
      | some x =>
        if x.num ≠ d.session then s.hapStatus i ip port d.seat d.session d.seq 3
        else if d.ty ≠ ty ∨ d.holds x.key = false then s.on i (fun l => l.tagFail s.now)
        else
          let acc : Acc := ⟨i, Fin.ofNat 8 d.seat, .hapNormal, d.seq⟩
          s.on i (fun l =>
            let l1 := l.setHapL { l.hapL d.seat with ip := ip, port := port }
            (l1.enter (if ty = 0x12 then .hapClose d.seat x.num else .hapAlive d.seat x.num) (some d.seat) (l1.accKey acc)).applyIdle (s.prime i) s.now)

/-- The session of a seat has been idle for HOST_HAP_CFG.IDLE_S, by cycle count. -/
def Lane.sessIdle (l : Lane) (q : Nat) : Lane :=
  match l.sess q with
  | none => l
  | some x => if l.get F.HOST_HAP_CFG.IDLE_S * 1000000000 ≤ (l.cycN - x.last) * l.period then l.endSession q else l

end Sys2Proof.Machine
end

