-- ==== Sys2Proof/Machine/Cmd.lean ====
section
/-! DEFINITION. What the commands share: a change of one lane with what follows from it, an access that writes a register,
the end of the window of a cycle, and the answers that wait for it. -/

namespace Sys2Proof.Machine

/-- The outcome of a command. -/
abbrev Out := Host.Outcome State Fault Refusal

/-- What happens in the hardware of a lane with a valid supply, with the ledger's answers and what the other lane makes of
a change of state. -/
def State.act (s : State) (i : LaneId) (f : Lane → Lane) : State :=
  if (s.lane i).sup.valid then s.leave i (fun l => (f l).settle s.now) else s

/-- What an instance that runs does: BLK_CTRL.ENABLE 0 stops it. -/
def State.actIn (s : State) (i : LaneId) (p : Nat) (f : Lane → Lane) : State :=
  if (s.lane i).flag (F.BLK_CTRL.ENABLE (instPage p)) then s.act i f else s

/-- A 32-bit write by a seat. -/
def State.put (s : State) (acc : Acc) (addr : Nat) (w : Word) : State := s.answer acc addr 4 true w.toNat

/-- A 32-bit write by a seat, with the field that makes it this command set to `v`. -/
def State.order (s : State) (acc : Acc) (f : Fld) (v : Nat) (w : Word) : State := s.put acc f.addr (withBits w f.hi f.lo v)

/-- Ledger answers are taken, and accesses that waited are served, on both lanes. -/
def State.tidy (s : State) : State :=
  let s1 : State := { s with a := s.a.settle s.now, b := s.b.settle s.now }
  (s1.serveHeld .A).serveHeld .B

/-- The compute of the cycle in progress comes to its end on the lanes that run. -/
def State.computed (s : State) : State := (s.window false false).each State.complete

end Sys2Proof.Machine
end

