-- ==== Sys2Proof/Machine/AnalogCmd.lean ====
section
/-! DEFINITION. Commands of the analogue inputs and outputs (chapter 11). -/

namespace Sys2Proof.Machine

/-- AIN_ACK (R273): a write of AIN_CTRL that sets ACK. -/
def execAinAck (acc : Acc) (data : Word) (s : State) : Out := .next (s.order acc F.AIN_CTRL.ACK 1 data)

/-- FULL_REQ (R281): a write of AIN_CTRL that sets FULL_REQ. -/
def execFullReq (acc : Acc) (data : Word) (s : State) : Out := .next (s.order acc F.AIN_CTRL.FULL_REQ 1 data)

/-- AIN_CH_CFG (R267): a write of AIN_CH_CFG of channel `ch`. -/
def execAinChCfg (acc : Acc) (ch : Nat) (data : Word) (s : State) : Out := .next (s.put acc (Reg.AIN_CH_CFG ch) data)

/-- OW_CURRENT_ON (R274): where the next boundary begins a slot, time passes to t_B − T_OW (log entry 1); the current of the
slot's channel starts. -/
def execOwCurrentOn (i : LaneId) (s : State) : Out :=
  let l := s.lane i
  if l.running ∧ (l.owSel (l.cycN + 1)).isSome then .next ((s.untilT i l.owStart).act i Lane.owNow) else .next (s.act i Lane.owNow)

/-- OW_CURRENT_OFF (R274): where a slot began at t_N, time passes to t_B + 1 µs (log entry 1); its current stops. -/
def execOwCurrentOff (i : LaneId) (s : State) : Out :=
  let l := s.lane i
  if l.running ∧ (l.owSel l.cycN).isSome then .next ((s.untilT i l.owEnd).act i Lane.owNow) else .next (s.act i Lane.owNow)

/-- AO_RB_FAULT (R284): time passes to 20 µs after the latch at t_N (log entry 1); output `ch` reads back `rb`, in code
units. -/
def execAoRbFault (i : LaneId) (ch : Nat) (rb : Int) (s : State) : Out :=
  let l := s.lane i
  let s1 := if l.running then s.untilT i (l.tOf l.cycN + 20000) else s
  if ch < 32 then .next (s1.act i (fun m => m.aoReadback ch rb)) else .next s

/-- FI_READY (R280): time passes to 100 µs after the grant (log entry 1). -/
def execFiReady (i : LaneId) (s : State) : Out :=
  match (s.lane i).ain.fiAt with
  | some t =>
    let s1 := s.untilTick (t + 40000)
    .next (s1.act i (fun l => l.fiReady s1.now))
  | none => .next s

/-- FILTER_HOLD (R266): precision channel `ch` of lane `i`, with FILT_K > 0, is held inside the period: time passes to the
channel's next hold instant (log entry 1) and it is converted. The last hold of a period is the boundary's; there is no other. -/
def execFilterHold (i : LaneId) (ch : Nat) (code : Int) (s : State) : Out :=
  let l := s.lane i
  let j := (l.convH ch).holds + 1
  if ch < 64 ∧ l.ainOn ch = true ∧ 0 < l.get (F.AIN_CH_CFG.FILT_K ch) ∧ l.running = true ∧ j < l.holdsDue ch then
    let t := l.holdAt ch (l.cycN + 1) j
    .next ((s.untilT i t).act i (fun m => m.convert ch code t))
  else .next s

/-- FAST_SAMPLE (R279): the fast converters of both lanes deliver a sample. Captures, comparators and over-range marks of a
lane use its own converters; fast rows use those of the primacy lane. -/
def execFastSample (ca cb : List (Nat × Int)) (s : State) : Out :=
  let s1 := (s.act .A (fun l => l.fastSample ca)).act .B (fun l => l.fastSample cb)
  match s1.base.primacy with
  | some h =>
    let codes := match h with | .A => ca | .B => cb
    if (s1.lane h).flag F.FI_CTRL.READY then
      .next { s1 with a := if s1.a.runs then s1.a.fastRow h.num codes else s1.a, b := if s1.b.runs then s1.b.fastRow h.num codes else s1.b }
    else .next s1
  | none => .next s1

end Sys2Proof.Machine
end

