-- ==== Sys2Proof/Machine/AxisCmd.lean ====
section
/-! DEFINITION. Commands of the motion axes (chapter 12). -/

namespace Sys2Proof.Machine

/-- AXIS_ENABLE (R294): a write of AXIS_CMD of axis `a` with CMD ENABLE. -/
def execAxisEnable (acc : Acc) (a : Nat) (data : Word) (s : State) : Out := .next (s.order acc (F.AXIS_CMD.CMD a) 1 data)

/-- AXIS_DISABLE (R294). -/
def execAxisDisable (acc : Acc) (a : Nat) (data : Word) (s : State) : Out := .next (s.order acc (F.AXIS_CMD.CMD a) 2 data)

/-- MOVE_ABS (R293). -/
def execMoveAbs (acc : Acc) (a : Nat) (data : Word) (s : State) : Out := .next (s.order acc (F.AXIS_CMD.CMD a) 3 data)

/-- MOVE_REL (R293). -/
def execMoveRel (acc : Acc) (a : Nat) (data : Word) (s : State) : Out := .next (s.order acc (F.AXIS_CMD.CMD a) 4 data)

/-- VELOCITY (R293). -/
def execVelocity (acc : Acc) (a : Nat) (data : Word) (s : State) : Out := .next (s.order acc (F.AXIS_CMD.CMD a) 5 data)

/-- FOLLOW (R293). -/
def execFollow (acc : Acc) (a : Nat) (data : Word) (s : State) : Out := .next (s.order acc (F.AXIS_CMD.CMD a) 6 data)

/-- AXIS_STOP (R295). -/
def execAxisStop (acc : Acc) (a : Nat) (data : Word) (s : State) : Out := .next (s.order acc (F.AXIS_CMD.CMD a) 7 data)

/-- QUICKSTOP (R295). -/
def execQuickstop (acc : Acc) (a : Nat) (data : Word) (s : State) : Out := .next (s.order acc (F.AXIS_CMD.CMD a) 8 data)

/-- HOME (R299). -/
def execHome (acc : Acc) (a : Nat) (data : Word) (s : State) : Out := .next (s.order acc (F.AXIS_CMD.CMD a) 9 data)

/-- AXIS_ACK (R294). -/
def execAxisAck (acc : Acc) (a : Nat) (data : Word) (s : State) : Out := .next (s.order acc (F.AXIS_CMD.CMD a) 10 data)

/-- AXIS_PE (R304): a write of `size` bytes to the axis parameter table. -/
def execAxisPe (acc : Acc) (addr size data : Nat) (s : State) : Out := .next (s.answer acc addr size true data)

/-- A direct axis of the module. -/
def directAxis (l : Lane) (a : Nat) : Bool := decide (a < 16) && decide (1 ≤ l.stage) && decide (l.motor a ≠ 2)

/-- The current loops of both lanes run at a PWM boundary of axis `a`. -/
def State.pwmBoth (s : State) (a : Nat) (dutiesA dutiesB : List Nat) : State :=
  let both := s.a.drives && s.b.drives
  let s1 := s.act .A (fun l => if directAxis l a then l.pwm a dutiesA dutiesB (s.prime .A) both else l)
  s1.act .B (fun l => if directAxis l a then l.pwm a dutiesB dutiesA (s.prime .B) both else l)

/-- PWM_BOUNDARY (R289, R290): time passes to the next PWM boundary of axis `a` in the cycle in progress, t_N + k × T_PWM
(log entry 1), at which the current loops of the lanes have computed these duties. After PWM_DIV of them the next is the
next cycle's; while no cycle runs, no gate is driven and a boundary may come at any time. -/
def execPwmBoundary (a : Nat) (dutiesA dutiesB : List Nat) (s : State) : Out :=
  match s.runner with
  | none => .next (s.pwmBoth a dutiesA dutiesB)
  | some i =>
    let l := s.lane i
    let k := (l.axHw a).k
    if k < l.pwmDiv a then .next ((s.untilT i (l.pwmAt a l.cycN k)).pwmBoth a dutiesA dutiesB) else .next s

/-- OVERCURRENT (R295): a current sample of axis `a`, in units of I_TRIP. -/
def execOvercurrent (i : LaneId) (a sample : Nat) (s : State) : Out :=
  .next (s.act i (fun l => if directAxis l a then l.overcurrent a sample else l))

/-- MCLK_FAULT (R291). -/
def execMclkFault (i : LaneId) (a : Nat) (s : State) : Out :=
  .next (s.act i (fun l => if directAxis l a then l.mclkFault a (s.prime i) else l))

/-- LIMIT_INPUT (R296): a raw transition of LIM_NEG (0), LIM_POS (1), HOME (2) or the index (3) of direct axis `a`, at an
encoder position, in TDC bin `bin`. -/
def execLimitInput (i : LaneId) (a which : Nat) (level : Bool) (pos : Int) (bin : Nat) (s : State) : Out :=
  .next (s.act i (fun l =>
    if directAxis l a && decide (which < 4) then l.limitInput a which level pos (fineStamp l.time.acc l.incr bin).1 else l))

end Sys2Proof.Machine
end

