-- ==== Sys2Proof/Machine/CaptCmd.lean ====
section
/-! DEFINITION. Commands of capture and trigger (chapter 15). -/

namespace Sys2Proof.Machine

/-- CAPT_ARM (R361): a write of CAPT_CTRL with CMD ARM. -/
def execCaptArm (acc : Acc) (data : Word) (s : State) : Out := .next (s.order acc F.CAPT_CTRL.CMD 1 data)

/-- CAPT_STOP (R360). -/
def execCaptStop (acc : Acc) (data : Word) (s : State) : Out := .next (s.order acc F.CAPT_CTRL.CMD 2 data)

/-- CAPT_ABORT (R360). -/
def execCaptAbort (acc : Acc) (data : Word) (s : State) : Out := .next (s.order acc F.CAPT_CTRL.CMD 3 data)

/-- CAPTURE_START (R361): time passes to T0 of the granted capture (log entry 1). -/
def execCaptureStart (i : LaneId) (s : State) : Out :=
  match (s.lane i).capt.startAt with
  | some t => .next ((s.untilT i t).actIn i captPage Lane.captStart)
  | none => .next s

/-- TRIGGER_FIRING (R358): the crossing or the edge of unit `u` of lane `i`, in a direction, in TDC bin `bin`. A DI unit
fires once its edge has qualified: time passes to that instant (log entry 1). -/
def execTriggerFiring (i : LaneId) (u : Nat) (rising : Bool) (bin : Nat) (s : State) : Out :=
  if u < 64 then
    let l := s.lane i
    let d := l.pip.line (l.get (F.CAPT_TU_CFG.SRC u))
    let s1 := if l.get (F.CAPT_TU_CFG.KIND u) = 1 ∧ d.raw = rising then s.untilTick (d.since + l.get (F.CAPT_TU_CFG.QUAL u) * 4) else s
    .next (s1.actIn i captPage (fun l => l.unitFires u rising bin (s1.prime i) s1.now))
  else .next s

/-- SEQ_TIMEOUT (R358): time passes to the end of the window of the sequencer's state (log entry 1). -/
def execSeqTimeout (i : LaneId) (s : State) : Out :=
  match (s.lane i).seqClose with
  | some c =>
    let s1 := s.untilT i ((c + 255) / 256)
    .next (s1.actIn i captPage (fun l => l.seqTimeouts (l.t64 * 256) 1))
  | none => .next s

/-- NO_TRIGGER (R361): time passes to T0 + ARM_MAX of an armed capture (log entry 1). -/
def execNoTrigger (i : LaneId) (s : State) : Out :=
  let l := s.lane i
  if l.captSt = 2 then
    let s1 := s.untilT i (l.capt.t0 + (l.rd Reg.CAPT_ARM_MAX).toNat * 1000000)
    .next (s1.actIn i captPage (fun l => l.captNoTrigger s1.now))
  else .next s

/-- CAPTURE_COMPLETE (R362). -/
def execCaptureComplete (i : LaneId) (s : State) : Out := .next (s.actIn i captPage (fun l => l.captComplete s.now))

/-- CAPTURE_HEADER (R364): time passes to 1 ms after the header's last periodic write (log entry 1). -/
def execCaptureHeader (i : LaneId) (s : State) : Out :=
  let l := s.lane i
  if l.capturing then .next ((s.untilT i (l.capt.headAt + 1000000)).actIn i captPage Lane.captPeriodic) else .next s

/-- CAPTURE_OVERRUN (R367). -/
def execCaptureOverrun (i : LaneId) (s : State) : Out := .next (s.actIn i captPage (fun l => l.captOverrun s.now))

end Sys2Proof.Machine
end

