-- ==== Sys2Proof/Machine/CycleCmd.lean ====
section
/-! DEFINITION. Commands of the cycle, its graph, its trace and the mirror set (chapters 05 and 06). -/

namespace Sys2Proof.Machine

/-- CYCLE_BOUNDARY (R132): what the inputs of both lanes show at t_N. -/
def execCycleBoundary (ia ib : BoundaryIn) (s : State) : Out := .next (((s.boundary ia ib).pinAll).tidy)

/-- RING_CUT (R134). -/
def execRingCut (s : State) : Out := .next (s.cut.tidy)

/-- COMPUTE_WINDOW (R135): staging may be late on a lane. -/
def execComputeWindow (lateA lateB : Bool) (s : State) : Out := .next (((s.window lateA lateB).held).tidy)

/-- A node of the current cycle that has not yet completed, been cut or withdrawn. -/
def Lane.nodeOpen (l : Lane) (n : Nat) : Bool := l.runs && l.inWindow && (l.selNodes l.cycN).contains n && (l.doneAt n).isNone

/-- The window of a lane has come to the instant at which node `n`, still open, meets its DEADLINE. -/
def Lane.atDeadline (l : Lane) (n : Nat) : Bool :=
  match l.nextEv l.cycN with
  | none => true
  | some e => decide (2 * l.ndDead n ≤ l.evAt l.cycN e) ||
      (match e with
       | .finish x => x.node == n
       | .withdrawn j => j == n
       | .cut j => j == n
       | .fire _ => false)

/-- NODE_FIRE (R144): the window of lane `i` runs on until node `n` has fired. -/
def execNodeFire (i : LaneId) (n : Nat) (s : State) : Out :=
  let s1 := s.window false false
  .next (if (s1.lane i).nodeOpen n then s1.runWindow i (fun m => m.served n || (m.doneAt n).isSome) else s1)

/-- NODE_COMPLETE (R144): the window of lane `i` runs on until node `n` has completed. -/
def execNodeComplete (i : LaneId) (n : Nat) (s : State) : Out :=
  let s1 := s.window false false
  .next (if (s1.lane i).nodeOpen n then s1.runWindow i (fun m => (m.doneAt n).isSome) else s1)

/-- NODE_CUT (R148): node `n`, of class 0, 2 or 3, is still open at its DEADLINE on the lanes named. -/
def execNodeCut (n : Nat) (cutA cutB : Bool) (s : State) : Out :=
  let s1 := s.window false false
  let due (c : Bool) (l : Lane) : Bool := c && l.nodeOpen n && decide (l.ndClass n ≠ 1)
  let come (c : Bool) (i : LaneId) (s : State) : State := if due c (s.lane i) then s.runWindow i (fun m => m.atDeadline n) else s
  let s2 := come cutB .B (come cutA .A s1)
  let go (c : Bool) (l : Lane) : Lane := if due c l then l.cutNode n else l
  .next ((State.judgeCuts { s2 with a := go cutA s2.a, b := go cutB s2.b }).tidy)

/-- ACTIVATION_WITHDRAWN (R199): LOGIC node `n` of lane `i` is still open at its DEADLINE. -/
def execActivationWithdrawn (i : LaneId) (n : Nat) (s : State) : Out :=
  let s1 := s.window false false
  if (s1.lane i).nodeOpen n && decide ((s1.lane i).ndClass n = 1) then
    .next ((s1.runWindow i (fun m => m.atDeadline n)).on i (fun l => if l.nodeOpen n then l.withdrawNode n l.cycN else l))
  else .next s1

/-- COMPUTE_COMPLETE (R106). -/
def execComputeComplete (i : LaneId) (s : State) : Out :=
  let s1 := s.window false false
  .next ((if (s1.lane i).runs then s1.complete i else s1).tidy)

/-- SNAPSHOT_COMPLETE (R139). -/
def execSnapshotComplete (i : LaneId) (s : State) : Out :=
  if (s.lane i).cyc.snapOf.isSome then .next ((s.on i Lane.snapDone).pinAll) else .next s

/-- SNAP_LATE (R139): the snapshot of the cycle before has not finished by the ring cut of this one; time passes to it (log
entry 1). -/
def execSnapLate (i : LaneId) (s : State) : Out :=
  let l := s.lane i
  if l.runs && decide (l.cyc.snapOf.map (· + 1) = some l.cycN) && !l.cyc.cutDone then .next ((s.untilT i l.cutAt).on i Lane.snapMissed)
  else .next s

/-- DIGEST_RECEIVE (R106): the other lane's next digest reaches lane `i`, whose own cycle has come to its compute. -/
def execDigestReceive (i : LaneId) (s : State) : Out :=
  if s.linked ∧ (s.lane i.other).pair.outDig ≠ [] then
    let s1 := s.computed
    .next ((s1.takeDig i).held)
  else .next s

/-- DIVERGENCE_DECISION (R116): at t_N+3 of the mismatched cycle, with the outcomes of the lanes' other tests. -/
def execDivergenceDecision (testA testB : Bool) (s : State) : Out :=
  match s.a.pair.check, s.runner with
  | some c, some i =>
    if c.cyc + 2 ≤ (s.lane i).cycN then
      let s1 := s.finishCycle
      .next ((((s1.untilT i ((s1.lane i).tOf (c.cyc + 3))).decideDiv testA testB).held).tidy)
    else .next s
  | _, _ => .next s

/-- The pair link counts as failed for lane `i` at instant `t` of its time, in the cycle in progress (R118, R119). -/
def State.missed (s : State) (i : LaneId) (t : Nat) : State :=
  let s1 := (s.computed).untilT i t
  (((s1.held).linkFail (s1.lane i).cycN).held).tidy

/-- DIGEST_DEADLINE (R106): a digest of an earlier cycle has not reached lane `i` by t_N+2. -/
def execDigestDeadline (i : LaneId) (s : State) : Out :=
  match (s.lane i.other).pair.outDig.head? with
  | some d => if (s.lane i).st = .paired ∧ d.1 + 1 ≤ (s.lane i).cycN then .next (s.missed i ((s.lane i).tOf (d.1 + 2))) else .next s
  | none => .next s

/-- SEAL_DEADLINE (R97): a seal of an earlier cycle has not reached lane `i` by t_N+2 − 2 µs. -/
def execSealDeadline (i : LaneId) (s : State) : Out :=
  match (s.lane i.other).pair.outSeal.head? with
  | some e => if (s.lane i).st = .paired ∧ e.cyc + 1 ≤ (s.lane i).cycN then .next (s.missed i ((s.lane i).tOf (e.cyc + 2) - 2000)) else .next s
  | none => .next s

/-- SAMPLED_DEADLINE (R97): the other lane's sampled part has not reached lane `i` by the end of the merge phase. -/
def execSampledDeadline (i : LaneId) (s : State) : Out :=
  let s1 := s.cut
  let l := s1.lane i
  if l.st = .paired ∧ l.cyc.cutDone = true ∧ l.cyc.merged = false ∧ l.pair.sampIn = none then
    let s2 := (s1.untilT i l.openAt).held
    .next ((((s2.linkFail l.cycN).held).each State.tryMerge).tidy)
  else .next s

/-- MIRROR_ENTRY (R96): the next entry or one-sided record reaches lane `i`. -/
def execMirrorEntry (i : LaneId) (s : State) : Out := if s.linked then .next (s.takeMsg i) else .next s

/-- SEAL (R100): the next seal reaches lane `i`; reads that waited at its sender are served. -/
def execSeal (i : LaneId) (s : State) : Out := if s.linked then .next ((s.takeSeal i).serveHeld i.other) else .next s

/-- SAMPLED_PART (R97). -/
def execSampledPart (i : LaneId) (s : State) : Out := if s.linked then .next ((s.takeSamp i).tidy) else .next s

/-- CYCLE_TRC_CTRL (R150). -/
def execCycleTrcCtrl (acc : Acc) (data : Word) (s : State) : Out := .next (s.put acc Reg.CYCLE_TRC_CTRL data)

/-- TRC_WINDFALL (R152): the full queue has drained a record, and the count of those dropped enters. -/
def execTrcWindfall (i : LaneId) (s : State) : Out :=
  .next (s.act i (fun l =>
    let d := if l.cyc.trc.q.length < 4096 then l else l.drainCycle
    let x := d.trcWindfall cycleTrc d.cyc.trc (fun n => cycTrcRec l.cycN 0xFFFF 0x1F 0 n 0 0 0)
    { x.1 with cyc := { x.1.cyc with trc := x.2 } }))

end Sys2Proof.Machine
end

