-- ==== Sys2Proof/Machine/DmaCmd.lean ====
section
/-! DEFINITION. Commands of the DMA engine (chapter 18). -/

namespace Sys2Proof.Machine

/-- DOORBELL (R422): a write of DMA_CH_CTRL of channel `n` that sets DOORBELL. -/
def execDoorbell (acc : Acc) (n : Nat) (data : Word) (s : State) : Out :=
  if n < 64 then .next (s.order acc (F.DMA_CH_CTRL.DOORBELL n) 1 data) else .next s

/-- DMA_PAUSE (R425): a write of DMA_CH_CTRL of channel `n`, whose PAUSE stops or resumes reading. -/
def execDmaPause (acc : Acc) (n : Nat) (data : Word) (s : State) : Out :=
  if n < 64 then .next (s.put acc (Reg.DMA_CH_CTRL n) data) else .next s

/-- DMA_RESUME (R424): a write of DMA_CH_CTRL of channel `n` that sets RESUME. -/
def execDmaResume (acc : Acc) (n : Nat) (data : Word) (s : State) : Out :=
  if n < 64 then .next (s.order acc (F.DMA_CH_CTRL.RESUME n) 1 data) else .next s

/-- DMA_ABORT (R424): a write of DMA_CH_CTRL of channel `n` that sets ABORT. -/
def execDmaAbort (acc : Acc) (n : Nat) (data : Word) (s : State) : Out :=
  if n < 64 then .next (s.order acc (F.DMA_CH_CTRL.ABORT n) 1 data) else .next s

/-- What channel `n` of a lane does while its instance runs. -/
def State.chan (s : State) (i : LaneId) (n : Nat) (f : Lane → Lane) : State := if n < 64 then s.actIn i (dmaPage n) f else s

/-- PAUSED (R425): reading of channel `n` stops after `k` more bytes, those of a host source given. -/
def execPaused (i : LaneId) (n k : Nat) (host : List Nat) (s : State) : Out := .next (s.chan i n (fun l => l.dmaPaused n k host s.now))

/-- DESCRIPTOR_FETCH (R423): a descriptor in host memory is given. -/
def execDescriptorFetch (i : LaneId) (n : Nat) (host : List Nat) (s : State) : Out := .next (s.chan i n (fun l => l.descFetch n host))

/-- DESC_DONE (R426): the bytes of a host source are given. -/
def execDescDone (i : LaneId) (n : Nat) (host : List Nat) (s : State) : Out := .next (s.chan i n (fun l => l.descDone n host s.now))

/-- The side of channel `n` has an access that may fail: 0 its source and 1 its destination while a descriptor is in service,
2 the fetch of the next one; `hostOnly` where the failure is one of host memory. A FIFO source does not time out. -/
def Lane.dmaSide (l : Lane) (n side : Nat) (hostOnly : Bool) : Bool :=
  let c := l.dmaC n
  match side with
  | 0 => c.next.isNone && (if hostOnly then decide (dSspace c.act = 1) else decide (dSspace c.act ≠ 2))
  | 1 => c.next.isNone && !hostOnly
  | 2 => (match c.next with | some (sp, _) => !hostOnly || decide (sp = 1) | none => false)
  | _ => false

/-- DMA_TIMEOUT (R424): an access of a side of channel `n` has no response within 4 µs, `k` more bytes having been moved. -/
def execDmaTimeout (i : LaneId) (n k side : Nat) (host : List Nat) (s : State) : Out :=
  .next (s.chan i n (fun l => if l.dmaSide n side false then l.dmaFail n k 1 side host s.now else l))

/-- DMA_COMPLETION_ERROR (R424): a host read of a side of channel `n` completes with UR, CA or poison, `k` more bytes having
been moved. -/
def execDmaCompletionError (i : LaneId) (n k side : Nat) (host : List Nat) (s : State) : Out :=
  .next (s.chan i n (fun l => if l.dmaSide n side true then l.dmaFail n k 2 side host s.now else l))

/-- DMA_FIFO_DATA (R421). -/
def execDmaFifoData (i : LaneId) (n : Nat) (s : State) : Out := .next (s.chan i n (fun l => l.dmaFifoData n s.now))

end Sys2Proof.Machine
end

