-- ==== Sys2Proof/Machine/FifoCmd.lean ====
section
/-! DEFINITION. Commands of the FIFOs (chapter 17). -/

namespace Sys2Proof.Machine

/-- FIFO_WR (R405): a write of FIFO_WR of FIFO `f`. -/
def execFifoWr (acc : Acc) (f : Nat) (data : Word) (s : State) : Out :=
  if f < 256 then .next (s.put acc (Reg.FIFO_WR f) data) else .next s

/-- FIFO_WR_END (R405): a write of FIFO_WR_END of FIFO `f`. -/
def execFifoWrEnd (acc : Acc) (f : Nat) (data : Word) (s : State) : Out :=
  if f < 256 then .next (s.put acc (Reg.FIFO_WR_END f) data) else .next s

/-- FIFO_FLUSH (R405): time passes until FLUSH_US have gone by without a write of FIFO `f` (log entry 1). -/
def execFifoFlush (i : LaneId) (f : Nat) (s : State) : Out :=
  if f < 256 ∧ ((s.lane i).fifo f).held ≠ [] then
    let s1 := s.untilTick (((s.lane i).fifo f).last + (s.lane i).get (F.FIFO_CFG.FLUSH_US f) * 400)
    .next (s1.actIn i (fifoPage f) (fun l => l.fifoFlush f s1.now))
  else .next s

/-- FIFO_RD_0 (R407): a read of `size` bytes at FIFO_RD_0 of FIFO `f`. -/
def execFifoRd0 (acc : Acc) (f size : Nat) (s : State) : Out :=
  if f < 256 then .next (s.answer acc (Reg.FIFO_RD_0 f) size false 0) else .next s

end Sys2Proof.Machine
end

