-- ==== Sys2Proof/Machine/HostCmd.lean ====
section
/-! DEFINITION. Commands of the host links (chapters 3 and 19). -/

namespace Sys2Proof.Machine

/-- PCIE_BINDING_END (R435): link down 0, hot reset 1, FLR 2, Memory Space Enable or Bus Master Enable cleared 3. -/
def execPcieBindingEnd (i : LaneId) (cause : Nat) (s : State) : Out := .next (s.act i (fun l => l.pcieEnd cause (s.prime i) s.now))

/-- PCIE_LINK_UP (R435): with a link width and speed. -/
def execPcieLinkUp (i : LaneId) (width speed : Nat) (s : State) : Out := .next (s.act i (fun l => l.pcieUp width speed))

/-- DSTATE_CHG (R415): to D0 (0) or D3hot (3). -/
def execDstateChg (i : LaneId) (d : Nat) (s : State) : Out := .next (s.act i (fun l => l.dstate d))

/-- HAP_REQUEST (R441): the bytes of a REQUEST datagram from an address and port, in a frame of PCP 7 or not, at a normal
queue that is full or not. -/
def execHapRequest (i : LaneId) (ip port : Nat) (pcp7 full : Bool) (bytes : List Nat) (s : State) : Out :=
  .next (s.hapRequest i ip port pcp7 full bytes)

/-- HAP_OPEN (R443). -/
def execHapOpen (i : LaneId) (ip port : Nat) (bytes : List Nat) (s : State) : Out := .next (s.hapOpen i ip port bytes)

/-- HAP_CLOSE (R443). -/
def execHapClose (i : LaneId) (ip port : Nat) (bytes : List Nat) (s : State) : Out := .next (s.hapSession i ip port 0x12 bytes)

/-- HAP_KEEPALIVE (R443). -/
def execHapKeepalive (i : LaneId) (ip port : Nat) (bytes : List Nat) (s : State) : Out := .next (s.hapSession i ip port 0x13 bytes)

/-- SESSION_IDLE (R443): the session of seat `q` on both lanes. -/
def execSessionIdle (q : Nat) (s : State) : Out := .next ((s.act .A (fun l => l.sessIdle q)).act .B (fun l => l.sessIdle q))

/-- HALT_REQ (R446): asserted for 1 µs at lane `i`. -/
def execHaltReq (i : LaneId) (s : State) : Out := .next (s.on i (fun l => l.haltPin true))

/-- HALT_RELEASE (R380). -/
def execHaltRelease (i : LaneId) (s : State) : Out := .next (s.on i (fun l => l.haltPin false))

/-- SOFT (R446): a write of HOST_HALT. -/
def execSoft (acc : Acc) (data : Word) (s : State) : Out := .next (s.put acc Reg.HOST_HALT data)

/-- COMMIT_SVN (R449): a write of HOST_SEC_CTRL that sets COMMIT_SVN. -/
def execCommitSvn (acc : Acc) (data : Word) (s : State) : Out := .next (s.order acc F.HOST_SEC_CTRL.COMMIT_SVN 1 data)

/-- KEY_CHG (R450): a write of HOST_SEC_CTRL that sets KEY_CHG; the key-change statement in the image store gives the hash of
the new key, and whether the old key has signed it. -/
def execKeyChg (acc : Acc) (data : Word) (stmt : Option (Nat × Bool)) (s : State) : Out :=
  .next ((s.on acc.lane (fun l => { l with host := { l.host with stmt := stmt.orElse (fun _ => l.host.stmt) } })).order acc
    F.HOST_SEC_CTRL.KEY_CHG 1 data)

/-- TOOL_RING_FRAME (R447): an HSR frame at lane `i`, by its own port or over the cross hop, with its source address and
sequence number, and what it is for. -/
def execToolRingFrame (i : LaneId) (cross : Bool) (src seq : Nat) (toModule toOthers supervision : Bool) (s : State) : Out :=
  .next (s.toolFrame i cross src seq toModule toOthers supervision)

/-- HSR_SUPERVISION (R447). -/
def execHsrSupervision (s : State) : Out := .next s.toolSupervision

/-- HSR_ENTRY_EXPIRY (R447): time passes to the first entry that ages out (log entry 1). -/
def execHsrEntryExpiry (i : LaneId) (s : State) : Out :=
  let h := (s.lane i).host
  match ((h.dups.map (fun d => d.2.2 + dupAge)) ++ h.nodes.map (fun x => x.2 + nodeAge)).min? with
  | some t =>
    let s1 := s.untilTick t
    .next (s1.act i (fun l => l.toolExpiry s1.now))
  | none => .next s

/-- ARP_REQUEST (R438): an ARP request for the own address (0) or an ICMP echo request (1), on the host port (0) or the
record port (1); any other frame is discarded. -/
def execArpRequest (i : LaneId) (port kind : Nat) (s : State) : Out := .next (s.act i (fun l => l.otherFrame port kind))

/-- PEER_DELAY (R55): a request in TDC bin `b`, its answer `d` ticks later in bin `b'`. -/
def execPeerDelay (i : LaneId) (b d b' : Nat) (s : State) : Out := .next (s.peerDelay i b d b')

/-- TR_LINK (R55): the tool-ring port of lane `i`, or the cross hop. -/
def execTrLink (i : LaneId) (cross up : Bool) (s : State) : Out := .next (s.trLink i cross up)

end Sys2Proof.Machine
end

