-- ==== Sys2Proof/Machine/IrqCmd.lean ====
section
/-! DEFINITION. Commands of the interrupt controller (chapter 18). -/

namespace Sys2Proof.Machine

/-- IRQ_LEVEL_RISE (R410): the level of source `src`, driven now, goes to 1. -/
def execIrqLevelRise (i : LaneId) (src : Nat) (s : State) : Out :=
  .next (s.actIn i irqPage (fun l => if l.levels.contains src then l.irqSample src true s.now else l))

/-- IRQ_SET (R410): a write of word `k` of IRQ_SET. -/
def execIrqSet (acc : Acc) (k : Nat) (data : Word) (s : State) : Out :=
  if k < 32 then .next (s.put acc (Reg.IRQ_SET k) data) else .next s

/-- IRQ_PEND (R410): a write of word `k` of IRQ_PEND. -/
def execIrqPend (acc : Acc) (k : Nat) (data : Word) (s : State) : Out :=
  if k < 32 then .next (s.put acc (Reg.IRQ_PEND k) data) else .next s

/-- IRQ_MASK (R413): a write of word `k` of IRQ_MASK. -/
def execIrqMask (acc : Acc) (k : Nat) (data : Word) (s : State) : Out :=
  if k < 32 then .next (s.put acc (Reg.IRQ_MASK k) data) else .next s

/-- IRQ_ROUTE (R412): a write of IRQ_ROUTE of source `src`. -/
def execIrqRoute (acc : Acc) (src : Nat) (data : Word) (s : State) : Out :=
  if src < 1024 then .next (s.put acc (Reg.IRQ_ROUTE src) data) else .next s

/-- TARGET_WAKE (R415): target `t` wakes. -/
def execTargetWake (i : LaneId) (t : Nat) (s : State) : Out := .next (s.actIn i irqPage (fun l => l.targetWake t))

/-- WAKE_TIMEOUT (R415): time passes to 50 µs after the first wake request of target `t` (log entry 1). -/
def execWakeTimeout (i : LaneId) (t : Nat) (s : State) : Out :=
  match (((s.lane i).irq.waits.filter (fun w => decide (w.target = t ∧ w.fallback = false))).map Wait.since).min? with
  | some t0 =>
    let s1 := s.untilTick (t0 + 20000)
    .next (s1.actIn i irqPage (fun l => l.wakeTimeout t s1.now))
  | none => .next s

end Sys2Proof.Machine
end

