-- ==== Sys2Proof/Machine/LedgerCmd.lean ====
section
/-! DEFINITION. Commands of the power ledger (R87–R92). -/

namespace Sys2Proof.Machine

/-- The earliest of a list of ticks. -/
def earliest (ts : List Nat) (dflt : Nat) : Nat := ts.min?.getD dflt

/-- A request of an operation: a mirrored one of a lane that runs cycles is entered in the mirror set, and both ledgers decide
it at its effect cycle (R91); any other reaches the lane's own ledger. -/
def Lane.ledgerRequest (l : Lane) (cls quanta dur who now : Nat) : Lane :=
  if mirroredClass cls && l.runs then (if l.hasClass cls then l.enter (.ledger cls (classSize cls quanta) dur who) none 0 else l)
  else l.ledgerAsk cls quanta dur who now

/-- LEDGER_REQUEST (R90, R91): a request of class `cls` for `dur` ns by `who`; `quanta` tells the ports of a PHY_TRAIN request. -/
def execLedgerRequest (i : LaneId) (cls quanta dur who : Nat) (s : State) : Out :=
  .next (s.act i (fun l => l.ledgerRequest cls quanta dur who s.now))

/-- REVOKED_STOP (R91). -/
def execRevokedStop (i : LaneId) (s : State) : Out := .next (s.act i (fun l => l.ledgerStopped s.now))

/-- LEDGER_WAIT (R90): time passes until a waiting request has outlasted its class's LEDGER_WAIT (log entry 1). -/
def execLedgerWait (i : LaneId) (s : State) : Out :=
  let l := s.lane i
  let ms (r : LReq) : Nat := l.get (F.LEDGER_WAIT.MS r.cls)
  let s1 := s.untilTick (earliest ((l.ledger.waiting.filter (fun r => decide (ms r ≠ 0xFFFF))).map (fun r => r.since + ms r * 400000 + 1)) s.now)
  .next (s1.act i (fun m => m.ledgerTimeout s1.now))

/-- GRANT_END (R89): time passes to the end of the first grant (log entry 1). -/
def execGrantEnd (i : LaneId) (s : State) : Out :=
  let s1 := s.untilTick (earliest ((s.lane i).ledger.grants.map (fun g => g.g + ticksOf g.req.dur)) s.now)
  .next (s1.act i (fun m => m.ledgerEnd s1.now))

/-- LEDGER_RELEASE (R90). -/
def execLedgerRelease (i : LaneId) (cls who : Nat) (s : State) : Out := .next (s.act i (fun l => l.ledgerRelease cls who s.now))

/-- OVER_MEAS (R92): the lane has drawn `mw` for 10 ms, more than its budget of 250 mW a quantum. -/
def execOverMeas (i : LaneId) (mw : Nat) (s : State) : Out :=
  .next (s.act i (fun l =>
    let l1 := l.set F.LEDGER_MEAS.MW (min mw 65535)
    if l.get F.LEDGER_STAT.BUDGET * 250 < mw then Lane.ev { l1 with ledger := { l1.ledger with excess := true } } ledgerPage 2 else l1))

/-- OVER_MEAS_CLEAR (R92): the lane has drawn `mw` for 100 ms, less than its budget. -/
def execOverMeasClear (i : LaneId) (mw : Nat) (s : State) : Out :=
  .next (s.act i (fun l =>
    let l1 := l.set F.LEDGER_MEAS.MW (min mw 65535)
    if mw < l.get F.LEDGER_STAT.BUDGET * 250 then Lane.ledgerServe { l1 with ledger := { l1.ledger with excess := false } } s.now else l1))

end Sys2Proof.Machine
end

