-- ==== Sys2Proof/Machine/LogicCmd.lean ====
section
/-! DEFINITION. Commands of cyclic programs and of the image exchange (chapter 08). -/

namespace Sys2Proof.Machine

/-- LOGIC_RUN (R194): a write of LOGIC_PCTL of program `p` with CMD RUN. -/
def execLogicRun (acc : Acc) (p : Nat) (data : Word) (s : State) : Out := .next (s.order acc (F.LOGIC_PCTL.CMD (p / 16) (p % 16)) 1 data)

/-- LOGIC_HOLD (R194). -/
def execLogicHold (acc : Acc) (p : Nat) (data : Word) (s : State) : Out := .next (s.order acc (F.LOGIC_PCTL.CMD (p / 16) (p % 16)) 2 data)

/-- LOGIC_STOP (R194). -/
def execLogicStop (acc : Acc) (p : Nat) (data : Word) (s : State) : Out := .next (s.order acc (F.LOGIC_PCTL.CMD (p / 16) (p % 16)) 3 data)

/-- LOGIC_STEP (R194). -/
def execLogicStep (acc : Acc) (p : Nat) (data : Word) (s : State) : Out := .next (s.order acc (F.LOGIC_PCTL.CMD (p / 16) (p % 16)) 4 data)

/-- PREPARE (R205): a write of LOGIC_EXCH_CTRL that sets PREPARE. -/
def execPrepare (acc : Acc) (data : Word) (s : State) : Out := .next (s.order acc F.LOGIC_EXCH_CTRL.PREPARE 1 data)

/-- EXCH_READY (R205): lane `i` finishes its checks of the image set `im` that stands in its image store. -/
def execExchReady (i : LaneId) (im : ImageSet) (s : State) : Out := .next (s.act i (fun l => l.exchReady im))

/-- COMMIT (R206). -/
def execCommit (acc : Acc) (data : Word) (s : State) : Out := .next (s.order acc F.LOGIC_EXCH_CTRL.COMMIT 1 data)

/-- ABANDON (R206). -/
def execAbandon (acc : Acc) (data : Word) (s : State) : Out := .next (s.order acc F.LOGIC_EXCH_CTRL.ABANDON 1 data)

/-- TRIAL_START (R209). -/
def execTrialStart (acc : Acc) (data : Word) (s : State) : Out := .next (s.order acc F.LOGIC_TRIAL_CTRL.START 1 data)

/-- TRIAL_STOP (R211). -/
def execTrialStop (acc : Acc) (data : Word) (s : State) : Out := .next (s.order acc F.LOGIC_TRIAL_CTRL.STOP 1 data)

end Sys2Proof.Machine
end

