-- ==== Sys2Proof/Machine/MemCmd.lean ====
section
/-! DEFINITION. Commands of memory integrity (chapter 19). -/

namespace Sys2Proof.Machine

/-- SCRUB (R432): the scrubber reads its next codeword, in which the bytes of `mask` have gone wrong; a word in error in more
than 4 bytes that lies within 4 bytes of another codeword reads as `near` (R429). -/
def execScrub (i : LaneId) (mask : Nat) (near : Option (List Nat)) (s : State) : Out :=
  .next (s.actIn i memiPage (fun l => if 1 ≤ l.stage then l.scrub mask near s.now else l))

/-- UNCORRECTABLE_READ (R431): a read by a master other than the scrubber meets a codeword with an error. -/
def execUncorrectableRead (i : LaneId) (c : Codeword) (reader : Reader) (s : State) : Out :=
  .next (s.act i (fun l => l.readError c reader s.now))

/-- ON_DIE_SCRUB (R432): in an on-die memory of the instance of a page, a codeword with `wrong` wrong bytes (Reed–Solomon) or
bits (SEC-DED) is found. -/
def execOnDieScrub (i : LaneId) (page : Nat) (rs : Bool) (wrong : Nat) (s : State) : Out :=
  .next (s.act i (fun l => l.dieError page rs wrong 0x1B))

end Sys2Proof.Machine
end

