-- ==== Sys2Proof/Machine/PairCmd.lean ====
section
/-! DEFINITION. Commands of the pair: primacy, leaving, the pair link, rejoin, firmware exchange (chapter 05). -/

namespace Sys2Proof.Machine

/-- PRIMACY_GRANT (R107): time passes to the end of the request's REF period (log entry 1); merges that waited for a holder
follow. -/
def execPrimacyGrant (s : State) : Out :=
  let s1 := if s.base.primacy.isNone then s.untilTick s.grantFrom else s
  .next (((s1.grant).each State.tryMerge).tidy)

/-- PRIMACY_WITHDRAW (R108). -/
def execPrimacyWithdraw (s : State) : Out :=
  match s.withdrawCause with
  | some c => .next (s.withdraw c)
  | none => .next s

/-- TOGGLE_STOP (R108). -/
def execToggleStop (s : State) : Out := .next (s.withdraw 5)

/-- SELECTOR_OPEN (R283): 1 µs after primacy was withdrawn no lane holds it. -/
def execSelectorOpen (s : State) : Out :=
  match s.base.freeAt with
  | some t =>
    let s1 := s.untilTick (t + 400)
    .next (State.aoShow { s1 with base := { s1.base with aoSel := none } })
  | none => .next s

/-- TRANSFER (R110): a write of PAIR_CTRL that sets TRANSFER. -/
def execTransfer (acc : Acc) (data : Word) (s : State) : Out := .next (s.order acc F.PAIR_CTRL.TRANSFER 1 data)

/-- LEAVE (R113): a write of PAIR_CTRL that sets LEAVE. -/
def execLeave (acc : Acc) (data : Word) (s : State) : Out := .next (s.order acc F.PAIR_CTRL.LEAVE 1 data)

/-- EJECTOR_OPEN (R113). -/
def execEjectorOpen (i : LaneId) (s : State) : Out := .next (s.ejectorOpen i)

/-- EJECTOR_CLOSE (R113). -/
def execEjectorClose (i : LaneId) (s : State) : Out := .next (s.ejectorClose i)

/-- CARTRIDGE_REMOVED (R113). -/
def execCartridgeRemoved (i : LaneId) (s : State) : Out := .next ((s.cartRemoved i).held)

/-- FW_START (R126): a write of PAIR_CTRL that sets FW_START, the package first in the image stores of both lanes. -/
def execFwStart (acc : Acc) (data : Word) (pkg : Option FwPkg) (s : State) : Out :=
  let s1 : State := match pkg with
    | some p => { s with a := s.a.fwPackage p, b := s.b.fwPackage p }
    | none => s
  .next (s1.order acc F.PAIR_CTRL.FW_START 1 data)

/-- LINK_CHG (R118): pair-link lane `n`. -/
def execLinkChg (n : Nat) (up : Bool) (s : State) : Out := if n < 4 then .next (s.linkChg n up) else .next s

/-- REJOIN_BEGIN (R121). -/
def execRejoinBegin (i : LaneId) (s : State) : Out := .next (s.rejoinAuto i)

/-- RJ_START (R121): a write of PAIR_RJ_CTRL that sets START. -/
def execRjStart (acc : Acc) (data : Word) (s : State) : Out := .next (s.order acc F.PAIR_RJ_CTRL.START 1 data)

/-- RJ_ABORT (R123): a write of PAIR_RJ_CTRL that sets ABORT. -/
def execRjAbort (acc : Acc) (data : Word) (s : State) : Out := .next (s.order acc F.PAIR_RJ_CTRL.ABORT 1 data)

/-- REJOIN_TIMEOUT (R123). -/
def execRejoinTimeout (i : LaneId) (s : State) : Out := .next ((s.rejoinTimeout i).held)

/-- REJOIN_SET (R121). -/
def execRejoinSet (i : LaneId) (s : State) : Out := .next (s.rejoinSet i)

/-- REPLAY_CYCLE (R122). -/
def execReplayCycle (i : LaneId) (s : State) : Out := .next (s.replayCycle i)

/-- FIRMWARE_RECEIVE (R124): `signed` tells whether the received firmware's signature is good. -/
def execFirmwareReceive (i : LaneId) (signed : Bool) (s : State) : Out := .next (s.firmwareReceive i signed)

/-- PIP_STATE_RECORD (R348). -/
def execPipStateRecord (i : LaneId) (s : State) : Out := .next (s.pipRecord i)

end Sys2Proof.Machine
end

