-- ==== Sys2Proof/Machine/PbusCmd.lean ====
section
/-! DEFINITION. Commands of the priority buses (chapter 13). -/

namespace Sys2Proof.Machine

/-- A change of the controller of bus `n` on lane `h`; a new state enters the mirror set as a status entry (R314). -/
def State.busCtlOf (s : State) (h : LaneId) (n : Nat) (f : Lane → Lane) : State :=
  s.act h (fun l => (f l).busTell (l.pctl n).st n)

/-- A change of the controller of bus `n` on the primacy lane. -/
def State.busCtl (s : State) (n : Nat) (f : Lane → Lane) : State :=
  match s.base.primacy with
  | some h => s.busCtlOf h n f
  | none => s

/-- The lane that transmits on bus `n`: the old holder, while it completes a frame after a planned handover (R111). -/
def State.sender (s : State) (n : Nat) : Option LaneId :=
  match s.base.primacy with
  | some h => some (if (s.lane h.other).flag (F.PBUS_STAT.TRANSMITTER n) && ((s.lane h.other).attempt n).isSome then h.other else h)
  | none => none

/-- PBUS_ARBITRATION (R309): at an idle of bus `n` the primacy lane offers a frame. -/
def execPbusArbitration (n : Nat) (s : State) : Out :=
  if n < 12 then
    let s1 := s.busIdle n
    match s1.base.primacy with
    | some h =>
      let l := s1.lane h
      if l.mayTx n && l.flag (F.PBUS_STAT.TRANSMITTER n) && (l.attempt n).isNone then
        match l.offered n with
        | some f => .next ((s1.act h (fun m => m.begin n f.obj)).act h.other (fun m => if m.st = .paired then m.begin n f.obj else m))
        | none => .next s1
      else .next s1
    | none => .next s1
  else .next s

/-- What a lane does with an accepted frame: `own` of an attempt that it transmits, `tx` if it holds primacy; the stamp is
`age` ticks back, in TDC bin `bin` (R308–R313). -/
def Lane.busAccept (l : Lane) (n : Nat) (f : BusFrame) (own tx : Bool) (age bin : Nat) : Lane :=
  let st := fineStamp (l.time.acc - age * l.incr) l.incr bin
  let l1 := if l.isOwn n f || (!tx && (l.attempt n).isNone) then l.frameSent n f own else l.attemptFails n true (l.counted n)
  let l2 := if own || tx then (l1.busOk n own).busTell (l1.pctl n).st n else l1
  let r := l2.frameSeen n f own st.1 st.2
  match r.2 with
  | some p =>
    if !r.1.running then r.1
    else if tx then r.1.enterRx n st.1 p
    else { r.1 with pbus := { r.1.pbus with seen := r.1.pbus.seen ++ [(r.1.cycN, p)] } }
  | none => r.1

/-- PBUS_FRAME_ACCEPTED (R313): frame `f` on bus `n`, its start of frame `age` ticks back, in the TDC bins of the lanes. -/
def execPbusFrameAccepted (n : Nat) (f : BusFrame) (age binA binB : Nat) (s : State) : Out :=
  if n < 12 then
    let own (i : LaneId) : Bool := (s.lane i).flag (F.PBUS_STAT.TRANSMITTER n) && (s.lane i).isOwn n f
    let take (s : State) (i : LaneId) (bin : Nat) : State :=
      if 1 ≤ (s.lane i).stage then s.act i (fun l => l.busAccept n f (own i) (s.prime i) age bin) else s
    .next (take (take s .A binA) .B binB)
  else .next s

/-- Both lanes count an error frame on bus `n`. -/
def State.errFrame (s : State) (n : Nat) : State :=
  let f (l : Lane) : Lane := if 1 ≤ l.stage then l.cnt (F.PBUS_ERR.ERR_FRAMES n) 1 else l
  { s with a := f s.a, b := f s.b }

/-- PBUS_ERROR (R312): the attempt on bus `n` ends in an error that raises TEC by `dTec`. -/
def execPbusError (n dTec : Nat) (s : State) : Out :=
  match s.sender n with
  | some h =>
    if n < 12 ∧ ((s.lane h).attempt n).isSome then
      let c := (s.lane h).counted n
      .next (((s.errFrame n).busCtlOf h n (fun l => (l.attemptFails n false (l.counted n)).busErr n dTec 0)).act h.other (fun l => l.trackFails n c))
    else .next s
  | none => .next s

/-- RECOVERED (R316). -/
def execRecovered (n : Nat) (s : State) : Out := .next (s.busCtl n (fun l => l.busRecovered n))

/-- PBUS_CANCEL (R311): a write of PBUS_OBJ_CMD of bus `n` with CMD CANCEL. -/
def execPbusCancel (acc : Acc) (n : Nat) (data : Word) (s : State) : Out := .next (s.order acc (F.PBUS_OBJ_CMD.CMD n) 1 data)

/-- PBUS_SEND (R311). -/
def execPbusSend (acc : Acc) (n : Nat) (data : Word) (s : State) : Out := .next (s.order acc (F.PBUS_OBJ_CMD.CMD n) 2 data)

/-- REC_REQ (R316): a write of PBUS_CTRL of bus `n` that sets REC_REQ. -/
def execRecReq (acc : Acc) (n : Nat) (data : Word) (s : State) : Out := .next (s.order acc (F.PBUS_CTRL.REC_REQ n) 1 data)

/-- RECEIVE_ERROR (R316): a frame on bus `n` is received with an error that raises REC by `dRec`. -/
def execReceiveError (n dRec : Nat) (s : State) : Out :=
  if n < 12 ∧ s.base.primacy.isSome then .next ((s.errFrame n).busCtl n (fun l => if (l.pctl n).st < 2 then l.busErr n 0 dRec else l)) else .next s

end Sys2Proof.Machine
end

