-- ==== Sys2Proof/Machine/RecCmd.lean ====
section
/-! DEFINITION. Commands of the signal record and the event log (chapter 16). -/

namespace Sys2Proof.Machine

/-- PUNNET_SEND (R381): from S3 on (R73). -/
def execPunnetSend (i : LaneId) (s : State) : Out :=
  if (s.lane i).stage = 3 then .next (s.actIn i recPage Lane.punnetSend) else .next s

/-- ARP_RESOLVE (R381): the record port's link is `up`; its destination answers with `mac`, or not. -/
def execArpResolve (i : LaneId) (up : Bool) (mac : Option Nat) (s : State) : Out := .next (s.actIn i recPage (fun l => l.arpResolve up mac))

/-- FLASH_WRITE (R383). -/
def execFlashWrite (i : LaneId) (s : State) : Out := .next (s.actIn i recPage (fun l => l.flashWrite s.now))

/-- LOG_FLASH_WRITE (R387): the oldest `n` buffered records. -/
def execLogFlashWrite (i : LaneId) (n : Nat) (s : State) : Out := .next (s.act i (fun l => l.logFlash n))

/-- LOG_WINDFALL (R388). -/
def execLogWindfall (i : LaneId) (s : State) : Out := .next (s.act i Lane.logWindfall)

/-- LOG_RD_GO (R387): a write of LOG_RD_CTRL that sets GO. -/
def execLogRdGo (acc : Acc) (data : Word) (s : State) : Out := .next (s.order acc F.LOG_RD_CTRL.GO 1 data)

/-- LOG_RD_COPY (R387): a write of LOG_RD_CTRL that sets COPY. -/
def execLogRdCopy (acc : Acc) (data : Word) (s : State) : Out := .next (s.order acc F.LOG_RD_CTRL.COPY 1 data)

/-- RD_DONE (R387). -/
def execRdDone (i : LaneId) (s : State) : Out := .next (s.actIn i recPage Lane.logDone)

/-- OP_MS_REWRITE (R385). -/
def execOpMsRewrite (i : LaneId) (s : State) : Out := .next (s.act i Lane.opRewrite)

end Sys2Proof.Machine
end

