-- ==== Sys2Proof/Machine/RecipeCmd.lean ====
section
/-! DEFINITION. Commands of recipe channels (chapter 09). -/

namespace Sys2Proof.Machine

/-- RECIPE_START (R217): a write of RECIPE_CH_CMD of channel `c` with CMD START. -/
def execRecipeStart (acc : Acc) (c : Nat) (data : Word) (s : State) : Out := .next (s.order acc (F.RECIPE_CH_CMD.CMD c) 1 data)

/-- RECIPE_HOLD (R230). -/
def execRecipeHold (acc : Acc) (c : Nat) (data : Word) (s : State) : Out := .next (s.order acc (F.RECIPE_CH_CMD.CMD c) 2 data)

/-- RECIPE_RESUME (R231). -/
def execRecipeResume (acc : Acc) (c : Nat) (data : Word) (s : State) : Out := .next (s.order acc (F.RECIPE_CH_CMD.CMD c) 3 data)

/-- RECIPE_ABORT (R232). -/
def execRecipeAbort (acc : Acc) (c : Nat) (data : Word) (s : State) : Out := .next (s.order acc (F.RECIPE_CH_CMD.CMD c) 4 data)

end Sys2Proof.Machine
end

