-- ==== Sys2Proof/Machine/RingCmd.lean ====
section
/-! DEFINITION. Commands of the field rings (chapter 10). -/

namespace Sys2Proof.Machine

/-- RING_FRAME_RECEIVE (R249, R342): a copy reaches lane `i` on ring `r`, on its end port or over the cross hop, its FCS
good or not, its SFD `sfd` and its last byte `ret` ns after t_N. A copy later than the ring cut comes after it. -/
def execRingFrameReceive (i : LaneId) (r : Nat) (endPort fcs : Bool) (sfd ret : Nat) (bytes : List Nat) (s : State) : Out :=
  if r < 24 ∧ 1 ≤ (s.lane i).stage then
    let s1 := if (s.lane i).runs ∧ (s.lane i).get F.CYCLE_TRING.NS ≤ ret then s.cut else s
    .next (s1.act i (fun l => (l.ringReceive r endPort fcs sfd ret bytes).sksHand r bytes))
  else .next s

/-- RING_STA_ABSENT (R252): a write of RING_STA_CMD of station `p` that sets ABSENT. -/
def execRingStaAbsent (acc : Acc) (r p : Nat) (data : Word) (s : State) : Out := .next (s.order acc (F.RING_STA_CMD.ABSENT r p) 1 data)

/-- RING_STA_RETURN (R254): a write of RING_STA_CMD of station `p` that sets RETURN. -/
def execRingStaReturn (acc : Acc) (r p : Nat) (data : Word) (s : State) : Out := .next (s.order acc (F.RING_STA_CMD.RETURN r p) 1 data)

/-- RING_LINK_CHG (R258): the end port (0), the cross hop to the other lane (1) or from it (2). -/
def execRingLinkChg (i : LaneId) (r which : Nat) (up : Bool) (s : State) : Out :=
  if r < 24 ∧ which < 3 ∧ 1 ≤ (s.lane i).stage then .next (s.act i (fun l => l.ringLink r which up s.now)) else .next s

/-- PHY_TRAIN_DONE (R258): the port of ring `r` comes up in a mode. -/
def execPhyTrainDone (i : LaneId) (r mode : Nat) (s : State) : Out :=
  if r < 24 then .next (s.act i (fun l => l.trainDone r mode s.now)) else .next s

/-- PHY_TRAIN_RETRY (R88): time passes to 1 s after the refusal (log entry 1). -/
def execPhyTrainRetry (i : LaneId) (r : Nat) (s : State) : Out :=
  match (s.lane i).ring.train.find? (fun x => x.1 == r) with
  | some x =>
    let s1 := s.untilTick (x.2 + 400000000)
    .next (s1.act i (fun l => l.trainRetry r s1.now))
  | none => .next s

end Sys2Proof.Machine
end

