-- ==== Sys2Proof/Machine/SafeCmd.lean ====
section
/-! DEFINITION. Commands of the interlock pips and the base's safety outputs (chapter 14, R463). -/

namespace Sys2Proof.Machine

/-- The primacy lane enters the stamp, in TDC bin `b` of this tick, of an edge that a program of the running image reads (R53). -/
def Lane.diStamp (l : Lane) (i b : Nat) (prime : Bool) : Lane :=
  if prime && l.running && ((l.image.map ImageSet.diStamps).getD []).contains i then
    let st := fineStamp l.time.acc l.incr b
    l.enter (.stamp i st.1 st.2) none (stampKey i st.1)
  else l

/-- DI_EDGE (R53, R325, R326): the level of DI `n` changes at both lanes. The lanes' TDC bins of the edge are free (log
entry 165). -/
def execDiEdge (n : Nat) (level : Bool) (s : State) : Out :=
  if n < 128 then
    let bin := s.drawFree
    let go (i : LaneId) (l : Lane) : Lane :=
      let changes := decide ((l.pip.line n).raw ≠ level)
      let l1 := l.diEdge n level s.now
      if changes then l1.diStamp n (bin.1.toNat % 16) (s.prime i) else l1
    .next ((bin.2.act .A (go .A)).act .B (go .B))
  else .next s

/-- CHANNEL_Y_PASS (R318): time passes to T_Y = 20 µs after the pass before (log entry 1). -/
def execChannelYPass (i : LaneId) (s : State) : Out :=
  let l := s.lane i
  if l.flag F.SAFE_STAT.PIP_RUN = true ∧ l.sup.valid = true then
    let s1 := s.untilTick (l.pip.yAt + 8000)
    .next (s1.act i (fun l => ({ l with pip := { l.pip with yAt := s1.now } }).pipEval false s1.now))
  else .next s

/-- A pip fault, with what the lane does at its instant (R320). -/
def State.pipFault (s : State) (i : LaneId) (cause index : Nat) : State :=
  ((s.on i (fun l => l.pipFail cause index s.now)).fail i).held

/-- PIP_FAULT (R320): with cause 0x01 time passes until a command mismatch has outlasted its DISC_TIME (log entry 1); the
causes 0x02, 0x03, 0x04 and 0x0A are failed checks. A table check that fails before PIP_RUN latches ERR_CODE 0x43. -/
def execPipFault (i : LaneId) (cause index : Nat) (s : State) : Out :=
  let l := s.lane i
  if l.sup.valid = false ∨ l.pip.faultAt.isSome = true then .next s
  else if cause = 1 then
    match l.flag F.SAFE_STAT.PIP_RUN, l.pip.mismatch with
    | true, some x => .next ((s.untilTick x.2).pipFault i 1 x.1)
    | _, _ => .next s
  else if cause = 2 ∧ l.flag F.SAFE_STAT.PIP_RUN = false then
    .next ((s.on i (fun l => l.err safePage 0x43 0x11 Reg.SAFE_STAT)).pipFault i 2 index)
  else if cause ∈ [2, 3, 4, 0xA] then .next (s.pipFault i cause index)
  else .next s

/-- OFF_DELAY (R325): time passes to the end of an off-delay that runs on output `n` of lane `i` (log entry 1). -/
def execOffDelay (i : LaneId) (n : Nat) (s : State) : Out :=
  let h := (s.lane i).pip
  match (h.x.out n).delay, (h.y.out n).delay with
  | none, none => .next s
  | x, y =>
    let t := max (x.getD 0) (y.getD 0) + h.bank.offDelay n
    let s1 := s.untilTick t
    .next (s1.act i (fun l => (l.pipEval true s1.now).pipEval false s1.now))

/-- EDM_FAULT (R325): time passes to the end of the FB_TIME window of output `n` of lane `i`, in which its feedback is missing
(log entry 1). -/
def execEdmFault (i : LaneId) (n : Nat) (s : State) : Out :=
  let h := (s.lane i).pip
  match (h.x.out n).fb, (h.y.out n).fb with
  | none, none => .next s
  | x, y =>
    let s1 := s.untilTick (max ((x.map Prod.fst).getD 0) ((y.map Prod.fst).getD 0) + h.bank.fbTime n)
    .next (s1.act i (fun l => l.edmFail n s1.now))

/-- PAIR_FAULT (R327): time passes to the end of DISC of pair `k` of lane `i`, of which one input permits (log entry 1). -/
def execPairFault (i : LaneId) (k : Nat) (s : State) : Out :=
  let h := (s.lane i).pip
  match (h.x.pair k).single, (h.y.pair k).single with
  | none, none => .next s
  | x, y =>
    let s1 := s.untilTick (max (x.getD 0) (y.getD 0) + bits (h.bank.di (2 * k)) 31 24 * 4000000)
    .next (s1.act i (fun l => l.pairFail k s1.now))

/-- SKS_PDU (R340): channel X (0) or Y (1) takes the next PDU handed to it. -/
def execSksPdu (i : LaneId) (ch : Nat) (s : State) : Out :=
  if ch < 2 then .next (s.act i (fun l => l.sksTake ch s.now)) else .next s

/-- SKS_EXPIRY (R341): time passes to the earliest deadline of a channel's connections (log entry 1). -/
def execSksExpiry (i : LaneId) (ch : Nat) (s : State) : Out :=
  let dead := (((s.lane i).pip.chan (ch == 0)).conns.filter (fun e => decide (e.st ≠ 0))).map PConn.dead
  match dead.min? with
  | some t =>
    let s1 := s.untilTick t
    if ch < 2 then .next (s1.act i (fun l => l.sksExpire ch s1.now)) else .next s
  | none => .next s

/-- SWITCH_TEST (R334): time passes to test instant `m` of lane `i` (log entry 1). -/
def execSwitchTest (i : LaneId) (m : Nat) (s : State) : Out :=
  let l := s.lane i
  if l.pip.aligned = true ∧ l.testNs ≠ 0 ∧ l.sup.valid = true then
    let s1 := s.untilT i (l.testAt m)
    .next (s1.act i (fun l => l.switchTest m s1.now s1.outOn))
  else .next s

/-- SWITCH_TEST_END (R334): 200 µs after the opening; `res` gives, for an output, 0 good, 1 stuck closed, 2 stuck open. -/
def execSwitchTestEnd (i : LaneId) (res : List (Nat × Nat)) (s : State) : Out :=
  match (s.lane i).pip.testing with
  | some x =>
    let s1 := s.untilTick (x.2.1 + 80000)
    .next (s1.act i (fun l => l.switchJudge (res.map (fun e => (e.1, min e.2 2))) s1.now))
  | none => .next s

/-- TO_READBACK (R335): TO line `n` has differed from its counting commands for more than 1 µs. -/
def execToReadback (i : LaneId) (n : Nat) (s : State) : Out :=
  if n < 16 then .next (s.act i (fun l => l.toFail (64 + n) s.now)) else .next s

/-- A bridge is closed while both lanes assert PRESENT: a switch fault (R331). -/
def State.bridgeBad (s : State) : Bool := (s.base.brA || s.base.brB) && s.a.start.present && s.b.start.present

/-- LANE_COMPARE (R336): each lane compares the command vectors over the pair link. -/
def execLaneCompare (s : State) : Out :=
  let bad (l : Lane) : Lane :=
    if s.bridgeBad && !(l.rd (Reg.EV_PEND safePage)).getLsbD 5 then (l.ev safePage 5).logEv safePage 5 0xFFFF 1 else l
  let cmp (l o : Lane) : Lane := if s.linked then l.laneCompare o.pip s.now else l
  .next ((s.act .A (fun l => bad (cmp l s.b))).act .B (fun l => bad (cmp l s.a)))

/-- BRIDGE_CHG (R332): the base bridges or frees slot `i` as R331 calls for. -/
def execBridgeChg (i : LaneId) (s : State) : Out :=
  let want := s.wantBridge i
  if s.counts i = want then
    let b : Base := match i with | .A => { s.base with brA := want } | .B => { s.base with brB := want }
    let s1 : State := { s with base := b }
    .next ((s1.act .A (fun l => l.ev safePage 9)).act .B (fun l => l.ev safePage 9))
  else .next s

/-- SAFE_LOAD (R328): the matrix image `im`, placed in the image stores of both lanes, and a write of SAFE_LOAD_CTRL that sets
LOAD. -/
def execSafeLoad (acc : Acc) (data : Word) (im : Option MatrixImg) (s : State) : Out :=
  let place (l : Lane) : Lane := match im with | some m => { l with pip := { l.pip with store := some m } } | none => l
  let s1 : State := { s with a := place s.a, b := place s.b }
  .next (s1.order acc F.SAFE_LOAD_CTRL.LOAD 1 data)

/-- LOAD_DONE (R328): `okX` and `okY` tell whether the banks read back as written. -/
def execLoadDone (i : LaneId) (okX okY : Bool) (s : State) : Out := .next (s.act i (fun l => l.loadDone okX okY))

/-- SAFE_ACTIVATE (R328): a write of SAFE_LOAD_CTRL that sets ACTIVATE. -/
def execSafeActivate (acc : Acc) (data : Word) (s : State) : Out := .next (s.order acc F.SAFE_LOAD_CTRL.ACTIVATE 1 data)

/-- ACTIVATED (R328, R329): time passes to t_E of the accepted activation (log entry 1), on both lanes. -/
def execActivated (s : State) : Out :=
  let go (s : State) (i : LaneId) : State :=
    match (s.lane i).pip.actAt with
    | some e =>
      let s1 := s.untilT i (((s.lane i).tOf e + 39) / 40 * 40)
      s1.act i (fun l => l.activated s1.now)
    | none => s
  .next (go (go s .A) .B)

/-- SO_OVERLOAD (R463): SO output `n` turns itself off. -/
def execSoOverload (n : Nat) (s : State) : Out :=
  if n < 64 ∧ s.outOn n = true then .next { s with base := { s.base with soOver := (n, s.now) :: s.base.soOver } } else .next s

/-- OVERLOAD_RETRY (R463): 100 ms after it turned off, SO output `n` retries (log entry 1). -/
def execOverloadRetry (n : Nat) (s : State) : Out :=
  match s.base.soOver.find? (fun x => x.1 == n) with
  | some x =>
    let s1 := s.untilTick (x.2 + 40000000)
    .next { s1 with base := { s1.base with soOver := s1.base.soOver.filter (fun y => y.1 != n) } }
  | none => .next s

end Sys2Proof.Machine
end

