-- ==== Sys2Proof/Machine/SeatCmd.lean ====
section
/-! DEFINITION. Commands of the common page header, of the seats and of accesses in general (chapter 02). -/

namespace Sys2Proof.Machine

/-- LOCK_KEY (R29): a write of the key register of a page. -/
def execLockKey (acc : Acc) (page : Nat) (data : Word) (s : State) : Out := .next (s.put acc (Reg.LOCK_KEY page) data)

/-- KEY_WINDOW (R29): the window of the key that a seat has open on the instance of a page ends; time passes to its end
(log entry 1). -/
def execKeyWindow (i : LaneId) (seat page : Nat) (s : State) : Out :=
  match (s.lane i).acc.keys.find? (fun k => k.seat == seat && k.inst == instPage page) with
  | some k =>
    match k.st with
    | .opened t => .next ((s.untilTick (t + 512)).on i (fun l => { l with acc := { l.acc with keys := l.acc.keys.erase k } }))
    | .first => .next s
  | none => .next s

/-- SOFT_RESET (R27): a write of BLK_CTRL that sets SOFT_RESET. -/
def execSoftReset (acc : Acc) (page : Nat) (data : Word) (s : State) : Out := .next (s.order acc (F.BLK_CTRL.SOFT_RESET page) 1 data)

/-- SOFT_RESET_DONE (R27). -/
def execSoftResetDone (i : LaneId) (page : Nat) (s : State) : Out := .next (s.softResetDone i page)

/-- FREEZE (R26): a write of BLK_CTRL, for its FREEZE. -/
def execFreeze (acc : Acc) (page : Nat) (data : Word) (s : State) : Out := .next (s.put acc (Reg.BLK_CTRL page) data)

/-- ENABLE (R26, R32): a write of BLK_CTRL, for its ENABLE. -/
def execEnable (acc : Acc) (page : Nat) (data : Word) (s : State) : Out := .next (s.put acc (Reg.BLK_CTRL page) data)

/-- EV_SET (R24). -/
def execEvSet (acc : Acc) (page : Nat) (data : Word) (s : State) : Out := .next (s.put acc (Reg.EV_SET page) data)

/-- EV_PEND (R24). -/
def execEvPend (acc : Acc) (page : Nat) (data : Word) (s : State) : Out := .next (s.put acc (Reg.EV_PEND page) data)

/-- ERR_CODE_CLR (R28): a write of ERR_CODE that sets CLR. -/
def execErrCodeClr (acc : Acc) (page : Nat) (data : Word) (s : State) : Out := .next (s.order acc (F.ERR_CODE.CLR page) 1 data)

/-- CLAIM (R38): a write of SEAT_CLAIM of seat page `q` with RELEASE 0. -/
def execClaim (acc : Acc) (q : Nat) (data : Word) (s : State) : Out := .next (s.order acc (F.SEAT_CLAIM.RELEASE q) 0 data)

/-- TOKEN_RELEASE (R39): a write of SEAT_CLAIM of seat page `q` with RELEASE 1. -/
def execTokenRelease (acc : Acc) (q : Nat) (data : Word) (s : State) : Out := .next (s.order acc (F.SEAT_CLAIM.RELEASE q) 1 data)

/-- SEAT_TOKEN_QUERY (R476). -/
def execSeatTokenQuery (acc : Acc) (q : Nat) (data : Word) (s : State) : Out := .next (s.put acc (Reg.SEAT_TOKEN_QUERY q) data)

/-- SEAT_VIOL_INFO (R43): a write of SEAT_VIOL_INFO with VALID 1. -/
def execSeatViolInfo (acc : Acc) (q : Nat) (data : Word) (s : State) : Out := .next (s.order acc (F.SEAT_VIOL_INFO.VALID q) 1 data)

/-- SEAT_RIGHTS_PAGE (R37): a write of a rights register of seat page `q`, the one at offset `off`. -/
def execSeatRightsPage (acc : Acc) (q off : Nat) (data : Word) (s : State) : Out :=
  if q < 8 ∧ 0x400 ≤ off ∧ off < 0x1000 then .next (s.put acc (0x1000 * (0x40 + q) + off) data) else .next s

/-- REGISTER_WRITE (R33): a write of `size` bytes of a register, of a table window or of lane DRAM. -/
def execRegisterWrite (acc : Acc) (addr size data : Nat) (s : State) : Out := .next (s.answer acc addr size true data)

/-- SEAT_READ (R40): a read of `size` bytes of a register, of a table window or of lane DRAM. -/
def execSeatRead (acc : Acc) (addr size : Nat) (s : State) : Out := .next (s.answer acc addr size false 0)

/-- LOOP_TABLE_WRITE (R183): a write to a loop table window. -/
def execLoopTableWrite (acc : Acc) (addr size data : Nat) (s : State) : Out := .next (s.answer acc addr size true data)

end Sys2Proof.Machine
end

