-- ==== Sys2Proof/Machine/StartCmd.lean ====
section
/-! DEFINITION. Commands of the start and the supply of a lane (chapter 04). -/

namespace Sys2Proof.Machine

/-- CARTRIDGE_SEATED (R113): cartridge `c` in the slot of lane `i`. -/
def execCartridgeSeated (i : LaneId) (c : Cart) (s : State) : Out := .next (s.cartSeated i c)

/-- SUPPLY_VALID (R71, R83, R448). -/
def execSupplyValid (i : LaneId) (s : State) : Out := .next (s.supplyValid i)

/-- SUPPLY_CHG (R72): the second supply entry or the first reads `v`, in 0.2 V units. -/
def execSupplyChg (i : LaneId) (second : Bool) (v : Nat) (s : State) : Out := .next (s.on i (fun l => l.supplyChg second v s.now))

/-- RIDE_THROUGH (R72). -/
def execRideThrough (i : LaneId) (s : State) : Out := .next (s.on i (fun l => l.rideThrough s.now))

/-- SUPPLY_LOSS (R72). -/
def execSupplyLoss (i : LaneId) (s : State) : Out := .next ((s.supplyLoss i).held)

/-- PIP_RUN (R319). -/
def execPipRun (i : LaneId) (s : State) : Out := .next (s.pipRun i)

/-- STAGE_S1 (R73). -/
def execStageS1 (i : LaneId) (s : State) : Out := .next (s.stageS1 i)

/-- STAGE_S2 (R73). -/
def execStageS2 (i : LaneId) (s : State) : Out := .next (s.stageS2 i)

/-- STAGE_S3 (R73). -/
def execStageS3 (i : LaneId) (s : State) : Out := .next (s.stageS3 i)

/-- PLL_LOSS (R46). -/
def execPllLoss (i : LaneId) (s : State) : Out := .next (s.fail i)

/-- FAULT_DWELL (R113): time passes to the end of the dwell (log entry 1). -/
def execFaultDwell (i : LaneId) (s : State) : Out :=
  let l := s.lane i
  if l.st = .faulted ∧ l.flag F.SYS_CTRL.HOLD_FAULTED = false then .next ((s.untilTick (l.start.faultedAt + l.dwell)).faultReset i)
  else .next s

/-- LANE_RESET (R84): a write of SYS_CTRL that sets LANE_RESET. -/
def execLaneReset (acc : Acc) (data : Word) (s : State) : Out := .next (s.order acc F.SYS_CTRL.LANE_RESET 1 data)

/-- HOLD_FAULTED (R85): a write of SYS_CTRL that clears HOLD_FAULTED. -/
def execHoldFaulted (acc : Acc) (data : Word) (s : State) : Out := .next (s.order acc F.SYS_CTRL.HOLD_FAULTED 0 data)

/-- RESET_RELEASE (R80). -/
def execResetRelease (i : LaneId) (s : State) : Out := .next ((s.on i (fun l => l.release s.now)).lines)

/-- SNAPSHOT_EXCHANGE (R81). -/
def execSnapshotExchange (s : State) : Out := .next s.snapshotExchange

/-- WARM_RESUME (R82). -/
def execWarmResume (i : LaneId) (s : State) : Out := .next ((s.warmResume i).tidy)

/-- GRID_ORIGIN (R130). -/
def execGridOrigin (i : LaneId) (s : State) : Out := .next (s.gridOrigin i)

end Sys2Proof.Machine
end

