-- ==== Sys2Proof/Machine/TimeCmd.lean ====
section
/-! DEFINITION. Commands of the time block (chapter 03). -/

namespace Sys2Proof.Machine

/-- TIME_TRIGGER (R64): time passes to the target of trigger `n` of lane `i` (log entry 1), which fires if it is armed. -/
def execTimeTrigger (i : LaneId) (n : Nat) (s : State) : Out :=
  if n < 32 ∧ (s.lane i).sup.valid = true ∧ (s.lane i).flag (F.TT_CTRL.ARM n) = true then
    let s1 := s.untilT i ((s.lane i).trig n).next
    .next (s1.act i (fun l => if l.ttDue n then l.ttFire n (s1.prime i) s1.now else l))
  else .next s

/-- TT_CTRL (R65): a write of TT_CTRL of trigger `n`. -/
def execTtCtrl (acc : Acc) (n : Nat) (data : Word) (s : State) : Out := .next (s.put acc (Reg.TT_CTRL n) data)

/-- TT_TGT_HI (R66): a write of TT_TGT_HI of trigger `n`. -/
def execTtTgtHi (acc : Acc) (n : Nat) (data : Word) (s : State) : Out := .next (s.put acc (Reg.TT_TGT_HI n) data)

/-- TIME_CTRL (R472). -/
def execTimeCtrl (acc : Acc) (data : Word) (s : State) : Out := .next (s.put acc Reg.TIME_CTRL data)

/-- TIME_SET_HI (R66). -/
def execTimeSetHi (acc : Acc) (data : Word) (s : State) : Out := .next (s.put acc Reg.TIME_SET_HI data)

/-- TIME_SERVO_UPDATE (R57): an offset `off` in ns against the reference, and its UTC word. -/
def execTimeServoUpdate (i : LaneId) (off : Int) (utc : Word) (s : State) : Out := .next (s.act i (fun l => l.servo off utc))

/-- REF_LOST (R55). -/
def execRefLost (i : LaneId) (s : State) : Out := .next (s.act i Lane.refLost)

/-- PPS_IN (R56): an edge in TDC bin `bin` of this tick. -/
def execPpsIn (i : LaneId) (bin : Nat) (s : State) : Out := .next (s.act i (fun l => l.ppsIn bin s.now))

/-- PAIR_TIME_MARKER (R60, R61): a marker exchange at lane `i`, which follows. At the third miss in a row the lane stops
driving at the next cycle boundary. -/
def execPairTimeMarker (i : LaneId) (t1 t2 t3 t4 asym : Int) (s : State) : Out :=
  let l := s.lane i
  if l.sup.valid ∧ l.leads = false ∧ s.linked = true then
    let r := l.marker t1 t2 t3 t4 asym
    let s1 := s.setLane i r.1
    if r.2 then
      let s2 := s1.computed
      let s3 := s2.untilT i ((s2.lane i).tOf ((s2.lane i).cycN + 1))
      .next ((s3.leave i (fun m => if m.st = .paired then m.toShadow s3.now else m)).held)
    else .next s1
  else .next s

/-- TIME_NOW_LO (R70): a read of `size` bytes of a LO register of a 64-bit pair. -/
def execTimeNowLo (acc : Acc) (addr size : Nat) (s : State) : Out :=
  if (hiOf addr).isSome then .next (s.answer acc addr size false 0) else .next s

end Sys2Proof.Machine
end

