-- ==== Sys2Proof/Machine/WorkCmd.lean ====
section
/-! DEFINITION. Commands of the service cores and their scheduler (chapter 17). -/

namespace Sys2Proof.Machine

/-- WORK_SUBMIT (R393): a write of WORK_SUB_7. -/
def execWorkSubmit (acc : Acc) (data : Word) (s : State) : Out := .next (s.put acc (Reg.WORK_SUB 7) data)

/-- WORK_DISPATCH (R395). -/
def execWorkDispatch (i : LaneId) (s : State) : Out := .next (s.actIn i workPage (fun l => l.workDispatch s.now))

/-- WORK_DONE (R399): the item on `core`. -/
def execWorkDone (i : LaneId) (core : Nat) (s : State) : Out :=
  .next ((s.actIn i workPage (fun l => l.workDone core (s.prime i) s.now)).on i (fun l => l.applyIdle (s.prime i) s.now))

/-- DELAY_TICK (R398): time passes to the next multiple of 10,000 ns of TIME64 that the scheduler has not taken (log
entry 1). -/
def execDelayTick (i : LaneId) (s : State) : Out :=
  let l := s.lane i
  let s1 := s.untilT i (if l.work.tickAt < l.t64 / 10000 then l.t64 else (l.t64 / 10000 + 1) * 10000)
  .next (s1.actIn i workPage (fun l => l.delayTick s1.now))

/-- WORK_CANCEL (R396): a write of WORK_CANCEL_HI. -/
def execWorkCancel (acc : Acc) (data : Word) (s : State) : Out := .next (s.put acc Reg.WORK_CANCEL_HI data)

/-- BOOST_REQUEST (R397): time passes until the item ready longest has waited WAIT_US (log entry 1). -/
def execBoostRequest (i : LaneId) (s : State) : Out :=
  let l := s.lane i
  match (l.work.queue.filterMap Item.ready).min? with
  | some t =>
    let s1 := s.untilTick (t + l.get F.WORK_BOOST.WAIT_US * 400)
    .next (s1.actIn i workPage (fun l => l.boostRequest s1.now))
  | none => .next s

/-- BOOST_RELEASE (R397): time passes until cores 8 to 15 have been idle for IDLE_MS (log entry 1). -/
def execBoostRelease (i : LaneId) (s : State) : Out :=
  let l := s.lane i
  if l.granted 6 0 && !(l.work.cores.any (fun c => decide (8 ≤ c.core))) then
    let s1 := s.untilTick (l.work.idle + l.get F.WORK_BOOST.IDLE_MS * 400000)
    .next (s1.actIn i workPage (fun l => l.boostRelease s1.now))
  else .next s

/-- ACYC_TIMEOUT (R390): time passes until the ring requests of the item on `core` have waited 100 ms (log entry 1). -/
def execAcycTimeout (i : LaneId) (core : Nat) (s : State) : Out :=
  match (s.lane i).work.cores.find? (fun c => c.core == core) with
  | some c =>
    if c.bad = none ∧ c.tags ≠ [] then
      let s1 := s.untilTick (c.since + 40000000)
      .next ((s1.actIn i workPage (fun l => l.acycTimeout core (s1.prime i) s1.now)).on i (fun l => l.applyIdle (s1.prime i) s1.now))
    else .next s
  | none => .next s

/-- WORK_TRC_WINDFALL (R403). -/
def execWorkTrcWindfall (i : LaneId) (s : State) : Out := .next (s.act i Lane.workTrcWindfall)

end Sys2Proof.Machine
end

