-- ==== Sys2Proof/Machine/Dispatch.lean ====
section
/-! DEFINITION. Each command and its meaning, one arm per constructor. -/

namespace Sys2Proof.Machine

def exec (i : Instr) (s : State) : Host.Outcome State Fault Refusal :=
  match i with
  | .cartridgeSeated l c => Sys2Proof.Machine.execCartridgeSeated l c s
  | .supplyValid l => Sys2Proof.Machine.execSupplyValid l s
  | .supplyChg l second v => Sys2Proof.Machine.execSupplyChg l second v s
  | .rideThrough l => Sys2Proof.Machine.execRideThrough l s
  | .supplyLoss l => Sys2Proof.Machine.execSupplyLoss l s
  | .pipRun l => Sys2Proof.Machine.execPipRun l s
  | .stageS1 l => Sys2Proof.Machine.execStageS1 l s
  | .stageS2 l => Sys2Proof.Machine.execStageS2 l s
  | .stageS3 l => Sys2Proof.Machine.execStageS3 l s
  | .pllLoss l => Sys2Proof.Machine.execPllLoss l s
  | .faultDwell l => Sys2Proof.Machine.execFaultDwell l s
  | .laneReset acc data => Sys2Proof.Machine.execLaneReset acc data s
  | .holdFaulted acc data => Sys2Proof.Machine.execHoldFaulted acc data s
  | .resetRelease l => Sys2Proof.Machine.execResetRelease l s
  | .snapshotExchange => Sys2Proof.Machine.execSnapshotExchange s
  | .warmResume l => Sys2Proof.Machine.execWarmResume l s
  | .gridOrigin l => Sys2Proof.Machine.execGridOrigin l s
  | .timeTrigger l n => Sys2Proof.Machine.execTimeTrigger l n s
  | .ttCtrl acc n data => Sys2Proof.Machine.execTtCtrl acc n data s
  | .ttTgtHi acc n data => Sys2Proof.Machine.execTtTgtHi acc n data s
  | .timeCtrl acc data => Sys2Proof.Machine.execTimeCtrl acc data s
  | .timeSetHi acc data => Sys2Proof.Machine.execTimeSetHi acc data s
  | .timeServoUpdate l off utc => Sys2Proof.Machine.execTimeServoUpdate l off utc s
  | .refLost l => Sys2Proof.Machine.execRefLost l s
  | .ppsIn l bin => Sys2Proof.Machine.execPpsIn l bin s
  | .pairTimeMarker l t1 t2 t3 t4 asym => Sys2Proof.Machine.execPairTimeMarker l t1 t2 t3 t4 asym s
  | .timeNowLo acc addr size => Sys2Proof.Machine.execTimeNowLo acc addr size s
  | .cycleBoundary ia ib => Sys2Proof.Machine.execCycleBoundary ia ib s
  | .ringCut => Sys2Proof.Machine.execRingCut s
  | .computeWindow lateA lateB => Sys2Proof.Machine.execComputeWindow lateA lateB s
  | .nodeFire l n => Sys2Proof.Machine.execNodeFire l n s
  | .nodeComplete l n => Sys2Proof.Machine.execNodeComplete l n s
  | .nodeCut n cutA cutB => Sys2Proof.Machine.execNodeCut n cutA cutB s
  | .activationWithdrawn l n => Sys2Proof.Machine.execActivationWithdrawn l n s
  | .computeComplete l => Sys2Proof.Machine.execComputeComplete l s
  | .snapshotComplete l => Sys2Proof.Machine.execSnapshotComplete l s
  | .snapLate l => Sys2Proof.Machine.execSnapLate l s
  | .digestReceive l => Sys2Proof.Machine.execDigestReceive l s
  | .divergenceDecision testA testB => Sys2Proof.Machine.execDivergenceDecision testA testB s
  | .digestDeadline l => Sys2Proof.Machine.execDigestDeadline l s
  | .sealDeadline l => Sys2Proof.Machine.execSealDeadline l s
  | .sampledDeadline l => Sys2Proof.Machine.execSampledDeadline l s
  | .mirrorEntry l => Sys2Proof.Machine.execMirrorEntry l s
  | .seal l => Sys2Proof.Machine.execSeal l s
  | .sampledPart l => Sys2Proof.Machine.execSampledPart l s
  | .cycleTrcCtrl acc data => Sys2Proof.Machine.execCycleTrcCtrl acc data s
  | .trcWindfall l => Sys2Proof.Machine.execTrcWindfall l s
  | .primacyGrant => Sys2Proof.Machine.execPrimacyGrant s
  | .primacyWithdraw => Sys2Proof.Machine.execPrimacyWithdraw s
  | .toggleStop => Sys2Proof.Machine.execToggleStop s
  | .selectorOpen => Sys2Proof.Machine.execSelectorOpen s
  | .transfer acc data => Sys2Proof.Machine.execTransfer acc data s
  | .leave acc data => Sys2Proof.Machine.execLeave acc data s
  | .ejectorOpen l => Sys2Proof.Machine.execEjectorOpen l s
  | .ejectorClose l => Sys2Proof.Machine.execEjectorClose l s
  | .cartridgeRemoved l => Sys2Proof.Machine.execCartridgeRemoved l s
  | .fwStart acc data pkg => Sys2Proof.Machine.execFwStart acc data pkg s
  | .linkChg n up => Sys2Proof.Machine.execLinkChg n up s
  | .rejoinBegin l => Sys2Proof.Machine.execRejoinBegin l s
  | .rjStart acc data => Sys2Proof.Machine.execRjStart acc data s
  | .rjAbort acc data => Sys2Proof.Machine.execRjAbort acc data s
  | .rejoinTimeout l => Sys2Proof.Machine.execRejoinTimeout l s
  | .rejoinSet l => Sys2Proof.Machine.execRejoinSet l s
  | .replayCycle l => Sys2Proof.Machine.execReplayCycle l s
  | .firmwareReceive l signed => Sys2Proof.Machine.execFirmwareReceive l signed s
  | .pipStateRecord l => Sys2Proof.Machine.execPipStateRecord l s
  | .lockKey acc page data => Sys2Proof.Machine.execLockKey acc page data s
  | .keyWindow l seat page => Sys2Proof.Machine.execKeyWindow l seat page s
  | .softReset acc page data => Sys2Proof.Machine.execSoftReset acc page data s
  | .softResetDone l page => Sys2Proof.Machine.execSoftResetDone l page s
  | .freeze acc page data => Sys2Proof.Machine.execFreeze acc page data s
  | .enable acc page data => Sys2Proof.Machine.execEnable acc page data s
  | .evSet acc page data => Sys2Proof.Machine.execEvSet acc page data s
  | .evPend acc page data => Sys2Proof.Machine.execEvPend acc page data s
  | .errCodeClr acc page data => Sys2Proof.Machine.execErrCodeClr acc page data s
  | .claim acc q data => Sys2Proof.Machine.execClaim acc q data s
  | .tokenRelease acc q data => Sys2Proof.Machine.execTokenRelease acc q data s
  | .seatTokenQuery acc q data => Sys2Proof.Machine.execSeatTokenQuery acc q data s
  | .seatViolInfo acc q data => Sys2Proof.Machine.execSeatViolInfo acc q data s
  | .seatRightsPage acc q off data => Sys2Proof.Machine.execSeatRightsPage acc q off data s
  | .registerWrite acc addr size data => Sys2Proof.Machine.execRegisterWrite acc addr size data s
  | .ledgerRequest l cls quanta dur who => Sys2Proof.Machine.execLedgerRequest l cls quanta dur who s
  | .revokedStop l => Sys2Proof.Machine.execRevokedStop l s
  | .ledgerWait l => Sys2Proof.Machine.execLedgerWait l s
  | .grantEnd l => Sys2Proof.Machine.execGrantEnd l s
  | .ledgerRelease l cls who => Sys2Proof.Machine.execLedgerRelease l cls who s
  | .overMeas l mw => Sys2Proof.Machine.execOverMeas l mw s
  | .overMeasClear l mw => Sys2Proof.Machine.execOverMeasClear l mw s
  | .loopTableWrite acc addr size data => Sys2Proof.Machine.execLoopTableWrite acc addr size data s
  | .logicRun acc p data => Sys2Proof.Machine.execLogicRun acc p data s
  | .logicHold acc p data => Sys2Proof.Machine.execLogicHold acc p data s
  | .logicStop acc p data => Sys2Proof.Machine.execLogicStop acc p data s
  | .logicStep acc p data => Sys2Proof.Machine.execLogicStep acc p data s
  | .prepare acc data => Sys2Proof.Machine.execPrepare acc data s
  | .exchReady l im => Sys2Proof.Machine.execExchReady l im s
  | .commit acc data => Sys2Proof.Machine.execCommit acc data s
  | .abandon acc data => Sys2Proof.Machine.execAbandon acc data s
  | .trialStart acc data => Sys2Proof.Machine.execTrialStart acc data s
  | .trialStop acc data => Sys2Proof.Machine.execTrialStop acc data s
  | .recipeStart acc c data => Sys2Proof.Machine.execRecipeStart acc c data s
  | .recipeHold acc c data => Sys2Proof.Machine.execRecipeHold acc c data s
  | .recipeResume acc c data => Sys2Proof.Machine.execRecipeResume acc c data s
  | .recipeAbort acc c data => Sys2Proof.Machine.execRecipeAbort acc c data s
  | .ringFrameReceive l r endPort fcs sfd ret bytes => Sys2Proof.Machine.execRingFrameReceive l r endPort fcs sfd ret bytes s
  | .ringStaAbsent acc r p data => Sys2Proof.Machine.execRingStaAbsent acc r p data s
  | .ringStaReturn acc r p data => Sys2Proof.Machine.execRingStaReturn acc r p data s
  | .ringLinkChg l r which up => Sys2Proof.Machine.execRingLinkChg l r which up s
  | .phyTrainDone l r mode => Sys2Proof.Machine.execPhyTrainDone l r mode s
  | .phyTrainRetry l r => Sys2Proof.Machine.execPhyTrainRetry l r s
  | .ainAck acc data => Sys2Proof.Machine.execAinAck acc data s
  | .fullReq acc data => Sys2Proof.Machine.execFullReq acc data s
  | .ainChCfg acc ch data => Sys2Proof.Machine.execAinChCfg acc ch data s
  | .owCurrentOn l => Sys2Proof.Machine.execOwCurrentOn l s
  | .owCurrentOff l => Sys2Proof.Machine.execOwCurrentOff l s
  | .aoRbFault l ch rb => Sys2Proof.Machine.execAoRbFault l ch rb s
  | .fiReady l => Sys2Proof.Machine.execFiReady l s
  | .axisEnable acc a data => Sys2Proof.Machine.execAxisEnable acc a data s
  | .axisDisable acc a data => Sys2Proof.Machine.execAxisDisable acc a data s
  | .moveAbs acc a data => Sys2Proof.Machine.execMoveAbs acc a data s
  | .moveRel acc a data => Sys2Proof.Machine.execMoveRel acc a data s
  | .velocity acc a data => Sys2Proof.Machine.execVelocity acc a data s
  | .follow acc a data => Sys2Proof.Machine.execFollow acc a data s
  | .axisStop acc a data => Sys2Proof.Machine.execAxisStop acc a data s
  | .quickstop acc a data => Sys2Proof.Machine.execQuickstop acc a data s
  | .home acc a data => Sys2Proof.Machine.execHome acc a data s
  | .axisAck acc a data => Sys2Proof.Machine.execAxisAck acc a data s
  | .axisPe acc addr size data => Sys2Proof.Machine.execAxisPe acc addr size data s
  | .pwmBoundary a dutiesA dutiesB => Sys2Proof.Machine.execPwmBoundary a dutiesA dutiesB s
  | .overcurrent l a sample => Sys2Proof.Machine.execOvercurrent l a sample s
  | .mclkFault l a => Sys2Proof.Machine.execMclkFault l a s
  | .pbusArbitration n => Sys2Proof.Machine.execPbusArbitration n s
  | .pbusFrameAccepted n f age binA binB => Sys2Proof.Machine.execPbusFrameAccepted n f age binA binB s
  | .pbusError n dTec => Sys2Proof.Machine.execPbusError n dTec s
  | .recovered n => Sys2Proof.Machine.execRecovered n s
  | .pbusCancel acc n data => Sys2Proof.Machine.execPbusCancel acc n data s
  | .pbusSend acc n data => Sys2Proof.Machine.execPbusSend acc n data s
  | .recReq acc n data => Sys2Proof.Machine.execRecReq acc n data s
  | .diEdge n level => Sys2Proof.Machine.execDiEdge n level s
  | .channelYPass l => Sys2Proof.Machine.execChannelYPass l s
  | .pipFault l cause index => Sys2Proof.Machine.execPipFault l cause index s
  | .offDelay l n => Sys2Proof.Machine.execOffDelay l n s
  | .edmFault l n => Sys2Proof.Machine.execEdmFault l n s
  | .pairFault l k => Sys2Proof.Machine.execPairFault l k s
  | .sksPdu l ch => Sys2Proof.Machine.execSksPdu l ch s
  | .sksExpiry l ch => Sys2Proof.Machine.execSksExpiry l ch s
  | .switchTest l m => Sys2Proof.Machine.execSwitchTest l m s
  | .switchTestEnd l res => Sys2Proof.Machine.execSwitchTestEnd l res s
  | .toReadback l n => Sys2Proof.Machine.execToReadback l n s
  | .laneCompare => Sys2Proof.Machine.execLaneCompare s
  | .bridgeChg l => Sys2Proof.Machine.execBridgeChg l s
  | .safeLoad acc data im => Sys2Proof.Machine.execSafeLoad acc data im s
  | .loadDone l okX okY => Sys2Proof.Machine.execLoadDone l okX okY s
  | .safeActivate acc data => Sys2Proof.Machine.execSafeActivate acc data s
  | .activated => Sys2Proof.Machine.execActivated s
  | .captArm acc data => Sys2Proof.Machine.execCaptArm acc data s
  | .captStop acc data => Sys2Proof.Machine.execCaptStop acc data s
  | .captAbort acc data => Sys2Proof.Machine.execCaptAbort acc data s
  | .captureStart l => Sys2Proof.Machine.execCaptureStart l s
  | .triggerFiring l u rising bin => Sys2Proof.Machine.execTriggerFiring l u rising bin s
  | .seqTimeout l => Sys2Proof.Machine.execSeqTimeout l s
  | .noTrigger l => Sys2Proof.Machine.execNoTrigger l s
  | .captureComplete l => Sys2Proof.Machine.execCaptureComplete l s
  | .captureHeader l => Sys2Proof.Machine.execCaptureHeader l s
  | .captureOverrun l => Sys2Proof.Machine.execCaptureOverrun l s
  | .punnetSend l => Sys2Proof.Machine.execPunnetSend l s
  | .arpResolve l up mac => Sys2Proof.Machine.execArpResolve l up mac s
  | .flashWrite l => Sys2Proof.Machine.execFlashWrite l s
  | .logFlashWrite l n => Sys2Proof.Machine.execLogFlashWrite l n s
  | .logWindfall l => Sys2Proof.Machine.execLogWindfall l s
  | .logRdGo acc data => Sys2Proof.Machine.execLogRdGo acc data s
  | .logRdCopy acc data => Sys2Proof.Machine.execLogRdCopy acc data s
  | .rdDone l => Sys2Proof.Machine.execRdDone l s
  | .workSubmit acc data => Sys2Proof.Machine.execWorkSubmit acc data s
  | .workDispatch l => Sys2Proof.Machine.execWorkDispatch l s
  | .workDone l core => Sys2Proof.Machine.execWorkDone l core s
  | .delayTick l => Sys2Proof.Machine.execDelayTick l s
  | .workCancel acc data => Sys2Proof.Machine.execWorkCancel acc data s
  | .boostRequest l => Sys2Proof.Machine.execBoostRequest l s
  | .boostRelease l => Sys2Proof.Machine.execBoostRelease l s
  | .acycTimeout l core => Sys2Proof.Machine.execAcycTimeout l core s
  | .workTrcWindfall l => Sys2Proof.Machine.execWorkTrcWindfall l s
  | .fifoWr acc f data => Sys2Proof.Machine.execFifoWr acc f data s
  | .fifoWrEnd acc f data => Sys2Proof.Machine.execFifoWrEnd acc f data s
  | .fifoFlush l f => Sys2Proof.Machine.execFifoFlush l f s
  | .fifoRd0 acc f size => Sys2Proof.Machine.execFifoRd0 acc f size s
  | .irqLevelRise l src => Sys2Proof.Machine.execIrqLevelRise l src s
  | .irqSet acc k data => Sys2Proof.Machine.execIrqSet acc k data s
  | .irqPend acc k data => Sys2Proof.Machine.execIrqPend acc k data s
  | .irqMask acc k data => Sys2Proof.Machine.execIrqMask acc k data s
  | .irqRoute acc src data => Sys2Proof.Machine.execIrqRoute acc src data s
  | .targetWake l t => Sys2Proof.Machine.execTargetWake l t s
  | .wakeTimeout l t => Sys2Proof.Machine.execWakeTimeout l t s
  | .doorbell acc n data => Sys2Proof.Machine.execDoorbell acc n data s
  | .dmaPause acc n data => Sys2Proof.Machine.execDmaPause acc n data s
  | .paused l n k host => Sys2Proof.Machine.execPaused l n k host s
  | .dmaResume acc n data => Sys2Proof.Machine.execDmaResume acc n data s
  | .dmaAbort acc n data => Sys2Proof.Machine.execDmaAbort acc n data s
  | .descriptorFetch l n host => Sys2Proof.Machine.execDescriptorFetch l n host s
  | .descDone l n host => Sys2Proof.Machine.execDescDone l n host s
  | .dmaTimeout l n k side host => Sys2Proof.Machine.execDmaTimeout l n k side host s
  | .dmaCompletionError l n k side host => Sys2Proof.Machine.execDmaCompletionError l n k side host s
  | .dmaFifoData l n => Sys2Proof.Machine.execDmaFifoData l n s
  | .scrub l mask near => Sys2Proof.Machine.execScrub l mask near s
  | .pcieBindingEnd l cause => Sys2Proof.Machine.execPcieBindingEnd l cause s
  | .hapRequest l ip port pcp7 full bytes => Sys2Proof.Machine.execHapRequest l ip port pcp7 full bytes s
  | .hapOpen l ip port bytes => Sys2Proof.Machine.execHapOpen l ip port bytes s
  | .hapClose l ip port bytes => Sys2Proof.Machine.execHapClose l ip port bytes s
  | .hapKeepalive l ip port bytes => Sys2Proof.Machine.execHapKeepalive l ip port bytes s
  | .sessionIdle q => Sys2Proof.Machine.execSessionIdle q s
  | .haltReq l => Sys2Proof.Machine.execHaltReq l s
  | .haltRelease l => Sys2Proof.Machine.execHaltRelease l s
  | .soft acc data => Sys2Proof.Machine.execSoft acc data s
  | .commitSvn acc data => Sys2Proof.Machine.execCommitSvn acc data s
  | .keyChg acc data stmt => Sys2Proof.Machine.execKeyChg acc data stmt s
  | .toolRingFrame l cross src seq toModule toOthers supervision => Sys2Proof.Machine.execToolRingFrame l cross src seq toModule toOthers supervision s
  | .hsrSupervision => Sys2Proof.Machine.execHsrSupervision s
  | .hsrEntryExpiry l => Sys2Proof.Machine.execHsrEntryExpiry l s
  | .seatRead acc addr size => Sys2Proof.Machine.execSeatRead acc addr size s
  | .uncorrectableRead l c reader => Sys2Proof.Machine.execUncorrectableRead l c reader s
  | .pcieLinkUp l width speed => Sys2Proof.Machine.execPcieLinkUp l width speed s
  | .dstateChg l d => Sys2Proof.Machine.execDstateChg l d s
  | .arpRequest l port kind => Sys2Proof.Machine.execArpRequest l port kind s
  | .peerDelay l b d b' => Sys2Proof.Machine.execPeerDelay l b d b' s
  | .trLink l cross up => Sys2Proof.Machine.execTrLink l cross up s
  | .filterHold l ch code => Sys2Proof.Machine.execFilterHold l ch code s
  | .fastSample ca cb => Sys2Proof.Machine.execFastSample ca cb s
  | .limitInput l a which level pos bin => Sys2Proof.Machine.execLimitInput l a which level pos bin s
  | .receiveError n dRec => Sys2Proof.Machine.execReceiveError n dRec s
  | .soOverload n => Sys2Proof.Machine.execSoOverload n s
  | .overloadRetry n => Sys2Proof.Machine.execOverloadRetry n s
  | .opMsRewrite l => Sys2Proof.Machine.execOpMsRewrite l s
  | .onDieScrub l page rs wrong => Sys2Proof.Machine.execOnDieScrub l page rs wrong s

end Sys2Proof.Machine
end

