-- ==== Sys2Proof/Machine/Tick.lean ====
section
/-! DEFINITION. A tick of CLK_TIME with no command waiting (log entry 52): time passes; the pip takes filtered levels; in
every second tick, one CLK_REG cycle, the interrupt controller samples its sources. -/

namespace Sys2Proof.Machine

/-- What was sent is on its way; what the interrupt controller and the channels send leaves at the end of the CLK_REG cycle. -/
def Lane.sentOff (l : Lane) (now : Nat) : Lane :=
  let ends : Bool := !sameCycle now (now + 1)
  { l with
    irq := { l.irq with out := if ends then [] else l.irq.out }
    dma := { l.dma with posted := if ends then [] else l.dma.posted }
    recd := { l.recd with tx := [] }
    host := { l.host with tx := [], answered := [], sent := [], resid := [], nonfatal := 0 } }

/-- What a tick brings on a lane. -/
def Lane.tick (l : Lane) (now : Nat) : Lane :=
  if l.sup.valid then
    let l1 := if l.pip.due now then l.pipEval true now else l
    if now % 2 = 0 then (l1.irqSampleAll now).irqAwake else l1
  else l

/-- One tick of the module, at whose end the arbiter looks at the requests (R107). -/
def State.tick (s : State) : State :=
  let s1 := ({ s with a := s.a.sentOff s.now, b := s.b.sentOff s.now } : State).pass 1
  State.arbiter { s1 with a := s1.a.tick s1.now, b := s1.b.tick s1.now }

end Sys2Proof.Machine
end

