-- ==== Sys2Proof/WellFormed.lean ====
section
/-! DEFINITION. Which commands can reach the block: operands inside the ranges that the hardware's units have. Every meaning
is total; a command outside these ranges stands for no event of the hardware. -/

namespace Sys2Proof

/-- Bytes of the lane address space below DRAM's end (R20). -/
def laneSpace : Nat := 2 ^ 40

/-- An access width in bytes. -/
def sizeOk (n : Nat) : Bool := decide (1 ≤ n ∧ n ≤ 4096)

/-- Every number of a list is a byte. -/
def bytesAll (bs : List Nat) : Bool := bs.all (fun b => decide (b < 256))

/-- A list of at most `n` bytes. -/
def bytesOk (n : Nat) (bs : List Nat) : Bool := decide (bs.length ≤ n) && bytesAll bs

/-- The 64 data bytes of another codeword, if any. -/
def nearOk (near : Option (List Nat)) : Bool := match near with | some bs => bytesOk 64 bs | none => true

/-- A codeword of DRAM or of an on-die memory. -/
def Codeword.wf : Codeword → Bool
  | .dram i m near => decide (i < 536870912) && decide (m < 2 ^ 72) && nearOk near
  | .sram n => decide (n ≤ 72)
  | .die p _ n => decide (p < 4096) && decide (n ≤ 72)

/-- A reader of a codeword. -/
def Reader.wf : Reader → Bool
  | .seat q => decide (q < 8)
  | .dma ch _ side => decide (ch < 64 ∧ side < 3)
  | .engine => true
  | .port => true

/-- Inputs of a lane at a boundary: precision channels, direct axes. -/
def BoundaryIn.wf (b : BoundaryIn) : Bool := b.ai.all (fun x => decide (x.1 < 64)) && b.ax.all (fun x => decide (x.1 < 16))

/-- A command whose operands are inside their ranges. -/
def Instr.wf : Instr → Bool
  | .cartridgeSeated _ c => decide (c.serial < 2 ^ 64) && c.banks.length == 2
  | .supplyValid _ => true
  | .supplyChg _ _ v => decide (v < 256)
  | .rideThrough _ => true
  | .supplyLoss _ => true
  | .pipRun _ => true
  | .stageS1 _ => true
  | .stageS2 _ => true
  | .stageS3 _ => true
  | .pllLoss _ => true
  | .faultDwell _ => true
  | .laneReset _ _ => true
  | .holdFaulted _ _ => true
  | .resetRelease _ => true
  | .snapshotExchange => true
  | .warmResume _ => true
  | .gridOrigin _ => true
  | .timeTrigger _ n => decide (n < 32)
  | .ttCtrl _ n _ => decide (n < 32)
  | .ttTgtHi _ n _ => decide (n < 32)
  | .timeCtrl _ _ => true
  | .timeSetHi _ _ => true
  | .timeServoUpdate _ _ _ => true
  | .refLost _ => true
  | .ppsIn _ bin => decide (bin < 16)
  | .pairTimeMarker _ _ _ _ _ _ => true
  | .timeNowLo _ addr size => sizeOk size && decide (addr < laneSpace)
  | .cycleBoundary ia ib => ia.wf && ib.wf
  | .ringCut => true
  | .computeWindow _ _ => true
  | .nodeFire _ n => decide (n < 65535)
  | .nodeComplete _ n => decide (n < 65535)
  | .nodeCut n _ _ => decide (n < 65535)
  | .activationWithdrawn _ n => decide (n < 65535)
  | .computeComplete _ => true
  | .snapshotComplete _ => true
  | .snapLate _ => true
  | .digestReceive _ => true
  | .divergenceDecision _ _ => true
  | .digestDeadline _ => true
  | .sealDeadline _ => true
  | .sampledDeadline _ => true
  | .mirrorEntry _ => true
  | .seal _ => true
  | .sampledPart _ => true
  | .cycleTrcCtrl _ _ => true
  | .trcWindfall _ => true
  | .primacyGrant => true
  | .primacyWithdraw => true
  | .toggleStop => true
  | .selectorOpen => true
  | .transfer _ _ => true
  | .leave _ _ => true
  | .ejectorOpen _ => true
  | .ejectorClose _ => true
  | .cartridgeRemoved _ => true
  | .fwStart _ _ pkg => (match pkg with | some p => decide (p.version < 64) | none => true)
  | .linkChg n _ => decide (n < 4)
  | .rejoinBegin _ => true
  | .rjStart _ _ => true
  | .rjAbort _ _ => true
  | .rejoinTimeout _ => true
  | .rejoinSet _ => true
  | .replayCycle _ => true
  | .firmwareReceive _ _ => true
  | .pipStateRecord _ => true
  | .lockKey _ page _ => decide (page < 4096)
  | .keyWindow _ seat page => decide (seat < 8) && decide (page < 4096)
  | .softReset _ page _ => decide (page < 4096)
  | .softResetDone _ page => decide (page < 4096)
  | .freeze _ page _ => decide (page < 4096)
  | .enable _ page _ => decide (page < 4096)
  | .evSet _ page _ => decide (page < 4096)
  | .evPend _ page _ => decide (page < 4096)
  | .errCodeClr _ page _ => decide (page < 4096)
  | .claim _ q _ => decide (q < 8)
  | .tokenRelease _ q _ => decide (q < 8)
  | .seatTokenQuery _ q _ => decide (q < 8)
  | .seatViolInfo _ q _ => decide (q < 8)
  | .seatRightsPage _ q off _ => decide (q < 8) && decide (off < 4096) && off % 4 == 0
  | .registerWrite _ addr size data => sizeOk size && decide (addr < laneSpace) && decide (data < 2 ^ (8 * size))
  | .ledgerRequest _ cls _ _ _ => decide (cls < 7)
  | .revokedStop _ => true
  | .ledgerWait _ => true
  | .grantEnd _ => true
  | .ledgerRelease _ cls _ => decide (cls < 7)
  | .overMeas _ _ => true
  | .overMeasClear _ _ => true
  | .loopTableWrite _ addr size data => sizeOk size && decide (addr < laneSpace) && decide (data < 2 ^ (8 * size))
  | .logicRun _ p _ => decide (p < 128)
  | .logicHold _ p _ => decide (p < 128)
  | .logicStop _ p _ => decide (p < 128)
  | .logicStep _ p _ => decide (p < 128)
  | .prepare _ _ => true
  | .exchReady _ im => decide (im.sl < 2 ^ 32) && decide (im.version < 2 ^ 32)
  | .commit _ _ => true
  | .abandon _ _ => true
  | .trialStart _ _ => true
  | .trialStop _ _ => true
  | .recipeStart _ c _ => decide (c < 32)
  | .recipeHold _ c _ => decide (c < 32)
  | .recipeResume _ c _ => decide (c < 32)
  | .recipeAbort _ c _ => decide (c < 32)
  | .ringFrameReceive _ r _ _ _ _ bytes => decide (r < 24) && bytesOk 8300 bytes
  | .ringStaAbsent _ r p _ => decide (r < 24) && decide (p < 64)
  | .ringStaReturn _ r p _ => decide (r < 24) && decide (p < 64)
  | .ringLinkChg _ r which _ => decide (r < 24) && decide (which < 3)
  | .phyTrainDone _ r _ => decide (r < 24)
  | .phyTrainRetry _ r => decide (r < 24)
  | .ainAck _ _ => true
  | .fullReq _ _ => true
  | .ainChCfg _ ch _ => decide (ch < 64)
  | .owCurrentOn _ => true
  | .owCurrentOff _ => true
  | .aoRbFault _ ch _ => decide (ch < 32)
  | .fiReady _ => true
  | .axisEnable _ a _ => decide (a < 256)
  | .axisDisable _ a _ => decide (a < 256)
  | .moveAbs _ a _ => decide (a < 256)
  | .moveRel _ a _ => decide (a < 256)
  | .velocity _ a _ => decide (a < 256)
  | .follow _ a _ => decide (a < 256)
  | .axisStop _ a _ => decide (a < 256)
  | .quickstop _ a _ => decide (a < 256)
  | .home _ a _ => decide (a < 256)
  | .axisAck _ a _ => decide (a < 256)
  | .axisPe _ addr size data => sizeOk size && decide (addr < laneSpace) && decide (data < 2 ^ (8 * size))
  | .pwmBoundary a _ _ => decide (a < 16)
  | .overcurrent _ a _ => decide (a < 16)
  | .mclkFault _ a => decide (a < 16)
  | .pbusArbitration n => decide (n < 12)
  | .pbusFrameAccepted n f _ binA binB => decide (n < 12) && bytesOk 64 f.data && decide (f.idw < 2 ^ 32) && decide (binA < 16) && decide (binB < 16)
  | .pbusError n _ => decide (n < 12)
  | .recovered n => decide (n < 12)
  | .pbusCancel _ n _ => decide (n < 12)
  | .pbusSend _ n _ => decide (n < 12)
  | .recReq _ n _ => decide (n < 12)
  | .diEdge n _ => decide (n < 128)
  | .channelYPass _ => true
  | .pipFault _ cause _ => cause == 1 || cause == 2 || cause == 3 || cause == 4 || cause == 10
  | .offDelay _ n => decide (n < 400)
  | .edmFault _ n => decide (n < 64)
  | .pairFault _ k => decide (k < 64)
  | .sksPdu _ ch => decide (ch < 2)
  | .sksExpiry _ ch => decide (ch < 2)
  | .switchTest _ _ => true
  | .switchTestEnd _ res => res.all (fun x => decide (x.1 < 64) && decide (x.2 < 3))
  | .toReadback _ n => decide (n < 16)
  | .laneCompare => true
  | .bridgeChg _ => true
  | .safeLoad _ _ im => (match im with | some m => decide (1 ≤ m.interval ∧ m.interval ≤ 3600) | none => true)
  | .loadDone _ _ _ => true
  | .safeActivate _ _ => true
  | .activated => true
  | .captArm _ _ => true
  | .captStop _ _ => true
  | .captAbort _ _ => true
  | .captureStart _ => true
  | .triggerFiring _ u _ bin => decide (u < 64) && decide (bin < 16)
  | .seqTimeout _ => true
  | .noTrigger _ => true
  | .captureComplete _ => true
  | .captureHeader _ => true
  | .captureOverrun _ => true
  | .punnetSend _ => true
  | .arpResolve _ _ mac => (match mac with | some m => decide (m < 2 ^ 48) | none => true)
  | .flashWrite _ => true
  | .logFlashWrite _ n => decide (n < 1025)
  | .logWindfall _ => true
  | .logRdGo _ _ => true
  | .logRdCopy _ _ => true
  | .rdDone _ => true
  | .workSubmit _ _ => true
  | .workDispatch _ => true
  | .workDone _ core => decide (core < 16)
  | .delayTick _ => true
  | .workCancel _ _ => true
  | .boostRequest _ => true
  | .boostRelease _ => true
  | .acycTimeout _ core => decide (core < 16)
  | .workTrcWindfall _ => true
  | .fifoWr _ f _ => decide (f < 256)
  | .fifoWrEnd _ f _ => decide (f < 256)
  | .fifoFlush _ f => decide (f < 256)
  | .fifoRd0 _ f size => decide (f < 256) && sizeOk size
  | .irqLevelRise _ src => decide (src < 1024)
  | .irqSet _ k _ => decide (k < 32)
  | .irqPend _ k _ => decide (k < 32)
  | .irqMask _ k _ => decide (k < 32)
  | .irqRoute _ src _ => decide (src < 1024)
  | .targetWake _ t => decide (t < 32)
  | .wakeTimeout _ t => decide (t < 32)
  | .doorbell _ n _ => decide (n < 64)
  | .dmaPause _ n _ => decide (n < 64)
  | .paused _ n _ host => decide (n < 64) && bytesAll host
  | .dmaResume _ n _ => decide (n < 64)
  | .dmaAbort _ n _ => decide (n < 64)
  | .descriptorFetch _ n host => decide (n < 64) && bytesAll host
  | .descDone _ n host => decide (n < 64) && bytesAll host
  | .dmaTimeout _ n _ side host => decide (n < 64) && decide (side < 3) && bytesAll host
  | .dmaCompletionError _ n _ side host => decide (n < 64) && decide (side < 3) && bytesAll host
  | .dmaFifoData _ n => decide (n < 64)
  | .scrub _ mask near => decide (mask < 2 ^ 72) && nearOk near
  | .pcieBindingEnd _ cause => decide (cause < 4)
  | .hapRequest _ ip port _ _ bytes => decide (ip < 2 ^ 32) && decide (port < 2 ^ 16) && bytesAll bytes
  | .hapOpen _ ip port bytes => decide (ip < 2 ^ 32) && decide (port < 2 ^ 16) && bytesAll bytes
  | .hapClose _ ip port bytes => decide (ip < 2 ^ 32) && decide (port < 2 ^ 16) && bytesAll bytes
  | .hapKeepalive _ ip port bytes => decide (ip < 2 ^ 32) && decide (port < 2 ^ 16) && bytesAll bytes
  | .sessionIdle q => decide (q < 8)
  | .haltReq _ => true
  | .haltRelease _ => true
  | .soft _ _ => true
  | .commitSvn _ _ => true
  | .keyChg _ _ stmt => (match stmt with | some x => decide (x.1 < 2 ^ 384) | none => true)
  | .toolRingFrame _ _ src seq _ _ _ => decide (src < 2 ^ 48) && decide (seq < 2 ^ 16)
  | .hsrSupervision => true
  | .hsrEntryExpiry _ => true
  | .seatRead _ addr size => sizeOk size && decide (addr < laneSpace)
  | .uncorrectableRead _ c reader => c.wf && reader.wf
  | .pcieLinkUp _ _ _ => true
  | .dstateChg _ d => d == 0 || d == 3
  | .arpRequest _ port _ => decide (port < 2)
  | .peerDelay _ b _ b' => decide (b < 16) && decide (b' < 16)
  | .trLink _ _ _ => true
  | .filterHold _ ch _ => decide (ch < 64)
  | .fastSample ca cb => ca.all (fun x => decide (x.1 < 8)) && cb.all (fun x => decide (x.1 < 8))
  | .limitInput _ a which _ _ bin => decide (a < 16) && decide (which < 4) && decide (bin < 16)
  | .receiveError n _ => decide (n < 12)
  | .soOverload n => decide (n < 64)
  | .overloadRetry n => decide (n < 64)
  | .opMsRewrite _ => true
  | .onDieScrub _ page _ _ => decide (page < 4096)

end Sys2Proof
end

