-- ==== Sys2Proof/Safety.lean ====
section
/-! DEFINITION. The terms in which statements about the module are made: what a command leaves alone, which accesses are
served, what an access enters in the mirror set, and the invariants of the base and of memory. -/

namespace Sys2Proof.Machine

/-! ### What a command leaves alone -/

/-- The bits of a register in which a lane shows what it sees of the other lane and of the base: SYS_STATE.OTHER_STATE and
PRIMACY, SYS_ROLE.OTHER_SEATED, PAIR_STAT.EJECT_SAFE, OTHER_PRESENT, PRIMACY and LINK, PAIR_COMPAT.OTHER,
LOGIC_EXCH_STAT.OTHER, SAFE_LOAD_STAT.OTHER, HOST_TR_STAT.RELAY. -/
def sightMask (a : Nat) : Word :=
  if a = Reg.SYS_STATE then 0xF0200#32
  else if a = Reg.SYS_ROLE then 0x2#32
  else if a = Reg.PAIR_STAT then 0x52F#32
  else if a = Reg.PAIR_COMPAT then 0xFFFF0000#32
  else if a = Reg.LOGIC_EXCH_STAT then 0xF0000#32
  else if a = Reg.SAFE_LOAD_STAT then 0xF0#32
  else if a = Reg.HOST_TR_STAT then 0x4#32
  else 0#32

/-- A lane without its registers and without what it remembers of the pair link and of the other lane's matrix. -/
def Lane.inner (l : Lane) : Lane :=
  { l with regs := [], pair := { l.pair with upSince := none, upAll := none }, pip := { l.pip with othId := 0 } }

/-- Lane `m` is lane `l`, but for the registers `rs` and for what a lane sees of the other lane and of the base. -/
def Lane.Like (m l : Lane) (rs : List Nat) : Prop :=
  m.inner = l.inner ∧ ∀ a, a ∉ rs → m.rd a &&& ~~~(sightMask a) = l.rd a &&& ~~~(sightMask a)

/-- From `s` to `t` lane `i` becomes `m`, but for the registers `rs`; the other lane, the base, the time, the free values and
the queue stay as they are, but for what the lanes see of each other and of the base. -/
def State.Makes (s t : State) (i : LaneId) (m : Lane) (rs : List Nat) : Prop :=
  (t.lane i).Like m rs ∧ (t.lane i.other).Like (s.lane i.other) [] ∧ t.base = { s.base with relays := t.base.relays } ∧
    t.now = s.now ∧ t.free = s.free ∧ t.pending = s.pending

/-- No answer of the ledger waits to be taken on lane `i`: the state in which every command leaves a lane. -/
abbrev State.calm (s : State) (i : LaneId) : Prop := (s.lane i).ledger.news = []

/-- Lane `i` has a valid supply and no answer of its ledger waits. -/
abbrev State.live (s : State) (i : LaneId) : Prop := (s.lane i).sup.valid = true ∧ s.calm i

/-- Lane `i` is live and BLK_CTRL.ENABLE of the instance of page `p` is 1. -/
abbrev State.works (s : State) (i : LaneId) (p : Nat) : Prop := s.live i ∧ (s.lane i).flag (F.BLK_CTRL.ENABLE (instPage p)) = true

/-- A lane that asks for primacy and has a supply holds it, no answer of a ledger waits and no access is held: nothing is left
for the arbiter, the ledgers or the seats to do (R88, R99, R107). -/
abbrev State.steady (s : State) : Prop :=
  (∃ h, s.base.primacy = some h ∧ (s.lane h).sup.valid = true ∧ (s.lane h).flag F.PAIR_STAT.PRIM_REQ = true) ∧
    ∀ i, s.calm i ∧ (s.lane i).acc.held = []

/-- Every lane that drives is in the compute window of its cycle, or past it, no sampled part is on its way, and every node that has been
cut has had its outcome (R132, R135, R148). -/
abbrev State.computing (s : State) : Prop :=
  s.steady ∧ ∀ i, (s.lane i).pair.outSamp = [] ∧ (s.lane i).unjudged = false ∧ ((s.lane i).drives = true →
    (s.lane i).running = true ∧ (s.lane i).cyc.cutDone = true ∧ (s.lane i).cyc.merged = true ∧ (s.lane i).cyc.opened = true)

/-- Every lane that drives has completed the compute of its cycle, and nothing is on its way (R106). -/
abbrev State.computedAll (s : State) : Prop := s.computing ∧ ∀ i, (s.lane i).drives = true → (s.lane i).cyc.complete = true

/-- Both lanes are PAIRED and compute cycles, over a pair link that is up. -/
abbrev State.pairs (s : State) : Prop :=
  s.linked = true ∧ ∀ i, (s.lane i).st = .paired ∧ (s.lane i).running = true

/-- Lane `i` computes cycles alone, and the other lane takes no part. -/
abbrev State.alone (s : State) (i : LaneId) : Prop :=
  (s.lane i).st = .solo ∧ (s.lane i).running = true ∧ (s.lane i.other).drives = false ∧ (s.lane i.other).st ≠ .shadow

/-- The command `c` completes at `s`: exec answers a next state, and `P` holds of it. -/
def Completes (c : Instr) (s : State) (P : State → Prop) : Prop := ∃ t, exec c s = .next t ∧ P t

/-- The command `c` completes at `s`, and what it does is that lane `i` becomes `m`. -/
def MakesLane (c : Instr) (s : State) (i : LaneId) (m : Lane) : Prop := Completes c s (fun t => s.Makes t i m [])

/-! ### Invariants -/

/-- The base is in order (R107, R108, R283, R463): the arbiter's time of withdrawal stands only while no lane holds primacy, and not in
the future; the selector stands at the holder; a selector that is open leaves every terminal at 0; an SO output that has turned itself
off is listed once, with a tick that has passed. -/
def State.baseOk (s : State) : Prop :=
  (∀ h, s.base.primacy = some h → s.base.freeAt = none ∧ s.base.aoSel = some h) ∧ (∀ t, s.base.freeAt = some t → t ≤ s.now) ∧
    (s.base.aoSel = none → s.base.aoTerm = []) ∧ (s.base.soOver.map Prod.fst).Nodup ∧ ∀ x ∈ s.base.soOver, x.1 < 64 ∧ x.2 ≤ s.now

/-! ### Accesses -/

/-- An access of a seat is served at once: its lane has a supply and has reached S1, no soft reset and no PCIe ordering
holds it, and none of the checks of R41 finds a violation (R27, R41, R74, R436). -/
abbrev State.serves (s : State) (acc : Acc) (addr size : Nat) (write : Bool) (data : Nat) : Prop :=
  (s.lane acc.lane).sup.valid = true ∧ (s.lane acc.lane).stage ≠ 0 ∧ (s.lane acc.lane).busy addr write = false ∧
    (s.lane acc.lane).waits acc write = false ∧ (s.lane acc.lane).check acc.seat.val addr size write data s.now = none

/-- The lane after a served access to a register has stepped the key of its seat on the instance (R29) and its answer stands. -/
def Lane.answered (l : Lane) (acc : Acc) (addr now : Nat) (lock : Option Nat) (r : Resp) : Lane :=
  (l.keyStep acc.seat.val (addr / 0x1000) now lock).reply acc.seat.val r

/-- The entry that a lane makes of what an access mirrors: effect two cycles on, the lane's next sequence number (R96, R102,
R103). -/
def Lane.entryFor (l : Lane) (acc : Acc) (pay : Payload) (key : Nat) : Entry :=
  ⟨l.cycN + 2, l.pair.oseq, pay.kind, l.self, some acc.seat.val, key, pay, decide (acc.path = .pcie)⟩

/-- The lane with an entry accepted: numbered, counted in bytes, in the mirror set, not yet confirmed, on its way to the other
lane (R96, R97, R100). -/
def Lane.accepts (l : Lane) (e : Entry) : Lane :=
  { l with
    pair := { l.pair with
      oseq := l.pair.oseq + 1, bytes := l.pair.bytes + e.bytes.length, entries := l.pair.entries ++ [e],
      accepted := l.pair.accepted ++ [e], unconf := l.pair.unconf ++ [⟨l.cycN, e.seat⟩], outMsg := l.pair.outMsg ++ [.entry e] } }

/-- A served write of a register on a lane that computes cycles enters the mirror set, and waits there for its effect cycle:
beside the entry, the counts of PAIR_MIR_COUNT and PAIR_MIR_PEAK, the seat's key and the answer that the write is pending,
nothing changes (R33, R96, R102). -/
def State.entersWrite (s t : State) (acc : Acc) (addr : Nat) (pay : Payload) : Prop :=
  let l := s.lane acc.lane
  let e := l.entryFor acc pay (l.accKey acc)
  s.Makes t acc.lane ((l.answered acc addr s.now none .pending).accepts e) [Reg.PAIR_MIR_COUNT, Reg.PAIR_MIR_PEAK] ∧
    (t.lane acc.lane).get F.PAIR_MIR_COUNT.ENTRIES = min (l.get F.PAIR_MIR_COUNT.ENTRIES + 1) (2 ^ 32 - 1) ∧
    (t.lane acc.lane).get F.PAIR_MIR_PEAK.BYTES = max (l.get F.PAIR_MIR_PEAK.BYTES) (l.pair.bytes + e.bytes.length) % 2 ^ 32

/-- What a write of a field that starts an action enters: over HAP a command, kind 0x06, over PCIe a register write, kind 0x05
(R103, R216). -/
def commandBy (acc : Acc) (ws : List (Nat × Word × Word)) : Payload := if acc.path = .pcie then .regWrite ws else .command ws

end Sys2Proof.Machine
end

