-- ==== Sys2Proof/Certificates/Slice0/Obligations.lean ====
section
/-! DEFINITION. Statements for the provers: what the block, its commands and its state do, from the rules of the
manual. -/

section
open Sys2Proof Sys2Proof.Machine

/-- A step takes the command at the front of the queue and is its effect with the rest of the queue; with no command waiting one tick of
CLK_TIME passes (log entry 52), in which the base changes only where primacy is free and a lane asks for it (R107). -/
def Obligations.StepRunsFront : Prop :=
  (∀ (c : Instr) (rest : List Instr) (s : State), s.pending = c :: rest → step s = exec c { s with pending := rest }) ∧
    ∀ s : State, s.pending = [] → ∃ t, step s = .next t ∧ t.now = s.now + 1 ∧ t.pending = [] ∧ t.free = s.free ∧
      (s.base.primacy.isSome = true ∨ s.requester = none → t.base = s.base)

/-- What a reset of kind P leaves (R2, R7): each register its reset word, but SYS_ROLE, which follows the slot, and SYS_SUPPLY; DRAM,
the cycle image and the queue empty; no lane holds primacy; no image runs. -/
def Obligations.ResetLeavesResetWords : Prop :=
  (∀ i a, a ≠ Reg.SYS_ROLE → a ≠ Reg.SYS_SUPPLY → (State.reset.lane i).rd a = resetWord a) ∧
    (∀ i : LaneId, (State.reset.lane i).get F.SYS_ROLE.ROLE = i.num ∧ (State.reset.lane i).st = .pip ∧
      (∀ x, Sparse.find byte0 (State.reset.lane i).dram x = 0#8) ∧ (State.reset.lane i).car.img = [] ∧ (State.reset.lane i).image = none ∧
      (State.reset.lane i).pair.entries = [] ∧ (State.reset.lane i).acc.tokens = [] ∧ (State.reset.lane i).irq.out = []) ∧
    State.reset.base.primacy = none ∧ State.reset.pending = []

/-- The base is in order after reset. -/
def Obligations.BaseInOrderAtReset : Prop := State.reset.baseOk

/-- Every step keeps the base in order, whatever the command (R107, R108, R283, R463). -/
def Obligations.StepKeepsTheBaseInOrder : Prop := ∀ s t : State, s.baseOk → step s = .next t → t.baseOk

/-- No command touches the queue of commands, no command turns time back, and none gives a free value out twice. -/
def Obligations.CommandsLeaveTheQueue : Prop :=
  ∀ (c : Instr) (s t : State), exec c s = .next t → t.pending = s.pending ∧ s.now ≤ t.now ∧ s.free ≤ t.free

/-- What happens in one lane stays there: an event of a lane's own hardware lets time pass to its instant and then changes that lane alone;
the other lane, the base, the free values and the queue are as the passing of time leaves them, but for what the lanes see of each
other. -/
def Obligations.CommandsOfALaneStayThere : Prop :=
  ∀ (i : LaneId) (m n k : Nat) (x y : Int) (b : Bool) (w : Word) (o : Option Nat) (s t : State) (c : Instr),
    c ∈ [Instr.owCurrentOn i, .owCurrentOff i, .aoRbFault i n x, .fiReady i, .filterHold i n x, .overcurrent i m n, .mclkFault i n,
        .limitInput i m n b y k, .captureStart i, .seqTimeout i, .noTrigger i, .captureComplete i, .captureHeader i, .captureOverrun i,
        .trcWindfall i] ++
      [.fifoFlush i n, .pcieLinkUp i m n, .dstateChg i n, .hsrEntryExpiry i, .arpRequest i m n, .irqLevelRise i n, .targetWake i n,
        .wakeTimeout i n, .ledgerRelease i m n, .revokedStop i, .ledgerWait i, .grantEnd i, .overMeas i n, .overMeasClear i n] ++
      [.punnetSend i, .arpResolve i b o, .flashWrite i, .logFlashWrite i n, .logWindfall i, .rdDone i, .opMsRewrite i, .ringLinkChg i m n b,
        .phyTrainDone i m n, .phyTrainRetry i n, .timeServoUpdate i x w, .refLost i, .workDispatch i, .delayTick i, .boostRequest i,
        .boostRelease i, .workTrcWindfall i] →
    exec c s = .next t → (s.untilTick t.now).Makes t i (t.lane i) [] ∧ s.now ≤ t.now

/-- The key of a page, EV_SET and EV_PEND (R24, R29): a served write of LOCK_KEY steps the key of its seat on the instance and
does nothing else; EV_SET sets bits of EV_PEND, EV_PEND clears them, and a level that has fallen is seen by the interrupt
controller. The answer is that the write is done. -/
def Obligations.HeaderEventWritesComplete : Prop :=
  ∀ (acc : Acc) (page : Nat) (data : Word) (s : State), s.calm acc.lane → page < 0x1000 → (blkOf page).isSome = true →
    let l := s.lane acc.lane
    (s.serves acc (Reg.LOCK_KEY page) 4 true data.toNat → MakesLane (.lockKey acc page data) s acc.lane
      (l.answered acc (Reg.LOCK_KEY page) s.now (some (data.toNat % 2 ^ 16)) .done)) ∧
    (s.serves acc (Reg.EV_SET page) 4 true data.toNat → MakesLane (.evSet acc page data) s acc.lane
      ((l.answered acc (Reg.EV_SET page) s.now none .done).wr (Reg.EV_PEND (instPage page))
        (l.rd (Reg.EV_PEND (instPage page)) ||| (data &&& 0xC0FFFFFF#32)))) ∧
    (s.serves acc (Reg.EV_PEND page) 4 true data.toNat → MakesLane (.evPend acc page data) s acc.lane
      (((l.answered acc (Reg.EV_PEND page) s.now none .done).wr (Reg.EV_PEND (instPage page))
        (l.rd (Reg.EV_PEND (instPage page)) &&& ~~~data)).irqFalls))

/-- The key sequence (R29): a seat's write of 0x7A3C to LOCK_KEY is remembered for the instance, and its next access to the
instance, a write of 0x85C3, opens the key there. -/
def Obligations.KeySequenceOpens : Prop :=
  ∀ (acc : Acc) (page : Nat) (data : Word) (s : State), s.calm acc.lane → page < 0x1000 → (blkOf page).isSome = true →
    s.serves acc (Reg.LOCK_KEY page) 4 true data.toNat →
    (data.toNat % 2 ^ 16 = 0x7A3C → Completes (.lockKey acc page data) s (fun t =>
      (⟨acc.seat.val, instPage page, .first⟩ : KeyEnt) ∈ (t.lane acc.lane).acc.keys)) ∧
    (data.toNat % 2 ^ 16 = 0x85C3 →
      (s.lane acc.lane).acc.keys.find? (fun k => k.seat == acc.seat.val && k.inst == instPage page) = some ⟨acc.seat.val, instPage page, .first⟩ →
      Completes (.lockKey acc page data) s (fun t =>
        (⟨acc.seat.val, instPage page, .opened s.now⟩ : KeyEnt) ∈ (t.lane acc.lane).acc.keys)) ∧
    (data.toNat % 2 ^ 16 ≠ 0x7A3C → data.toNat % 2 ^ 16 ≠ 0x85C3 → Completes (.lockKey acc page data) s (fun t =>
      ∀ k ∈ (t.lane acc.lane).acc.keys, ¬ (k.seat = acc.seat.val ∧ k.inst = instPage page)))

/-- The key of a seat on an instance stays open for 512 ticks and is then closed (R29): time passes to that instant. -/
def Obligations.KeyWindowCloses : Prop :=
  ∀ (i : LaneId) (seat page t0 : Nat) (s : State),
    (s.lane i).acc.keys.find? (fun k => k.seat == seat && k.inst == instPage page) = some ⟨seat, instPage page, .opened t0⟩ →
    Completes (.keyWindow i seat page) s (fun t => t.now = max s.now (t0 + 512) ∧
      (t.lane i).acc = { (s.lane i).acc with keys := (s.lane i).acc.keys.erase ⟨seat, instPage page, .opened t0⟩ } ∧
      t.lane i.other = (s.untilTick (t0 + 512)).lane i.other ∧ t.base = s.base ∧ t.free = s.free ∧ t.pending = s.pending)

/-- ENABLE and FREEZE of an instance that is no seat (R26), SOFT_RESET and its end (R27), ERR_CODE cleared by CLR (R28): what
the register fields read after the served write. -/
def Obligations.InstanceControlWritesComplete : Prop :=
  ∀ (acc : Acc) (page : Nat) (data : Word) (s : State), s.calm acc.lane → page < 0x1000 → (blkOf page).isSome = true →
    (blkOf page).map Blk.ty ≠ some 0x04 →
    (s.serves acc (Reg.BLK_CTRL page) 4 true data.toNat → bits data 2 2 = 0 → ∀ c, c = Instr.enable acc page data ∨ c = .freeze acc page data →
      Completes c s (fun t =>
        (t.lane acc.lane).get (F.BLK_CTRL.ENABLE (instPage page)) = bits data 0 0 ∧
        (t.lane acc.lane).get (F.BLK_CTRL.FREEZE (instPage page)) = bits data 1 1 ∧
        (∀ a, a ≠ Reg.BLK_CTRL (instPage page) → (t.lane acc.lane).rd a &&& ~~~(sightMask a) = (s.lane acc.lane).rd a &&& ~~~(sightMask a)) ∧
        (t.lane acc.lane).car = (s.lane acc.lane).car ∧ (t.lane acc.lane).dram = (s.lane acc.lane).dram)) ∧
    (s.serves acc (Reg.BLK_CTRL page) 4 true (withBits data 2 2 1).toNat → Completes (.softReset acc page data) s (fun t =>
        (t.lane acc.lane).get (F.BLK_STAT.RESET_BUSY (instPage page)) = 1 ∧
        (t.lane acc.lane).car = (s.lane acc.lane).car ∧ (t.lane acc.lane).dram = (s.lane acc.lane).dram)) ∧
    ((s.lane acc.lane).get (F.BLK_STAT.RESET_BUSY (instPage page)) = 1 → (s.lane acc.lane).acc.held = [] →
      MakesLane (.softResetDone acc.lane page) s acc.lane ((s.lane acc.lane).set (F.BLK_STAT.RESET_BUSY (instPage page)) 0)) ∧
    (s.serves acc (Reg.ERR_CODE page) 4 true (withBits data 31 31 1).toNat → Completes (.errCodeClr acc page data) s (fun t =>
        (t.lane acc.lane).get (F.ERR_CODE.CODE (instPage page)) = 0 ∧ (t.lane acc.lane).get (F.ERR_CODE.SOURCE (instPage page)) = 0 ∧
        (t.lane acc.lane).get (F.ERR_CODE.COUNT (instPage page)) = 0 ∧ (t.lane acc.lane).rd (Reg.ERR_ADDR (instPage page)) = 0#32))

/-- Claims, releases and rights of seats enter the mirror set as entries of KIND 0x04 (R33, R38, R39, R103); the claim's page
shows that it is pending. -/
def Obligations.SeatEntriesEnter : Prop :=
  ∀ (acc : Acc) (data : Word) (s : State), s.calm acc.lane → (s.lane acc.lane).runs = true →
    (∀ c rel, (c, rel) = (Instr.claim acc acc.seat.val data, 0) ∨ (c, rel) = (.tokenRelease acc acc.seat.val data, 1) →
      s.serves acc (Reg.SEAT_CLAIM acc.seat.val) 4 true (withBits data 31 31 rel).toNat →
      Completes c s (fun t => ∃ e, (t.lane acc.lane).pair.entries = (s.lane acc.lane).pair.entries ++ [e] ∧
        e.pay = .claim (withBits data 31 31 rel &&& 0x87FFFFFF#32) ∧ e.kind = 0x04 ∧ e.seat = some acc.seat.val ∧
        e.effect = (s.lane acc.lane).cycN + 2 ∧ e.origin = (s.lane acc.lane).self ∧
        (t.lane acc.lane).get (F.SEAT_CLAIM_STAT.STATE acc.seat.val) = 1 ∧
        (t.lane acc.lane).get (F.SEAT_CLAIM_STAT.TOKEN acc.seat.val) = bits data 23 0)) ∧
    (∀ q off, q < 8 → 0x400 ≤ off → off < 0x800 → off % 4 = 0 → s.serves acc (0x1000 * (0x40 + q) + off) 4 true data.toNat →
      Completes (.seatRightsPage acc q off data) s (fun t => ∃ e, (t.lane acc.lane).pair.entries = (s.lane acc.lane).pair.entries ++ [e] ∧
        e.pay = .rights [(0x1000 * (0x40 + q) + off, data, 0xFFFFFFFF#32)] ∧ e.kind = 0x04 ∧ e.effect = (s.lane acc.lane).cycN + 2 ∧
        (t.lane acc.lane).rd (0x1000 * (0x40 + q) + off) = (s.lane acc.lane).rd (0x1000 * (0x40 + q) + off)))

/-- SEAT_TOKEN_QUERY reads who holds a token as of its write (R476); VALID of the violation latch re-arms it (R43). -/
def Obligations.SeatQueryAndLatchComplete : Prop :=
  ∀ (acc : Acc) (q : Nat) (data : Word) (s : State), s.calm acc.lane → q < 8 →
    let l := s.lane acc.lane
    (s.serves acc (Reg.SEAT_TOKEN_QUERY q) 4 true data.toNat → Completes (.seatTokenQuery acc q data) s (fun t =>
      (t.lane acc.lane).get (F.SEAT_TOKEN_QUERY.TOKEN q) = bits data 23 0 ∧
      (t.lane acc.lane).flag (F.SEAT_TOKEN_QUERY.HELD q) = (l.holder (bits data 23 0)).isSome ∧
      (∀ k, k < 8 → l.holder (bits data 23 0) = some k → (t.lane acc.lane).get (F.SEAT_TOKEN_QUERY.HOLDER q) = k))) ∧
    (s.serves acc (Reg.SEAT_VIOL_INFO q) 4 true (withBits data 31 31 1).toNat → Completes (.seatViolInfo acc q data) s (fun t =>
      (t.lane acc.lane).get (F.SEAT_VIOL_INFO.VALID q) = 0))

/-- A seat's plain write of lane DRAM stores its bytes and no others (R20, R33, R429); a read of DRAM answers the bytes that
stand there. -/
def Obligations.DramAccessesComplete : Prop :=
  ∀ (acc : Acc) (off size data : Nat) (s : State), s.calm acc.lane → off < 0x800000000 → 1 ≤ size → off % 64 + size ≤ 64 →
    (s.lane acc.lane).memi.bad = [] → (s.lane acc.lane).memi.inj = 0 →
    (s.serves acc (0x1000000000 + off) size true data → Completes (.registerWrite acc (0x1000000000 + off) size data) s (fun t =>
      (∀ k, k < size → Sparse.find byte0 (t.lane acc.lane).dram (off + k) = BitVec.ofNat 8 (data / 256 ^ k)) ∧
      (∀ x, x < off ∨ off + size ≤ x → Sparse.find byte0 (t.lane acc.lane).dram x = Sparse.find byte0 (s.lane acc.lane).dram x) ∧
      (t.lane acc.lane).car = (s.lane acc.lane).car ∧ (t.lane acc.lane.other).dram = (s.lane acc.lane.other).dram ∧
      (∀ a, (t.lane acc.lane).rd a &&& ~~~(sightMask a) = (s.lane acc.lane).rd a &&& ~~~(sightMask a)))) ∧
    (s.serves acc (0x1000000000 + off) size false 0 → Completes (.seatRead acc (0x1000000000 + off) size) s (fun t =>
      (off < 0x700000000 ∨ 0x780000000 ≤ off →
        (acc.seat.val, Resp.data (bytesAt (s.lane acc.lane).dram off size)) ∈ (t.lane acc.lane).acc.resp) ∧
      (t.lane acc.lane).dram = (s.lane acc.lane).dram))

/-- A write to a register with RWK fields without an open key (R30), where no earlier check of R41 finds a violation: kind KEY, counted for
the seat, and nothing in the register changes, nor does anything enter the mirror set. -/
def Obligations.KeylessWriteIsAViolation : Prop :=
  ∀ (acc : Acc) (addr : Nat) (data : Word) (r : RegRow) (s : State), let l := s.lane acc.lane
    let q := acc.seat.val
    addr < 0x1000000 → addr % 4 = 0 → rowOf addr = some r → r.rwk ≠ 0 → ¬ (0x40 ≤ addr / 0x1000 ∧ addr / 0x1000 < 0x48) →
    l.sup.valid = true → l.stage = 3 → l.flag (F.BLK_CTRL.ENABLE (0x40 + q)) = true → l.busy addr true = false →
    l.waits acc true = false → l.rightsOf q addr = 2 → l.keyOpen q (addr / 0x1000) s.now = false →
    Completes (.registerWrite acc addr 4 data.toNat) s (fun t => (q, Resp.violation 6) ∈ (t.lane acc.lane).acc.resp ∧
      (t.lane acc.lane).rd addr &&& ~~~(sightMask addr) = l.rd addr &&& ~~~(sightMask addr) ∧
      (t.lane acc.lane).get (F.SEAT_VIOL_COUNT.COUNT q) = min (l.get (F.SEAT_VIOL_COUNT.COUNT q) + 1) (2 ^ 32 - 1) ∧
      (l.get (F.SEAT_VIOL_INFO.VALID q) = 0 → (t.lane acc.lane).rd (Reg.SEAT_VIOL_ADDR q) = word addr ∧
        (t.lane acc.lane).get (F.SEAT_VIOL_INFO.KIND q) = 6) ∧
      (t.lane acc.lane).pair.entries = l.pair.entries ∧ (t.lane acc.lane).car = l.car ∧ (t.lane acc.lane).dram = l.dram)

/-- Supply and slot (R71, R72, R83, R113, R456): a cartridge seated with supply, or supply that becomes valid, leaves the lane
POWERED as a reset of kind P leaves it, its ejector's indicator amber; seated without supply it stays ABSENT with the indicator dark;
an entry that changes shows in SYS_SUPPLY with SUPPLY_CHG, and an empty slot keeps what its entries read; with both entries lost the
lane rides through; a loss that has lasted 1 ms leaves it ABSENT. -/
def Obligations.SupplyCommandsComplete : Prop :=
  ∀ (i : LaneId) (s : State),
    (∀ c, (s.lane i).sup.seated = false → (s.lane i).sup.ok1 = true ∨ (s.lane i).sup.ok2 = true →
      Completes (.cartridgeSeated i c) s (fun t =>
        s.Makes t i ((c.lane i.num (s.lane i).sup).powerOn s.now) [] ∧ (t.lane i).st = .powered ∧ (t.lane i).sup.valid = true ∧
        (t.lane i).ejectLamp = .amber)) ∧
    (∀ c, (s.lane i).sup.seated = false → (s.lane i).sup.ok1 = false → (s.lane i).sup.ok2 = false →
      Completes (.cartridgeSeated i c) s (fun t =>
        s.Makes t i (c.lane i.num (s.lane i).sup) [] ∧ (t.lane i).st = .absent ∧ (t.lane i).sup.seated = true ∧
        (t.lane i).sup.valid = false ∧ (t.lane i).ejectLamp = .dark)) ∧
    ((s.lane i).sup.seated = true → (s.lane i).sup.valid = false → (s.lane i).sup.ok1 = true ∨ (s.lane i).sup.ok2 = true →
      Completes (.supplyValid i) s (fun t =>
        s.Makes t i ((s.lane i).powerOn s.now) [] ∧ (t.lane i).st = .powered ∧ (t.lane i).sup.valid = true)) ∧
    (∀ v, (s.lane i).sup.seated = true → (s.lane i).sup.valid = true → Completes (.supplyChg i false v) s (fun t =>
      (t.lane i).get F.SYS_SUPPLY.PWR1_OK = (if 90 ≤ v then 1 else 0) ∧ (t.lane i).get F.SYS_SUPPLY.PWR1_V = min v 255 ∧
      ((s.lane i).sup.ok1 ≠ decide (90 ≤ v) → ((t.lane i).rd (Reg.EV_PEND 0)).getLsbD 1 = true) ∧
      (∀ a, a ≠ Reg.SYS_SUPPLY → a ≠ Reg.EV_PEND 0 → (t.lane i).rd a = (s.lane i).rd a) ∧ t.lane i.other = s.lane i.other)) ∧
    (∀ v, (s.lane i).sup.seated = true → (s.lane i).sup.valid = true → Completes (.supplyChg i true v) s (fun t =>
      (t.lane i).get F.SYS_SUPPLY.PWR2_OK = (if 90 ≤ v then 1 else 0) ∧ (t.lane i).get F.SYS_SUPPLY.PWR2_V = min v 255 ∧
      ((s.lane i).sup.ok2 ≠ decide (90 ≤ v) → ((t.lane i).rd (Reg.EV_PEND 0)).getLsbD 1 = true) ∧
      (∀ a, a ≠ Reg.SYS_SUPPLY → a ≠ Reg.EV_PEND 0 → (t.lane i).rd a = (s.lane i).rd a) ∧ t.lane i.other = s.lane i.other)) ∧
    (∀ second v, (s.lane i).sup.seated = false → Completes (.supplyChg i second v) s (fun t =>
      (t.lane i).regs = (s.lane i).regs ∧ t.lane i.other = s.lane i.other ∧ (t.lane i).sup =
        if second then { (s.lane i).sup with ok2 := decide (90 ≤ v), v2 := min v 255 }
        else { (s.lane i).sup with ok1 := decide (90 ≤ v), v1 := min v 255 })) ∧
    ((s.lane i).sup.valid = true → (s.lane i).sup.ok1 = true ∨ (s.lane i).sup.ok2 = true → Completes (.rideThrough i) s (fun t =>
      (t.lane i).sup.ride.isSome = true ∧ (t.lane i).get F.SYS_SUPPLY.RIDE = 1 ∧ (t.lane i).get F.SYS_SUPPLY.PWR1_OK = 0 ∧
      (t.lane i).get F.SYS_SUPPLY.PWR2_OK = 0 ∧ ((t.lane i).rd (Reg.EV_PEND 0)).getLsbD 1 = true ∧ t.lane i.other = s.lane i.other)) ∧
    (∀ t0, (s.lane i).sup.ride = some t0 → Completes (.supplyLoss i) s (fun t =>
      s.now ≤ t.now ∧ t0 + 400000 ≤ t.now ∧ (t.lane i).sup.valid = false ∧ (t.lane i).st = .absent))

/-- The stages of a start (R73, R76, R79, R87, R113, R130, R319): PIP_RUN takes the lane to PIP at S0 with its standing booking made;
at S1 it is a KEEPER that asks for primacy and sends hold frames, or SHADOW beside a lane that drives; at T_org the KEEPER with
primacy computes its first cycle at S2, SOLO, or PAIRED with a KEEPER of the same images and origin, while a lane in SHADOW only
reaches the stage; at S3 seats and endpoint are bound; the KEEPER with primacy fixes the grid's origin on the phase, no earlier than
1 ms on, and over the link the other KEEPER takes it. -/
def Obligations.StageCommandsComplete : Prop :=
  ∀ (i : LaneId) (s : State),
    let l := s.lane i
    let o := s.lane i.other
    let prime := s.base.primacy = some i ∧ l.sup.valid = true ∧ l.flag F.PAIR_STAT.PRIM_REQ = true
    (l.sup.valid = true → l.st = .powered ∨ l.st = .pip → l.start.pipRun = false → l.pip.faultAt = none →
      Completes (.pipRun i) s (fun t =>
        s.Makes t i ((((Lane.reach { l with start := { l.start with pipRun := true } } 0 s.now).bookS0.goTo .pip)).pipStart s.now) [] ∧
        (t.lane i).start.pipRun = true ∧ (t.lane i).st = .pip ∧ (t.lane i).stage = 0)) ∧
    (l.st = .pip → l.start.pipRun = true → l.start.inReset = none → l.sup.valid = true → l.booted = true → s.otherRuns i = false →
      Completes (.stageS1 i) s (fun t => (t.lane i).st = .keeper ∧ (t.lane i).get F.PAIR_STAT.PRIM_REQ = 1 ∧
        (t.lane i).cyc.holdFrames = true ∧ t.now = s.now)) ∧
    (l.st = .pip → l.start.pipRun = true → l.start.inReset = none → l.sup.valid = true → l.booted = true → s.otherRuns i = true →
      l.flag F.PAIR_STAT.PRIM_REQ = false → Completes (.stageS1 i) s (fun t => (t.lane i).st = .shadow ∧
        (t.lane i).flag F.PAIR_STAT.PRIM_REQ = false ∧ t.now = s.now)) ∧
    (∀ h, l.st = .shadow → l.stage = 1 → s.base.primacy = some h → (s.lane h).sup.valid = true → (s.lane h).flag F.PAIR_STAT.PRIM_REQ = true →
      Completes (.stageS2 i) s (fun t =>
      s.Makes t i ((l.reach 2 s.now).log1 0x10 0 0x0105
        (if o.runs && s.linked then [(8, o.cycN), (8, o.tOf o.cycN)] else [(8, l.cycN), (8, l.tOf l.cycN)])) [] ∧
      (t.lane i).stage = 2 ∧ ((t.lane i).rd (Reg.EV_PEND 0)).getLsbD 0 = true)) ∧
    (∀ n org, l.st = .keeper → l.stage = 1 → prime → l.start.origin = some (n, org) → 1 ≤ n → n < 2 ^ 64 → 0 < l.incr →
      sameStart l o = false → Completes (.stageS2 i) s (fun t => s.now ≤ t.now ∧ org ≤ (t.lane i).t64 ∧ (t.lane i).st = .solo ∧
        (t.lane i).stage = 2 ∧ (t.lane i).running = true ∧ (t.lane i).cycN = n - 1 ∧ (t.lane i).get F.PAIR_STAT.PRESENT = 1 ∧
        (t.lane i).cyc.holdFrames = false)) ∧
    (∀ n org, l.st = .keeper → l.stage = 1 → o.stage = 1 → prime → l.start.origin = some (n, org) → 1 ≤ n → n < 2 ^ 64 → 0 < l.incr →
      sameStart l o = true → Completes (.stageS2 i) s (fun t => s.now ≤ t.now ∧ org ≤ (t.lane i).t64 ∧ ∀ j, (t.lane j).st = .paired ∧
        (t.lane j).stage = 2 ∧ (t.lane j).running = true ∧ (t.lane j).cycN = n - 1 ∧ (t.lane j).get F.PAIR_STAT.PRESENT = 1 ∧
        (t.lane j).cyc.holdFrames = false)) ∧
    (l.stage = 2 → l.st = .shadow ∨ l.drives = true → Completes (.stageS3 i) s (fun t =>
      s.Makes t i (((l.reach 3 s.now).seatsS3).bindPcie.workShow s.now) [] ∧ (t.lane i).stage = 3 ∧ (t.lane i).start.seatsIn = true)) ∧
    (l.st = .keeper → prime → l.start.warmOk = false → l.start.origin = none → l.image.isSome = true → 0 < l.period →
      o.st ≠ .keeper ∨ o.start.warmOk = false → Completes (.gridOrigin i) s (fun t => ∃ n org,
        (t.lane i).start.origin = some (n, org) ∧ 2 ^ 32 ≤ n ∧ l.t64 + 1000000 ≤ org ∧ org < l.t64 + 1000000 + l.period ∧
        org % l.period = l.get F.CYCLE_PHASE_CFG.NS % l.period ∧
        (t.lane i).rd Reg.CYCLE_ORG_T_LO = word org ∧ (t.lane i).rd Reg.CYCLE_ORG_NUM_LO = word n ∧
        (o.st ≠ .keeper ∨ s.linked = false → t.lane i.other = o) ∧
        (o.st = .keeper → s.linked = true → o.start.origin = none → o.image.isSome = true →
          (t.lane i.other).start.origin = some (n, org) ∧ (t.lane i.other).rd Reg.CYCLE_ORG_T_LO = word org)))

/-- Faults and resets of a lane (R46, R80, R83–R85, R113): a lane whose PLL loses lock is FAULTED; at the end of its dwell it
resets with kind L, as by LANE_RESET with FORCE; released, it starts warm or says why not. -/
def Obligations.ResetCommandsComplete : Prop :=
  ∀ (i : LaneId) (s : State),
    (faultable (s.lane i).st = true → Completes (.pllLoss i) s (fun t => (t.lane i).st = .faulted ∧
      (t.lane i).start.faultedAt = s.now ∧ (t.lane i).get F.PAIR_STAT.PRESENT = 0 ∧ (t.lane i).get F.PAIR_STAT.PRIM_REQ = 0 ∧ t.now = s.now)) ∧
    ((s.lane i).st = .faulted → (s.lane i).flag F.SYS_CTRL.HOLD_FAULTED = false → s.now = (s.lane i).start.faultedAt + (s.lane i).dwell →
      Completes (.faultDwell i) s (fun t => (t.lane i).start.inReset = some 3 ∧
        (t.lane i).get F.SYS_RESET_COUNT.COUNT = min ((s.lane i).get F.SYS_RESET_COUNT.COUNT + 1) (2 ^ 32 - 1) ∧ (t.lane i).dram = (s.lane i).dram)) ∧
    (∀ acc data, s.calm acc.lane → s.serves acc Reg.SYS_CTRL 4 true (withBits data 0 0 1).toNat → bits data 1 1 = 1 →
      (s.lane acc.lane).st ≠ .faulted →
      Completes (.laneReset acc data) s (fun t => (t.lane acc.lane).start.inReset = some 2 ∧ (t.lane acc.lane).dram = (s.lane acc.lane).dram)) ∧
    (∀ acc data, s.calm acc.lane → s.serves acc Reg.SYS_CTRL 4 true (withBits data 2 2 0).toNat → (s.lane acc.lane).st ≠ .faulted →
      bits data 0 0 = 0 → Completes (.holdFaulted acc data) s (fun t => (t.lane acc.lane).get F.SYS_CTRL.HOLD_FAULTED = 0 ∧
        (t.lane acc.lane).st = (s.lane acc.lane).st)) ∧
    (∀ c, (s.lane i).start.inReset = some c → Completes (.resetRelease i) s (fun t => (t.lane i).start.inReset = none ∧
      (t.lane i).start.warmOk = decide ((t.lane i).get F.SYS_WARM.REASON = 0) ∧ (t.lane i).start.t0 = s.now ∧ t.now = s.now))

/-- Two KEEPERs that start warm compare their snapshots over the pair link and resume from the highest cycle for which they hold
complete snapshots with equal digests of the same images, or, without one or without the link, the holder of primacy alone from its
latest (R81, R94). The lane that resumes sends hold frames up to N_r + 2 (R82). -/
def Obligations.WarmStartCommandsComplete : Prop :=
  ∀ (s : State) (h : LaneId), s.base.primacy = some h → (s.lane h).sup.valid = true → (s.lane h).flag F.PAIR_STAT.PRIM_REQ = true →
    (s.a.warmKeeper = true → s.b.warmKeeper = true →
      (∀ n, s.linked = true → commonSnap s.a s.b = some n → Completes .snapshotExchange s (fun t =>
        t.a.start.resume = some n ∧ t.b.start.resume = some n)) ∧
      (s.linked = false ∨ commonSnap s.a s.b = none → Completes .snapshotExchange s (fun t =>
        (t.lane h).start.resume = (s.lane h).latestSnap ∧ (t.lane h.other).start.warmOk = false ∧
        (t.lane h.other).get F.SYS_WARM.REASON = 5 ∧ ((t.lane h.other).rd (Reg.EV_PEND 0)).getLsbD 2 = true))) ∧
    (∀ ns, (s.lane h).st = .keeper → (s.lane h).start.resume = some ns → (s.lane h).pair.promo = none → (s.lane h).running = false →
      (s.lane h.other).st = .shadow → (∀ j, s.calm j ∧ (s.lane j).acc.held = []) → Completes (.warmResume h) s (fun t =>
        s.now ≤ t.now ∧ (t.lane h).st = .solo ∧ (t.lane h).running = true ∧ (t.lane h).start.resume = none ∧
        (t.lane h).cyc.holdFrames = true ∧ (t.lane h).cyc.holdTo = (s.lane h).resumeCycle ns + 2))

/-- Writes of the time block that both lanes are to take at once enter the mirror set (R33, R65, R66, R472): TT_CTRL, TT_TGT_HI
and TIME_CTRL as register writes, TIME_SET_HI with the low half as the time to be set. -/
def Obligations.TimeWritesEnter : Prop :=
  ∀ (acc : Acc) (data : Word) (s : State), s.calm acc.lane → (s.lane acc.lane).runs = true →
    (∀ n, n < 32 → s.serves acc (Reg.TT_CTRL n) 4 true data.toNat → Completes (.ttCtrl acc n data) s (fun t =>
      s.entersWrite t acc (Reg.TT_CTRL n) (.regWrite [(Reg.TT_CTRL n, data, mirMask (Reg.TT_CTRL n))]))) ∧
    (∀ n, n < 32 → s.serves acc (Reg.TT_TGT_HI n) 4 true data.toNat → Completes (.ttTgtHi acc n data) s (fun t =>
      s.entersWrite t acc (Reg.TT_TGT_HI n) (.regWrite [(Reg.TT_TGT_HI n, data, 0xFFFFFFFF#32)]))) ∧
    (s.serves acc Reg.TIME_CTRL 4 true data.toNat → timeCtrlBad data = false → Completes (.timeCtrl acc data) s (fun t =>
      s.entersWrite t acc Reg.TIME_CTRL (.regWrite [(Reg.TIME_CTRL, data, mirMask Reg.TIME_CTRL)]))) ∧
    (s.serves acc Reg.TIME_SET_HI 4 true data.toNat → Completes (.timeSetHi acc data) s (fun t =>
      s.entersWrite t acc Reg.TIME_SET_HI (.timeSet (((s.lane acc.lane).rd Reg.TIME_SET_LO).toNat + data.toNat * 2 ^ 32))))

/-- A read of the LO register of a pair answers its word and keeps the HI word of the same instant for the reading seat; that seat's
next read of HI answers the word kept, and keeps it no longer; a 64-bit read answers both halves of one instant (R70). -/
def Obligations.PairedReadCaptures : Prop :=
  ∀ (acc : Acc) (addr : Nat) (s : State), s.calm acc.lane → addr < 0x1000000 → (hiOf addr).isSome = true →
    let l := s.lane acc.lane
    let q := acc.seat.val
    (s.serves acc addr 4 false 0 → Completes (.timeNowLo acc addr 4) s (fun t =>
      (q, Resp.data (s.seenWord acc.lane q addr &&& readMask addr).toNat) ∈ (t.lane acc.lane).acc.resp ∧
      (⟨q, addr + 4, s.seenWord acc.lane q (addr + 4)⟩ : Captured) ∈ (t.lane acc.lane).acc.captured ∧
      (t.lane acc.lane).car = l.car ∧ (t.lane acc.lane).dram = l.dram ∧
      (∀ a, (t.lane acc.lane).rd a &&& ~~~(sightMask a) = l.rd a &&& ~~~(sightMask a)))) ∧
    (∀ w, s.serves acc (addr + 4) 4 false 0 → hiOf (addr + 4) = none →
      l.acc.captured.find? (fun x => x.party == q && x.addr == addr + 4) = some ⟨q, addr + 4, w⟩ →
      Completes (.seatRead acc (addr + 4) 4) s (fun t => (q, Resp.data w.toNat) ∈ (t.lane acc.lane).acc.resp ∧
        (∀ x ∈ (t.lane acc.lane).acc.captured, ¬ (x.party = q ∧ x.addr = addr + 4)) ∧
        (∀ a, (t.lane acc.lane).rd a &&& ~~~(sightMask a) = l.rd a &&& ~~~(sightMask a)))) ∧
    (s.serves acc addr 8 false 0 → hiOf (addr + 4) = none → Completes (.seatRead acc addr 8) s (fun t =>
      (q, Resp.data ((s.seenWord acc.lane q addr &&& readMask addr).toNat + (s.seenWord acc.lane q (addr + 4)).toNat * 2 ^ 32)) ∈
        (t.lane acc.lane).acc.resp ∧
      (∀ a, (t.lane acc.lane).rd a &&& ~~~(sightMask a) = l.rd a &&& ~~~(sightMask a))))

/-- A write of TIME_CTRL that names a reserved source or port is refused (R472): ERR_CODE 0x42 on page 0 of the time block, no entry in
the mirror set, no field of TIME_CTRL changed, the source as it was. -/
def Obligations.ReservedTimeSourceRefused : Prop :=
  ∀ (acc : Acc) (data : Word) (s : State), s.calm acc.lane → s.serves acc Reg.TIME_CTRL 4 true data.toNat →
    4 ≤ bits data 2 0 ∨ 4 ≤ bits data 5 3 → let l := s.lane acc.lane
    MakesLane (.timeCtrl acc data) s acc.lane ((l.answered acc Reg.TIME_CTRL s.now none .done).err timePage 0x42 acc.seat.val Reg.TIME_CTRL) ∧
    Completes (.timeCtrl acc data) s (fun t => (t.lane acc.lane).rd Reg.TIME_CTRL = l.rd Reg.TIME_CTRL ∧
      (t.lane acc.lane).get F.TIME_STAT.SOURCE_ACT = l.get F.TIME_STAT.SOURCE_ACT ∧ (t.lane acc.lane).pair.entries = l.pair.entries ∧
      (l.get (F.ERR_CODE.CODE timePage) = 0 → (t.lane acc.lane).get (F.ERR_CODE.CODE timePage) = 0x42))

/-- Events of the time block (R49, R54–R57, R60–R62, R64): an armed trigger whose target is reached fires; a servo measurement shows
the offset, slews the increment of the leading lane and runs in shadow on the follower, and in free-run shows the 10 MHz input
there; a lost reference shows, and takes a leading lane in LOCKED to HOLDOVER; a PPS edge shows, and with source 3 moves the second
phase by slewing; a marker aligns the follower. -/
def Obligations.TimeEventsComplete : Prop :=
  ∀ (i : LaneId) (s : State), s.live i →
    let l := s.lane i
    (∀ n, n < 32 → l.flag (F.TT_CTRL.ARM n) = true → (l.trig n).next ≤ l.t64 → (∀ u, u < 64 → l.get (F.CAPT_TU_CFG.KIND u) ≠ 3) →
      0 < l.incr → l.flag (F.TT_CTRL.PERIODIC n) = false → l.flag (F.TT_CTRL.IRQ n) = true →
      MakesLane (.timeTrigger i n) s i
        (((l.wr Reg.TT_FIRED (l.rd Reg.TT_FIRED ||| word (2 ^ n))).ev timePage 5).set (F.TT_CTRL.ARM n) 0)) ∧
    (∀ (off : Int) (utc : Word), l.leads = false → l.get F.TIME_STAT.SOURCE_ACT = 1 ∨ l.get F.TIME_STAT.SOURCE_ACT = 2 →
      MakesLane (.timeServoUpdate i off utc) s i
        (Lane.learn { l.wr Reg.TIME_OFFSET (word (twos 32 (clampI off (-2147483647) 2147483647))) with
          time := { l.time with good := min (if off.natAbs < 100 then l.time.good + 1 else 0) 16 } } off)) ∧
    (∀ (off : Int) (utc : Word), l.get F.TIME_STAT.SOURCE_ACT = 0 → l.get F.TIME_CTRL.SOURCE ≠ 3 → MakesLane (.timeServoUpdate i off utc) s i
      ((l.wr Reg.TIME_OFFSET (word (twos 32 (clampI off (-2147483647) 2147483647)))).set F.TIME_STAT.REF10_PRESENT 1)) ∧
    (∀ (off : Int), l.leads = true → l.get F.TIME_STAT.SOURCE_ACT = 1 ∨ l.get F.TIME_STAT.SOURCE_ACT = 2 → off.natAbs < 100 →
      off.natAbs < l.get F.TIME_STEP_LIMIT.US * 1000 → l.time.good < 15 → l.nextState = 3 →
      MakesLane (.timeServoUpdate i off (l.rd Reg.TIME_UTC)) s i
        (Lane.slew { l.wr Reg.TIME_OFFSET (word (twos 32 (clampI off (-2147483647) 2147483647))) with
          time := { l.time with good := l.time.good + 1 } } off)) ∧
    (l.leads = false → l.get F.TIME_STAT.SOURCE_ACT = 1 ∨ l.get F.TIME_STAT.SOURCE_ACT = 2 → MakesLane (.refLost i) s i
      (Lane.ev { l with time := { l.time with good := 0 } } timePage 2)) ∧
    (l.leads = true → l.get F.TIME_STAT.SOURCE_ACT = 1 ∨ l.get F.TIME_STAT.SOURCE_ACT = 2 → l.nextState = 3 → l.running = false →
      MakesLane (.refLost i) s i ((Lane.ev { l with time := { l.time with good := 0 } } timePage 2).timeState 4)) ∧
    (∀ b, l.time.pendSet = none →
      let stamp : Nat := (fineStamp l.time.acc l.incr b).1
      let m : Lane := { ((l.set64 Reg.TIME_PPSIN_LO Reg.TIME_PPSIN_HI stamp).set F.TIME_STAT.PPS_PRESENT 1).ev timePage 6 with time := { l.time with pps := some s.now } }
      let off : Int := (stamp : Int) - ((stamp + 500000000) / 1000000000 * 1000000000 : Nat)
      MakesLane (.ppsIn i b) s i
        (if l.get F.TIME_STAT.SOURCE_ACT = 3 ∧ l.leads = true ∧ 1000 < off.natAbs then m.slew off else m)) ∧
    (∀ t1 t2 t3 t4 asym : Int, l.leads = false → s.linked = true →
      (Int.fdiv ((t2 - t1) - (t4 - t3)) 2 - asym).natAbs ≤ 256 →
      Completes (.pairTimeMarker i t1 t2 t3 t4 asym) s (fun t =>
        (t.lane i).get F.TIME_STAT.ALIGN_OK = 1 ∧ (t.lane i).time.miss = 0 ∧ (t.lane i).time.unaligned = false ∧
        (t.lane i).get F.TIME_ALIGN.OFS = twos 16 (Int.fdiv ((t2 - t1) - (t4 - t3)) 2 - asym) ∧
        t.lane i.other = s.lane i.other ∧ t.base = s.base ∧ t.now = s.now))

/-- The power ledger's commands (R87–R92): a request of a class that the ledger has joins those of its CLK_REG cycle, by class and
asker, or, of mirrored scope on a lane that runs, enters the mirror set; at the cycle's end one that fits is granted, one that can
never fit refused and counted, any other waits; a grant ends with its window, is released, or comes back once its revoked operation has
stopped; a waiting request is refused when its time is up; the measured draw shows, and holds back local grants while it exceeds the
budget. That a class 0 or 1 request outside Economy does nothing is the model's reading (log entry 173). -/
def Obligations.LedgerCommandsComplete : Prop :=
  ∀ (i : LaneId) (s : State), s.live i →
    let l := s.lane i
    (∀ cls q dur who, l.hasClass cls = true → mirroredClass cls = false ∨ l.runs = false → MakesLane (.ledgerRequest i cls q dur who) s i
      { l with ledger := { l.ledger with asked := insAsk ⟨cls, classSize cls q, dur, l.ledger.arrivals, s.now, who⟩ l.ledger.asked } }) ∧
    (∀ cls q dur who, l.hasClass cls = true → mirroredClass cls = true → l.runs = true → Completes (.ledgerRequest i cls q dur who) s (fun t =>
      ∃ e, (t.lane i).pair.entries = l.pair.entries ++ [e] ∧ e.pay = .ledger cls (classSize cls q) dur who ∧ e.kind = 0x07 ∧
        e.effect = l.cycN + 2 ∧ e.origin = l.self ∧ (t.lane i).ledger = l.ledger)) ∧
    (∀ cls q dur who, l.hasClass cls = false → MakesLane (.ledgerRequest i cls q dur who) s i l) ∧
    (∀ r, s.pending = [] → s.base.primacy.isSome = true → s.now % 2 = 1 → l.ledger.asked = [r] → r.cls = 3 ∨ r.cls = 4 →
      let q : LReq := { r with order := l.ledger.arrivals, since := s.now + 1 }
      ∃ t, step s = .next t ∧ t.now = s.now + 1 ∧ (t.lane i).ledger.asked = [] ∧
        (r.quanta ≤ l.pool → l.fits r = true → (t.lane i).ledger.grants = l.ledger.grants ++ [⟨q, s.now + 1⟩] ∧
          (t.lane i).ledger.waiting = l.ledger.waiting) ∧
        (l.pool < r.quanta → (t.lane i).ledger.grants = l.ledger.grants ∧ (t.lane i).ledger.waiting = l.ledger.waiting ∧
          (t.lane i).get (F.LEDGER_CLASS.REFUSED r.cls) = min (l.get (F.LEDGER_CLASS.REFUSED r.cls) + 1) 255 ∧
          ((t.lane i).rd (Reg.EV_PEND ledgerPage)).getLsbD 0 = true) ∧
        (r.quanta ≤ l.pool → l.fits r = false → l.get (F.LEDGER_WAIT.MS r.cls) ≠ 0 →
          (t.lane i).ledger.grants = l.ledger.grants ∧ (t.lane i).ledger.waiting = insReq q l.ledger.waiting)) ∧
    (∀ g, l.ledger.grants = [g] → l.ledger.waiting = [] → 4 ≤ g.req.cls → g.req.cls < 6 → s.now = g.g + ticksOf g.req.dur →
      Completes (.grantEnd i) s (fun t => (t.lane i).ledger.grants = [] ∧ (t.lane i).get F.LEDGER_BOOK.GRANTED = 0 ∧ t.now = s.now)) ∧
    (∀ cls who, l.ledger.waiting = [] → Completes (.ledgerRelease i cls who) s (fun t =>
      (t.lane i).ledger.grants = l.ledger.grants.filter (fun g => !(g.req.cls == cls && g.req.who == who)))) ∧
    (∀ r rest, l.ledger.stopping = r :: rest → l.ledger.waiting = [] → 4 ≤ r.cls → r.cls < 6 → l.fits { r with since := s.now } = false →
      Completes (.revokedStop i) s (fun t => (t.lane i).ledger.stopping = rest ∧
        (t.lane i).ledger.waiting = [{ r with since := s.now }] ∧ (t.lane i).ledger.grants = l.ledger.grants)) ∧
    (∀ r, l.ledger.waiting = [r] → 4 ≤ r.cls → r.cls < 6 → l.get (F.LEDGER_WAIT.MS r.cls) ≠ 0xFFFF →
      s.now = r.since + l.get (F.LEDGER_WAIT.MS r.cls) * 400000 + 1 → Completes (.ledgerWait i) s (fun t =>
        (t.lane i).ledger.waiting = [] ∧
        (t.lane i).get (F.LEDGER_CLASS.REFUSED r.cls) = min (l.get (F.LEDGER_CLASS.REFUSED r.cls) + 1) 255)) ∧
    (∀ mw, l.get F.LEDGER_STAT.BUDGET * 250 < mw → MakesLane (.overMeas i mw) s i
      (Lane.ev { l.set F.LEDGER_MEAS.MW (min mw 65535) with ledger := { l.ledger with excess := true } } ledgerPage 2)) ∧
    (∀ mw, mw < l.get F.LEDGER_STAT.BUDGET * 250 → l.ledger.waiting = [] → Completes (.overMeasClear i mw) s (fun t =>
      (t.lane i).ledger.excess = false ∧ (t.lane i).get F.LEDGER_MEAS.MW = min mw 65535 ∧
      (t.lane i).ledger.grants = l.ledger.grants))

/-- Primacy (R60, R79, R107, R108, R283): the arbiter grants it, at the end of the request's REF period, to the lane whose request it
serves, and the AO selectors follow; it withdraws it from a lane that has stopped asking, or whose toggle has stopped, which goes on
leading time only if it is alone; 1 µs later, with no holder, the selectors are open. -/
def Obligations.PrimacyCommandsComplete : Prop :=
  ∀ (s : State), (∀ j, s.calm j ∧ (s.lane j).acc.held = []) →
    (∀ i, s.base.primacy = none → s.requester = some i → (s.lane i).st ≠ .shadow → s.a.runs = false → s.b.runs = false →
      (∀ j, (s.lane j).pair.waitDiv = none ∧ (s.lane j).pair.waitLink = none) → Completes .primacyGrant s (fun t =>
        t.base.primacy = some i ∧ t.base.freeAt = none ∧ t.base.aoSel = some i ∧ t.now = max s.now s.grantFrom ∧
        t.base.lost = none ∧ (t.lane i).get F.SYS_STATE.PRIMACY = 1 ∧
        (t.lane i.other).get F.SYS_STATE.PRIMACY = 0)) ∧
    (∀ i c, s.base.primacy = some i → s.withdrawCause = some c → Completes .primacyWithdraw s (fun t =>
      t.base.primacy = none ∧ t.base.freeAt = some s.now ∧ t.base.aoSel = s.base.aoSel ∧ t.base.lost = some i ∧
      (t.lane i).get F.TIME_STAT.LEADER = (if (s.lane i).st = .solo then 1 else 0) ∧
      (∀ h ∈ (t.lane i).axis.hw, h.gates = false) ∧ (∀ j, (t.lane j).pair.cause = c))) ∧
    (∀ i, s.base.primacy = some i → Completes .toggleStop s (fun t =>
      t.base.primacy = none ∧ t.base.freeAt = some s.now ∧ t.base.lost = some i ∧
      (t.lane i).get F.TIME_STAT.LEADER = (if (s.lane i).st = .solo then 1 else 0) ∧ (∀ j, (t.lane j).pair.cause = 5))) ∧
    (∀ t0, s.base.freeAt = some t0 → Completes .selectorOpen s (fun t =>
      t.base.aoSel = none ∧ t.base.aoTerm = [] ∧ t.now = max s.now (t0 + 400) ∧ t.base.primacy = s.base.primacy))

/-- Leaving and handing over (R110, R113, R114, R126): TRANSFER between PAIRED lanes, LEAVE of a PAIRED lane, its ejector and
FW_START enter the mirror set as entries of KIND 0x02 with effect two cycles on; a lane in LEAVING whose ejector closes is in
SHADOW; a cartridge withdrawn leaves its lane ABSENT. -/
def Obligations.LeaveCommandsComplete : Prop :=
  ∀ (s : State),
    (∀ acc data c f pay, (c, f, pay) = (Instr.transfer acc data, F.PAIR_CTRL.TRANSFER, Payload.transfer) ∨
        (c, f, pay) = (Instr.leave acc data, F.PAIR_CTRL.LEAVE, Payload.leave acc.lane (decide (bits data 2 2 = 1)) false) →
      s.calm acc.lane → s.a.st = .paired → s.b.st = .paired → (s.lane acc.lane).running = true → bits data 5 5 = 0 → bits data 1 0 = 0 →
      s.serves acc Reg.PAIR_CTRL 4 true (withBits data f.hi f.lo 1).toNat → Completes c s (fun t =>
        ∃ e, (t.lane acc.lane).pair.entries = (s.lane acc.lane).pair.entries ++ [e] ∧ e.pay = pay ∧ e.kind = 0x02 ∧
          e.effect = (s.lane acc.lane).cycN + 2 ∧ e.seat = some acc.seat.val ∧ (t.lane acc.lane).st = .paired)) ∧
    (∀ acc data h v c, s.calm acc.lane → s.a.st = .paired → s.b.st = .paired → s.base.primacy = some h → bits data 1 0 = 0 →
      (∀ j, (s.lane j).running = true) → (∀ j, bootBank (s.lane j).host.banks ((s.lane j).get F.HOST_SEC_STAT.FUSED) = some (v, c, (s.lane j).get F.PAIR_COMPAT.OWN)) →
      s.serves acc Reg.PAIR_CTRL 4 true (withBits data 5 5 1).toNat → Completes (.fwStart acc data none) s (fun t =>
        ∃ e, (t.lane h.other).pair.entries = (s.lane h.other).pair.entries ++ [e] ∧ e.pay = .leave h.other true true ∧
          e.effect = (s.lane h.other).cycN + 2 ∧ (∀ j, (t.lane j).start.fwPending = true))) ∧
    (∀ i, (s.lane i).sup.seated = true → (s.lane i).sup.closed = true → (s.lane i).st = .paired → Completes (.ejectorOpen i) s (fun t =>
      ∃ e, (t.lane i).pair.entries = (s.lane i).pair.entries ++ [e] ∧ e.pay = .leave i false false ∧ e.effect = (s.lane i).cycN + 2 ∧
        (t.lane i).sup.closed = false ∧ (t.lane i.other).get F.SYS_ROLE.OTHER_SEATED = 0)) ∧
    (∀ i, (s.lane i).sup.seated = true → (s.lane i).sup.closed = false → (s.lane i).st = .leaving → Completes (.ejectorClose i) s (fun t =>
      (t.lane i).st = .shadow ∧ (t.lane i).sup.closed = true ∧ (t.lane i.other).get F.SYS_ROLE.OTHER_SEATED = 1)) ∧
    (∀ i, (s.lane i).sup.seated = true → s.base.primacy = some i.other → (s.lane i.other).sup.valid = true → (s.lane i.other).st = .solo →
      (s.lane i.other).flag F.PAIR_STAT.PRIM_REQ = true → Completes (.cartridgeRemoved i) s (fun t =>
        (t.lane i).st = .absent ∧ (t.lane i).sup.seated = false ∧ (t.lane i).sup.ok1 = (s.lane i).sup.ok1 ∧ (t.lane i.other).get F.SYS_ROLE.OTHER_SEATED = 0))

/-- The pair link and a rejoin (R118, R121–R124, R348): a link lane that comes up at both ends shows; a rejoin begins in phase
1, automatically or by START, and ends with ABORT; phase 2 that times out counts a failure and begins again; the rejoin set
brings phase 3, a replayed cycle is noted, the running pip's record is taken over; firmware received with the compatibility
number of the running lane is installed with a reset. -/
def Obligations.RejoinCommandsComplete : Prop :=
  ∀ (i : LaneId) (s : State),
    (∀ n, n < 4 → s.a.linkable = true → s.b.linkable = true → s.a.flag ⟨Reg.PAIR_STAT, n, n⟩ = false → s.b.flag ⟨Reg.PAIR_STAT, n, n⟩ = false →
      (s.lane i).st ≠ .shadow → (s.lane i.other).st ≠ .shadow → Completes (.linkChg n true) s (fun t => ∀ j,
        (t.lane j).flag ⟨Reg.PAIR_STAT, n, n⟩ = true ∧ ((t.lane j).rd (Reg.EV_PEND pairPage)).getLsbD 3 = true)) ∧
    (s.rejoinReady i = true → (s.lane i).flag F.PAIR_CTRL.AUTO_REJOIN = true → Completes (.rejoinBegin i) s (fun t => ∀ j,
      (t.lane j).get F.PAIR_RJ_STAT.PHASE = 1 ∧ (t.lane j).pair.rejoin.isSome = true)) ∧
    (∀ acc data, acc.lane = i → s.calm i → bits data 1 1 = 0 → s.rejoinReady i = true → (s.lane i).flag F.PAIR_CTRL.AUTO_REJOIN = false →
      (s.lane i).linked = true → s.serves acc Reg.PAIR_RJ_CTRL 4 true (withBits data 0 0 1).toNat → Completes (.rjStart acc data) s (fun t => ∀ j,
        (t.lane j).get F.PAIR_RJ_STAT.PHASE = 1 ∧ (t.lane j).pair.rejoin.isSome = true)) ∧
    (∀ acc data r, acc.lane = i → s.calm i → bits data 0 0 = 0 → (s.lane i).st = .shadow → (s.lane i).pair.rejoin = some r →
      (s.lane i).get F.PAIR_RJ_STAT.FAILS < 2 → (s.lane i).flag F.PAIR_CTRL.AUTO_REJOIN = false → (s.lane i).pair.promo = none →
      s.serves acc Reg.PAIR_RJ_CTRL 4 true (withBits data 1 1 1).toNat → Completes (.rjAbort acc data) s (fun t =>
        (t.lane i).pair.rejoin = none ∧ (t.lane i).get F.PAIR_RJ_STAT.PHASE = 7 ∧
        (t.lane i).get F.PAIR_RJ_STAT.FAILS = (s.lane i).get F.PAIR_RJ_STAT.FAILS + 1)) ∧
    (∀ r, (s.lane i).st = .shadow → (s.lane i).pair.rejoin = some r → (s.lane i).get F.PAIR_RJ_STAT.FAILS < 2 → (s.lane i.other).slots = [] →
      (s.lane i).pair.promo = none → (s.lane i.other).start.fwPending = false →
      s.now = r.start + (s.lane i).get F.PAIR_RJ_CTRL.TIMEOUT * 400000000 →
      s.base.primacy = some i.other → (s.lane i.other).sup.valid = true → (s.lane i.other).flag F.PAIR_STAT.PRIM_REQ = true →
      Completes (.rejoinTimeout i) s (fun t => (t.lane i).get F.PAIR_RJ_STAT.PHASE = 2 ∧
        (t.lane i).get F.PAIR_RJ_STAT.FAILS = (s.lane i).get F.PAIR_RJ_STAT.FAILS + 1 ∧
        ((t.lane i).rd (Reg.EV_PEND pairPage)).getLsbD 5 = true)) ∧
    (∀ r x, (s.lane i).pair.rejoin = some r → r.refused = false → (s.lane i).st = .shadow → (s.lane i).get F.PAIR_RJ_STAT.PHASE = 2 →
      s.compatible = true → s.linked = true →
      (s.lane i.other).slots.find? (fun x => x.complete && x.cyc == (s.lane i).get64 Reg.PAIR_RJ_SNAP_LO Reg.PAIR_RJ_SNAP_HI) = some x →
      (s.lane i).image.map ImageSet.sl = (s.lane i.other).image.map ImageSet.sl →
      Completes (.rejoinSet i) s (fun t => (∀ j, (t.lane j).get F.PAIR_RJ_STAT.PHASE = 3) ∧ (t.lane i).car = x.car ∧
        (t.lane i).acc.tokens = x.tokens ∧ (t.lane i).start.seatsIn = true ∧ (t.lane i).pair.rejoin = some { r with held := true, replayed := none } ∧
        (t.lane i).rd Reg.PAIR_RJ_KIB = Config.freeWord s.free)) ∧
    (∀ r q c, (s.lane i).st = .shadow → (s.lane i).get F.PAIR_RJ_STAT.PHASE = 3 → (s.lane i).pair.rejoin = some r → r.held = true →
      (s.lane i.other).pair.rejoin = some q → q.log.find? (fun c => c.cyc == (s.lane i).replayedTo r + 1) = some c →
      Completes (.replayCycle i) s (fun t => c.cyc = (s.lane i).replayedTo r + 1 ∧ (t.lane i).pair.rejoin =
        some { r with replayed := some c.cyc, buf := r.buf.filter (fun y => decide (c.cyc < y.cyc)) })) ∧
    ((s.lane i).st = .shadow → (s.lane i).pair.rejoin.isSome = true → 2 ≤ (s.lane i).get F.PAIR_RJ_STAT.PHASE →
      Completes (.pipStateRecord i) s (fun t => (t.lane i) = (s.lane i).pipLoad (s.lane i.other).pip s.now ∧
        t.lane i.other = s.lane i.other ∧ t.base = s.base)) ∧
    ((s.lane i).st = .shadow → s.compatible = false → s.linked = true →
      (s.lane i).get F.HOST_SEC_STAT.FUSED ≤ (s.lane i.other).get F.HOST_SEC_STAT.RUNNING → Completes (.firmwareReceive i true) s (fun t =>
        (t.lane i).start.inReset = some 4 ∧ (t.lane i).start.fwChanged = true ∧
        some ((s.lane i.other).get F.HOST_SEC_STAT.RUNNING, (s.lane i.other).get F.PAIR_COMPAT.OWN) ∈ (t.lane i).host.banks))

/-- The boundary of a lane that computes alone (R128, R130, R132): the cycle in progress being computed, time passes to t_N of the
next and that cycle begins: its number is one higher, its phase the ring phase, nothing of it is cut, merged or computed. -/
def Obligations.CycleBoundaryBegins : Prop :=
  ∀ (ia ib : BoundaryIn) (i : LaneId) (s : State), s.computedAll → s.alone i → 0 < (s.lane i).incr →
    (∀ j, (s.lane j).pair.promo = none) → (s.lane i.other).pair.outMsg = [] →
    (s.lane i).pair.entries = [] → (s.lane i).pair.check = none → (s.lane i).cyc.exchAt = none → (s.lane i).cycN + 1 < 2 ^ 64 →
    Completes (.cycleBoundary ia ib) s (fun t =>
      (t.lane i).cycN = (s.lane i).cycN + 1 ∧ (t.lane i).get F.CYCLE_STAT.PHASE = 0 ∧ (t.lane i).cyc.cutDone = false ∧
      (t.lane i).cyc.merged = false ∧ (t.lane i).cyc.opened = false ∧ (t.lane i).cyc.complete = false ∧
      (t.lane i).get64 Reg.PAIR_CYC_LO Reg.PAIR_CYC_HI = (s.lane i).cycN + 1 ∧ s.now ≤ t.now ∧
      (t.lane i).tOf ((s.lane i).cycN + 1) ≤ (t.lane i).t64 ∧ t.base.primacy = s.base.primacy)

/-- The phases of a cycle (R105, R106, R132, R134, R135): at the ring cut the receipts become each lane's map and its sampled part
goes to the other lane; at the end of the merge phase the compute window opens; with the last node the compute is complete, the
digest and the snapshot of the cycle stand. -/
def Obligations.CyclePhasesComplete : Prop :=
  ∀ (s : State), s.steady →
    (s.pairs → (∀ j, (s.lane j).cyc.cutDone = false ∧ (s.lane j).pair.outMsg = [] ∧ (s.lane j).pair.sampIn = none ∧
        (s.lane j).pair.sampOwn.isSome = true) → s.a.cutAt ≤ s.a.t64 →
      Completes .ringCut s (fun t => t = { s with a := (s.a.cut s.base.primacy).owNow, b := (s.b.cut s.base.primacy).owNow } ∧ ∀ j,
        (t.lane j).get F.CYCLE_STAT.PHASE = 1 ∧ (t.lane j).cyc.cutDone = true ∧
        (t.lane j).get F.CYCLE_RING_LAST.NS = min (s.lane j).cyc.ringLast 1048575 ∧
        (t.lane j).pair.outSamp = ((t.lane j).pair.sampOwn.map (fun m => { m with oseq := (s.lane j).pair.oseq })).toList)) ∧
    ((∀ j, (s.lane j).pair.outSamp = [] ∧ ((s.lane j).drives = true → (s.lane j).running = true ∧ (s.lane j).cyc.cutDone = true ∧
        (s.lane j).cyc.merged = true ∧ (s.lane j).cyc.opened = false ∧ (s.lane j).openAt ≤ (s.lane j).t64)) →
      Completes (.computeWindow false false) s (fun t => ∀ j,
        ((s.lane j).drives = true → t.lane j = (s.lane j).openWindow ∧ (t.lane j).get F.CYCLE_STAT.PHASE = 2 ∧ (t.lane j).cyc.opened = true) ∧
        ((s.lane j).drives = false → t.lane j = s.lane j) ∧ t.base = s.base ∧ t.now = s.now)) ∧
    (∀ i, s.computing → s.alone i → (s.lane i).inWindow = true → (s.lane i).nextEv (s.lane i).cycN = none → (s.lane i).trial = none →
      (s.lane i).openAt + (((s.lane i).cyc.compl.map Prod.snd).foldl max 0 * 5 + 2) / 3 ≤ (s.lane i).t64 →
      Completes (.computeComplete i) s (fun t => (t.lane i).get F.CYCLE_STAT.PHASE = 3 ∧ (t.lane i).cyc.complete = true ∧
        (t.lane i).get F.CYCLE_DONE_LAST.FAB = ((s.lane i).cyc.compl.map Prod.snd).foldl max 0 % 2 ^ 24 ∧
        ((s.lane i).cycN, (s.lane i).digest) ∈ (t.lane i).pair.digOwn ∧ (t.lane i).cyc.snapOf = some (s.lane i).cycN ∧
        (∃ x ∈ (t.lane i).slots, x.cyc = (s.lane i).cycN ∧ x.dig = (s.lane i).digest ∧ x.complete = false) ∧
        t.lane i.other = s.lane i.other ∧ t.now = s.now))

/-- The nodes of a cycle in the compute window (R144, R148, R199): the node that is next to fire fires at its ACT with the work it
does, and changes nothing before it completes; the node that is next to complete commits its writes together; one of class 0, 2
or 3 that meets its DEADLINE is cut, at which a lane alone becomes FAULTED, or goes on if it has failed with both before; a LOGIC node
that meets it is withdrawn. -/
def Obligations.NodeCommandsComplete : Prop :=
  ∀ (i : LaneId) (n : Nat) (s : State), s.computing → (s.lane i).nodeOpen n = true →
    let l := s.lane i
    (l.nextEv l.cycN = some (.fire n) → Completes (.nodeFire i n) s (fun t => t = s.setLane i (l.fireNode n l.cycN) ∧
      let m := l.startNode n l.cycN
      (t.lane i).cyc.inServ = l.cyc.inServ ++ [⟨n, m.actOf n l.cycN, m.actOf n l.cycN + (m.nodeWork n l.cycN).2, (m.nodeWork n l.cycN).1.ws⟩] ∧
      (t.lane i).car = m.car ∧ (l.ndKind n ≠ 6 → (t.lane i).car = l.car))) ∧
    (∀ x, x.node = n → l.nextEv l.cycN = some (.finish x) → Completes (.nodeComplete i n) s (fun t => t = s.setLane i (l.completeNode x) ∧
      (t.lane i).doneAt n = some x.fin ∧ (t.lane i).served n = false)) ∧
    (l.atDeadline n = true → l.ndClass n ≠ 1 → s.alone i → l.flag F.PAIR_DIV.BOTH = true →
      Completes (.nodeCut n (decide (i = .A)) (decide (i = .B))) s (fun t =>
        t = s.setLane i { l.cutNode n with cyc := { (l.cutNode n).cyc with judged := (l.cutNode n).cyc.cuts.length } } ∧ (t.lane i).get F.CYCLE_OVR_COUNT.CUT = min (l.get F.CYCLE_OVR_COUNT.CUT + 1) 65535 ∧ (t.lane i).car = l.car)) ∧
    (l.atDeadline n = true → l.ndClass n ≠ 1 → s.alone i → l.flag F.PAIR_DIV.BOTH = false →
      Completes (.nodeCut n (decide (i = .A)) (decide (i = .B))) s (fun t => (t.lane i).st = .faulted ∧ (t.lane i).car = l.car)) ∧
    (l.atDeadline n = true → l.ndClass n = 1 → Completes (.activationWithdrawn i n) s (fun t =>
      t = s.setLane i (l.withdrawNode n l.cycN) ∧ (t.lane i).doneAt n = some (l.ndDead n)))

/-- The snapshot and the trace of a cycle (R139, R150, R152): a snapshot that is written becomes the latest of the warm store, one
that has not finished by the ring cut of the next cycle leaves its slot incomplete; CYCLE_TRC_CTRL takes a MODE that has its buffer; a queue with room takes the record of
what was dropped. -/
def Obligations.SnapshotAndTraceComplete : Prop :=
  ∀ (i : LaneId) (s : State),
    (∀ n, (s.lane i).cyc.snapOf = some n → (∀ j, (s.lane j).st ≠ .shadow) → Completes (.snapshotComplete i) s (fun t =>
      (t.lane i).slots = (s.lane i).slots.map (fun x => if x.cyc = n then { x with complete := true } else x) ∧
      (t.lane i).cyc.snapOf = none ∧ t.lane i.other = s.lane i.other ∧
      ((∃ x ∈ (s.lane i).slots, x.cyc = n) → (t.lane i).get F.SYS_WARM.VALID = 1))) ∧
    (∀ n, (s.lane i).cyc.snapOf = some n → (s.lane i).runs = true → n + 1 = (s.lane i).cycN → (s.lane i).cyc.cutDone = false →
      0 < (s.lane i).incr → Completes (.snapLate i) s (fun t => s.now ≤ t.now ∧ (s.lane i).cutAt ≤ (t.lane i).t64 ∧
      (t.lane i).slots = (s.lane i).slots ∧ (t.lane i).cyc.snapOf = none ∧ ((t.lane i).rd (Reg.EV_PEND cyclePage)).getLsbD 2 = true ∧
      t.lane i.other = (s.untilTick t.now).lane i.other)) ∧
    (∀ acc data, s.calm acc.lane → s.serves acc Reg.CYCLE_TRC_CTRL 4 true data.toNat → Completes (.cycleTrcCtrl acc data) s (fun t =>
      (t.lane acc.lane).get F.CYCLE_TRC_CTRL.MODE = (if ((s.lane acc.lane).trcBuf cycleTrc).isNone then 0 else bits data 1 0) ∧
      (t.lane acc.lane).get F.CYCLE_TRC_CTRL.WRAP = bits data F.CYCLE_TRC_CTRL.WRAP.hi F.CYCLE_TRC_CTRL.WRAP.lo ∧
      (t.lane acc.lane).cyc = (s.lane acc.lane).cyc)) ∧
    (s.live i → (s.lane i).cyc.trc.drop ≠ 0 → (s.lane i).cyc.trc.q.length < 4096 → MakesLane (.trcWindfall i) s i
      { (s.lane i).ev cyclePage 7 with cyc := { (s.lane i).cyc with
          trc := ⟨(s.lane i).cyc.trc.q ++ [cycTrcRec (s.lane i).cycN 0xFFFF 0x1F 0 (s.lane i).cyc.trc.drop 0 0 0], 0⟩ } })

/-- What reaches a lane over the pair link (R96, R97, R100, R106, R115): an entry is held for its effect cycle; a seal confirms to
their originator the entries it covers; a sampled part of the cycle is kept for the merge; a digest is compared with the lane's
own: equal, both show; unequal, the mismatch counts, the event is set and the self-check starts. -/
def Obligations.LinkMessagesArrive : Prop :=
  ∀ (i : LaneId) (s : State), s.linked = true →
    let o := s.lane i.other
    (∀ e rest, o.pair.outMsg = .entry e :: rest → Completes (.mirrorEntry i) s (fun t =>
      (t.lane i).pair.entries = (s.lane i).pair.entries ++ [e] ∧ (t.lane i).pair.othSeq = e.oseq + 1 ∧ (t.lane i).regs = (s.lane i).regs ∧
      t.lane i.other = { o with pair := { o.pair with outMsg := rest } } ∧ t.base = s.base)) ∧
    (∀ e rest, o.pair.outSeal = e :: rest → o.pair.outMsg = [] → o.acc.held = [] → Completes (.seal i) s (fun t =>
      t.lane i.other = Lane.confirm { o with pair := { o.pair with outSeal := rest } } e.cyc ∧ t.lane i = s.lane i ∧ t.base = s.base)) ∧
    (∀ m rest, s.steady → o.pair.outSamp = m :: rest → m.cyc = (s.lane i).cycN → (s.lane i).cyc.cutDone = false →
      Completes (.sampledPart i) s (fun t => (t.lane i).pair.sampIn = some m ∧ (t.lane i).cyc = (s.lane i).cyc ∧ (t.lane i.other).pair.outSamp = rest)) ∧
    (∀ n d rest own, s.computedAll → (s.lane i).st = .paired → (s.lane i).pair.rejoin = none → o.pair.outDig = (n, d) :: rest →
      (s.lane i).pair.digIn = [] → (s.lane i).pair.digOwn.find? (fun x => x.1 == n) = some (n, own) →
      Completes (.digestReceive i) s (fun t => (t.lane i.other).pair.outDig = rest ∧
        (t.lane i).rd Reg.PAIR_DIG_OWN_LO = word own ∧ (t.lane i).rd Reg.PAIR_DIG_OTHER_LO = word d ∧ (t.lane i).rd Reg.PAIR_DIG_CYC_LO = word n ∧
        (own = d → (t.lane i).get F.PAIR_DIV.TOTAL = (s.lane i).get F.PAIR_DIV.TOTAL ∧ (t.lane i).pair.check = (s.lane i).pair.check) ∧
        (own ≠ d → (t.lane i).get F.PAIR_DIV.TOTAL = min ((s.lane i).get F.PAIR_DIV.TOTAL + 1) 65535 ∧
          ((t.lane i).rd (Reg.EV_PEND pairPage)).getLsbD 2 = true ∧
          ((s.lane i).pair.check = none → (t.lane i).pair.check = some ⟨n, false⟩ ∧ (t.lane i).get F.PAIR_DIV.CHECK = 3))))

/-- The deadlines of the pair link and the decision of a divergence (R97, R106, R116, R119): a digest, a seal or a sampled part
missing at its deadline counts as a failed link, at which the lane without primacy goes to SHADOW and the holder continues alone;
of two lanes that differ, the one whose self-check fails becomes FAULTED and is charged, and the other drives. -/
def Obligations.LinkDeadlinesComplete : Prop :=
  ∀ (i h : LaneId) (s : State), s.pairs → s.base.primacy = some h →
    let went : State → Prop := fun t => (t.lane h.other).st = .shadow ∧ ((t.lane h.other).rd (Reg.EV_PEND pairPage)).getLsbD 7 = true ∧
      (t.lane h.other).get F.PAIR_STAT.PRESENT = 0 ∧ (t.lane h).st = .solo ∧ t.base.primacy = some h ∧ t.now = s.now
    (∀ d rest, s.computedAll → (s.lane i.other).pair.outDig = d :: rest → d.1 + 1 ≤ (s.lane i).cycN → (s.lane i).tOf (d.1 + 2) ≤ (s.lane i).t64 →
      Completes (.digestDeadline i) s went) ∧
    (∀ e rest, s.computedAll → (s.lane i.other).pair.outSeal = e :: rest → e.cyc + 1 ≤ (s.lane i).cycN →
      (s.lane i).tOf (e.cyc + 2) - 2000 ≤ (s.lane i).t64 → Completes (.sealDeadline i) s went) ∧
    (s.steady → (∀ j, (s.lane j).cyc.cutDone = true) → (s.lane i).cyc.merged = false → (s.lane i).pair.sampIn = none →
      (s.lane i).pair.entries = [] → (s.lane i.other).pair.entries = [] → (s.lane i).openAt ≤ (s.lane i).t64 →
      Completes (.sampledDeadline i) s (fun t => (t.lane h.other).st = .shadow ∧ ((t.lane h.other).rd (Reg.EV_PEND pairPage)).getLsbD 7 = true ∧
        t.base.primacy = some h)) ∧
    (∀ testA testB ca cb, s.computedAll → testA ≠ testB → s.a.pair.check = some ca → s.b.pair.check = some cb → ca.failed = false → cb.failed = false →
      (∀ j, (s.lane j).memi.sram = [] ∧ (s.lane j).pair.outMsg = [] ∧ (s.lane j).pair.outSeal = [] ∧ (s.lane j).pair.outDig = [] ∧
        (s.lane j).sup.valid = true ∧ (s.lane j).flag F.PAIR_STAT.PRIM_REQ = true ∧ (s.lane j).pair.waitLink = none) →
      s.a.logDiffers ca.cyc = false → s.b.logDiffers cb.cyc = false →
      ca.cyc + 2 ≤ s.a.cycN → s.a.tOf (ca.cyc + 3) ≤ s.a.t64 →
      Completes (.divergenceDecision testA testB) s (fun t => ∀ j, j = (if testA then .A else .B) → (t.lane j).st = .faulted ∧
        (t.lane j.other).st = .solo ∧ (t.lane j).get F.PAIR_DIV.CHARGED = 1 ∧ (t.lane j.other).get F.PAIR_DIV.CHARGED = 0 ∧
        t.base.primacy = some j.other))

/-- Table words that a seat may write while the image runs (R33, R98, R102, R170, R304): the writable words of a served write to
the loop tables or the axis parameter table enter the mirror set as one entry of KIND 0x05, and the table does not change before
its effect cycle. -/
def Obligations.TableWritesEnter : Prop :=
  ∀ (acc : Acc) (addr size data : Nat) (s : State), s.calm acc.lane → (s.lane acc.lane).runs = true → size = 4 ∨ size = 8 →
    0x1000000 ≤ addr → addr < 0x10000000 → s.serves acc addr size true data →
    let l := s.lane acc.lane
    let ws := (List.range (size / 4)).filterMap (fun k =>
      (l.winAt (addr + 4 * k)).bind (fun x => if x.mask = 0 then none else some (addr + 4 * k, dataWord data k, word x.mask)))
    ws ≠ [] → ∀ c, c = Instr.loopTableWrite acc addr size data ∨ c = .axisPe acc addr size data → Completes c s (fun t =>
      s.Makes t acc.lane ((l.reply acc.seat.val .pending).accepts (l.entryFor acc (.regWrite ws) (l.accKey acc))) [Reg.PAIR_MIR_COUNT, Reg.PAIR_MIR_PEAK] ∧
      (l.entryFor acc (.regWrite ws) (l.accKey acc)).kind = 0x05 ∧ (t.lane acc.lane).car.win = l.car.win)

/-- Commands to programs and to recipe channels (R33, R98, R103, R194, R217, R230–R232): a served write of LOGIC_PCTL or
RECIPE_CH_CMD enters the mirror set as one entry, of KIND 0x06 over HAP and 0x05 over PCIe, with effect two cycles on, and does
nothing before. -/
def Obligations.ProgramCommandsEnter : Prop :=
  ∀ (acc : Acc) (data : Word) (s : State), s.calm acc.lane → (s.lane acc.lane).runs = true →
    (∀ p c k, p < 128 → (c, k) ∈ [(Instr.logicRun acc p data, 1), (.logicHold acc p data, 2), (.logicStop acc p data, 3), (.logicStep acc p data, 4)] →
      let a := Reg.LOGIC_PCTL (p / 16) (p % 16)
      s.serves acc a 4 true (withBits data 2 0 k).toNat → Completes c s (fun t =>
        s.entersWrite t acc a (commandBy acc [(a, withBits data 2 0 k, mirMask a)]))) ∧
    (∀ n c k, n < 32 → (c, k) ∈ [(Instr.recipeStart acc n data, 1), (.recipeHold acc n data, 2), (.recipeResume acc n data, 3),
        (.recipeAbort acc n data, 4)] →
      s.serves acc (Reg.RECIPE_CH_CMD n) 4 true (withBits data 2 0 k).toNat → Completes c s (fun t =>
        s.entersWrite t acc (Reg.RECIPE_CH_CMD n) (commandBy acc [(Reg.RECIPE_CH_CMD n, withBits data 2 0 k, mirMask (Reg.RECIPE_CH_CMD n))])))

/-- Commands to a program take effect (R194): RUN starts one in STOP with its warm-start task due and lets one in HOLD run on; HOLD
and STOP set the state; STEP lets a program in HOLD run its cyclic task once; all but STEP show CAUSE 1 and set STATE_CHG. A
command to a slot without a program, or STEP outside HOLD, latches ERR_CODE 0x40 and changes no program. -/
def Obligations.ProgramCommandsTakeEffect : Prop :=
  ∀ (l : Lane) (e : Entry) (b : Bool) (now p k : Nat) (w m : Word), p < 128 → 1 ≤ k → k ≤ 4 → bits (w &&& m) 2 0 = k →
    e.pay = .command [(Reg.LOGIC_PCTL (p / 16) (p % 16), w, m)] ∨ e.pay = .regWrite [(Reg.LOGIC_PCTL (p / 16) (p % 16), w, m)] →
    let r := l.entryEffect e b now
    ((l.progImg p).isSome = true →
      (k = 1 → (l.prog p).st = 0 → (r.prog p).st = 1 ∧ (r.prog p).warm = true ∧ (r.prog p).cause = 1 ∧
        (r.rd (Reg.EV_PEND (logicPage (p / 16)))).getLsbD 2 = true) ∧
      (k = 1 → (l.prog p).st = 2 → (r.prog p).st = 1 ∧ (r.prog p).warm = (l.prog p).warm ∧ (r.prog p).cause = 1) ∧
      (k = 2 → (l.prog p).st ≠ 2 → (r.prog p).st = 2 ∧ (r.prog p).cause = 1 ∧ (r.rd (Reg.EV_PEND (logicPage (p / 16)))).getLsbD 2 = true) ∧
      (k = 3 → (l.prog p).st ≠ 0 → (r.prog p).st = 0 ∧ (r.prog p).stopDue = true ∧ (r.prog p).cause = 1) ∧
      (k = 4 → (l.prog p).st = 2 → (r.prog p).stepPend = true ∧ (r.prog p).st = 2)) ∧
    ((l.progImg p).isNone = true ∨ (k = 4 ∧ (l.prog p).st ≠ 2) → r.car = l.car ∧
      (l.get (F.ERR_CODE.CODE (instPage (logicPage (p / 16)))) = 0 → r.get (F.ERR_CODE.CODE (instPage (logicPage (p / 16)))) = 0x40)) ∧
    (∀ q, q ≠ p → r.prog q = l.prog q)

/-- The image exchange and trials (R205, R206, R209, R211): PREPARE and ABANDON enter the mirror set; a lane whose checks pass is
READY with the seal of the set; COMMIT with both lanes READY on one seal enters as KIND 0x03 with the seal as its KEY; a trial of
a prepared set starts, and stops. -/
def Obligations.ExchangeCommandsComplete : Prop :=
  ∀ (acc : Acc) (data : Word) (s : State), s.calm acc.lane →
    let l := s.lane acc.lane
    (∀ c f, (c, f) ∈ [(Instr.prepare acc data, F.LOGIC_EXCH_CTRL.PREPARE), (.abandon acc data, F.LOGIC_EXCH_CTRL.ABANDON)] →
      l.runs = true → bits data 1 1 = 0 → s.serves acc Reg.LOGIC_EXCH_CTRL 4 true (withBits data f.hi f.lo 1).toNat →
      Completes c s (fun t => s.entersWrite t acc Reg.LOGIC_EXCH_CTRL
        (commandBy acc [(Reg.LOGIC_EXCH_CTRL, withBits data f.hi f.lo 1, mirMask Reg.LOGIC_EXCH_CTRL)]))) ∧
    (∀ i im, s.live i → (s.lane i).store.preparing = true → (s.lane i).imageBad im = false → MakesLane (.exchReady i im) s i
      { (((s.lane i).set F.LOGIC_EXCH_STAT.OWN 2).set64 Reg.LOGIC_EXCH_SEAL_LO Reg.LOGIC_EXCH_SEAL_HI im.sl).ev 0x300 8 with
        store := { (s.lane i).store with preparing := false, prep := some im } }) ∧
    (∀ i im, s.live i → (s.lane i).store.preparing = true → (s.lane i).imageBad im = true → Completes (.exchReady i im) s (fun t =>
      (t.lane i).get F.LOGIC_EXCH_STAT.OWN = 3 ∧ (t.lane i).store = { (s.lane i).store with preparing := false })) ∧
    (l.runs = true → commitOk l (s.lane acc.lane.other) = true → bits data 0 0 = 0 → bits data 2 2 = 0 →
      s.serves acc Reg.LOGIC_EXCH_CTRL 4 true (withBits data 1 1 1).toNat → Completes (.commit acc data) s (fun t =>
        ∃ e, (t.lane acc.lane).pair.entries = l.pair.entries ++ [e] ∧ e.pay = .commit (l.get64 Reg.LOGIC_EXCH_SEAL_LO Reg.LOGIC_EXCH_SEAL_HI) ∧
          e.kind = 0x03 ∧ e.key = l.get64 Reg.LOGIC_EXCH_SEAL_LO Reg.LOGIC_EXCH_SEAL_HI ∧ e.effect = l.cycN + 2)) ∧
    (s.serves acc Reg.LOGIC_TRIAL_CTRL 4 true (withBits data 14 14 1).toNat → bits data 15 15 = 0 → Completes (.trialStart acc data) s (fun t =>
      (∀ im, l.store.prep = some im → l.trial = none → (t.lane acc.lane).get F.LOGIC_TRIAL_STAT.STATE = 1 ∧
        (t.lane acc.lane).trial = some ⟨bits data F.LOGIC_TRIAL_CTRL.PROG.hi F.LOGIC_TRIAL_CTRL.PROG.lo, im, l.cycN + 1, none, none⟩) ∧
      (l.store.prep = none → (t.lane acc.lane).get F.LOGIC_TRIAL_STAT.STATE = 3 ∧ (t.lane acc.lane).trial = l.trial))) ∧
    (s.serves acc Reg.LOGIC_TRIAL_CTRL 4 true (withBits data 15 15 1).toNat → bits data 14 14 = 0 → Completes (.trialStop acc data) s (fun t =>
      (t.lane acc.lane).trial = none ∧ (l.trial.isSome = true → (t.lane acc.lane).get F.LOGIC_TRIAL_STAT.STATE = 2 ∧
        ((t.lane acc.lane).rd (Reg.EV_PEND 0x300)).getLsbD 12 = true)))

/-- Writes that act on the field (R33, R98, R252, R254, R267, R273, R281, R292–R295, R299, R311, R316): a served write of AXIS_CMD,
RING_STA_CMD, AIN_CTRL, PBUS_OBJ_CMD or PBUS_CTRL that is a command enters the mirror set as one entry, of KIND 0x06 over HAP
and 0x05 over PCIe, and does nothing before its effect cycle; one of AIN_CH_CFG enters as KIND 0x05. -/
def Obligations.FieldCommandsEnter : Prop :=
  ∀ (acc : Acc) (data : Word) (s : State), s.calm acc.lane → (s.lane acc.lane).runs = true →
    let enters : Instr → Fld → Nat → Prop := fun c f v =>
      s.serves acc f.addr 4 true (withBits data f.hi f.lo v).toNat → Completes c s (fun t =>
        s.entersWrite t acc f.addr (commandBy acc [(f.addr, withBits data f.hi f.lo v, mirMask f.addr)]))
    (∀ a c k, a < 256 → (c, k) ∈ [(Instr.axisEnable acc a data, 1), (.axisDisable acc a data, 2), (.moveAbs acc a data, 3),
        (.moveRel acc a data, 4), (.velocity acc a data, 5), (.follow acc a data, 6), (.axisStop acc a data, 7), (.quickstop acc a data, 8),
        (.home acc a data, 9), (.axisAck acc a data, 10)] → enters c (F.AXIS_CMD.CMD a) k) ∧
    (∀ r p, r < 24 → p < 64 → enters (.ringStaAbsent acc r p data) (F.RING_STA_CMD.ABSENT r p) 1) ∧
    (∀ r p, r < 24 → p < 64 → enters (.ringStaReturn acc r p data) (F.RING_STA_CMD.RETURN r p) 1) ∧
    enters (.ainAck acc data) F.AIN_CTRL.ACK 1 ∧ enters (.fullReq acc data) F.AIN_CTRL.FULL_REQ 1 ∧
    (∀ n, n < 12 → enters (.pbusCancel acc n data) (F.PBUS_OBJ_CMD.CMD n) 1) ∧
    (∀ n, n < 12 → enters (.pbusSend acc n data) (F.PBUS_OBJ_CMD.CMD n) 2) ∧
    (∀ n, n < 12 → enters (.recReq acc n data) (F.PBUS_CTRL.REC_REQ n) 1) ∧
    (∀ ch, ch < 64 → s.serves acc (Reg.AIN_CH_CFG ch) 4 true data.toNat → Completes (.ainChCfg acc ch data) s (fun t =>
      s.entersWrite t acc (Reg.AIN_CH_CFG ch) (.regWrite [(Reg.AIN_CH_CFG ch, data, mirMask (Reg.AIN_CH_CFG ch))])))

/-- Events of the field rings (R88, R240, R241, R249, R251, R258): a frame with a bad FCS is relayed, counted and discarded; a copy of the
cycle before the cut gives its records, each station that it passed and that processed it; a link that changes shows; a port that
has dropped asks for PHY_TRAIN and comes up only under its grant, in the image's mode or with an error; a training refused is asked
for again. -/
def Obligations.RingEventsComplete : Prop :=
  ∀ (i : LaneId) (r : Nat) (s : State), s.live i → r < 24 → 1 ≤ (s.lane i).stage →
    let l := s.lane i
    (∀ endPort fcs sfd ret bs, l.runs = false ∨ ret < l.get F.CYCLE_TRING.NS → (fcs && fcsGood bs) = false → Skr.ofBytes bs = none →
      MakesLane (.ringFrameReceive i r endPort fcs sfd ret bs) s i
        ((((l.relay r endPort bs).cnt (if endPort then F.RING_ERR_COUNT.END_FCS r else F.RING_ERR_COUNT.XHOP_FCS r) 1).ev (ringPage r) 6).cnt
          (F.RING_REC_COUNT.DISCARDED r) 1)) ∧
    (∀ sfd ret bs f, l.runs = true → ret < l.get F.CYCLE_TRING.NS → l.cyc.cutDone = false → fcsGood bs = true → Skr.ofBytes bs = some f → f.etype = l.get (F.RING_ETYPE.ETYPE r) →
      f.ver = 1 → f.ring = r → f.cfgId = (l.rd (Reg.RING_CFG_ID r)).toNat → f.kind = 1 ∨ f.kind = 3 → f.cyc = l.cycN →
      Completes (.ringFrameReceive i r false true sfd ret bs) s (fun t =>
        (t.lane i).ring.recs = l.ring.recs ++ ((f.passed (l.nsta r)).filter (f.processed l)).map (fun p =>
          ⟨⟨f.cyc, r, p, f.ord, (l.record r p f.data).drop 4⟩, false, false⟩) ∧
        (t.lane i).ring.unproc = l.ring.unproc ++ ((f.passed (l.nsta r)).filter (fun p => !f.processed l p)).map (fun p => (r, p)) ∧
        (t.lane i).car = l.car ∧ (t.lane i).cyc.ringLast = max l.cyc.ringLast ret)) ∧
    (∀ up which f, (which, f) ∈ [(1, F.RING_STAT.XHOP_TX r), (2, F.RING_STAT.XHOP_RX r)] →
      MakesLane (.ringLinkChg i r which up) s i ((l.setB f up).ev (ringPage r) 4)) ∧
    (l.ring.dropped.contains r = false ∨ l.granted 3 r = true → MakesLane (.ringLinkChg i r 0 true) s i
      (((Lane.setB { l with ring := { l.ring with dropped := l.ring.dropped.filter (· != r), modes := setRing l.ring.modes r (l.get (F.RING_CFG.MODE r)) } }
        (F.RING_STAT.LINK r) true)).ev (ringPage r) 4)) ∧
    (l.ring.dropped.contains r = true → l.granted 3 r = false → MakesLane (.ringLinkChg i r 0 true) s i l) ∧
    Completes (.ringLinkChg i r 0 false) s (fun t => (t.lane i).get (F.RING_STAT.LINK r) = 0 ∧ (t.lane i).ring.dropped.contains r = true ∧
      ((t.lane i).rd (Reg.EV_PEND (ringPage r))).getLsbD 4 = true ∧
      (t.lane i).ledger = { l.ledger with asked := insAsk ⟨3, 2, 2 ^ 48, l.ledger.arrivals, s.now, r⟩ l.ledger.asked }) ∧
    (∀ mode, l.granted 3 r = true → l.ledger.waiting = [] → Completes (.phyTrainDone i r mode) s (fun t =>
      (t.lane i).get (F.RING_STAT.LINK r) = 1 ∧ ((t.lane i).rd (Reg.EV_PEND (ringPage r))).getLsbD 4 = true ∧ (t.lane i).granted 3 r = false ∧
      (t.lane i).ring.dropped.contains r = false ∧ perRing (t.lane i).ring.modes r = mode ∧
      (mode ≠ l.get (F.RING_CFG.MODE r) → l.get (F.ERR_CODE.CODE (ringPage r)) = 0 → (t.lane i).get (F.ERR_CODE.CODE (ringPage r)) = 0x43))) ∧
    (∀ t0, l.ring.train.find? (fun x => x.1 == r) = some (r, t0) → s.now = t0 + 400000000 → Completes (.phyTrainRetry i r) s (fun t =>
      (t.lane i).ledger = { l.ledger with asked := insAsk ⟨3, 2, 2 ^ 48, l.ledger.arrivals, s.now, r⟩ l.ledger.asked } ∧
      (∀ x ∈ (t.lane i).ring.train, x.1 ≠ r) ∧ t.now = s.now))

/-- Events of the analogue inputs and outputs (R266, R274, R277, R279, R280, R284): from t_B − T_OW the test current of the next slot flows
in the lane that holds primacy, and stops 1 µs after t_B; a readback more than 0.5 % of span off sets RB_FAULT; 100 µs after the grant
the fast converters are ready; a conversion held at its instant inside the period enters the channel's filter; a sample of the
fast converters marks over-range and arms. -/
def Obligations.AnalogEventsComplete : Prop :=
  ∀ (i : LaneId) (s : State), s.live i →
    let l := s.lane i
    (∀ ch, l.car.ow.slots = [(l.cycN + 1, ch)] → l.owFlows (l.cycN + 1) = true →
      MakesLane (.owCurrentOn i) s i { l with ain := { l.ain with owCur := some ch } }) ∧
    (∀ ch, l.car.ow.slots = [(l.cycN, ch)] → l.owEnd ≤ l.t64 → MakesLane (.owCurrentOff i) s i { l with ain := { l.ain with owCur := none } }) ∧
    (∀ c k T, (c, k, T) = (Instr.owCurrentOn i, l.cycN + 1, l.owStart) ∨ (c, k, T) = (.owCurrentOff i, l.cycN, l.owEnd) →
      Completes c s (fun t => s.now ≤ t.now ∧ (s.untilTick t.now).Makes t i ((s.untilTick t.now).lane i).owNow [] ∧
        (0 < l.incr → l.running = true → (l.owSel k).isSome = true → T ≤ (t.lane i).t64))) ∧
    (∀ ch rb, ch < 32 → (if l.get (F.AOUT_CFG.RANGE ch) = 0 then 65536 else 32768) < (rb - l.aoCode ch).natAbs * 200 →
      Completes (.aoRbFault i ch rb) s (fun t => (t.lane i).get (F.AOUT_STAT.RB_FAULT ch) = 1 ∧
        ((t.lane i).rd (Reg.EV_PEND ainPage)).getLsbD 6 = true ∧ (t.lane i).car = l.car ∧ s.now ≤ t.now ∧
        (0 < l.incr → l.running = true → l.tOf l.cycN + 20000 ≤ (t.lane i).t64))) ∧
    (∀ ch rb, ch < 32 → (rb - l.aoCode ch).natAbs * 200 ≤ (if l.get (F.AOUT_CFG.RANGE ch) = 0 then 65536 else 32768) →
      Completes (.aoRbFault i ch rb) s (fun t => s.now ≤ t.now ∧ (s.untilTick t.now).Makes t i ((s.untilTick t.now).lane i) [] ∧
        (0 < l.incr → l.running = true → l.tOf l.cycN + 20000 ≤ (t.lane i).t64))) ∧
    (∀ t0, l.ain.fiAt = some t0 → s.now = t0 + 40000 → l.flag F.FI_CTRL.READY = false →
      MakesLane (.fiReady i) s i ((l.set F.FI_CTRL.READY 1).ev ainPage 8)) ∧
    (∀ ch code, ch < 64 → l.ainOn ch = true → 0 < l.get (F.AIN_CH_CFG.FILT_K ch) → l.running = true → 0 < l.incr →
      (l.convH ch).holds + 1 < l.get (F.AIN_CH_CFG.FILT_D ch) → Completes (.filterHold i ch code) s (fun t => s.now ≤ t.now ∧
      l.holdAt ch (l.cycN + 1) ((l.convH ch).holds + 1) ≤ (t.lane i).t64 ∧ ((t.lane i).convH ch).holds = (l.convH ch).holds + 1 ∧
      ((t.lane i).convH ch).hist.head?.map Conv.v = some (code * (8 / l.gain ch : Nat)) ∧
      ((t.lane i).convH ch).hist.tail = (l.convH ch).hist.take 45 ∧ (t.lane i).car = l.car ∧ (∀ c, c ≠ ch → (t.lane i).convH c = l.convH c))) ∧
    (∀ c, c < 8 → (∀ j, s.live j ∧ (s.lane j).flag F.FI_CTRL.READY = true ∧ (s.lane j).runs = false ∧ (s.lane j).capturing = false ∧
        (s.lane j).get F.FI_CTRL.EN = 2 ^ c) → Completes (.fastSample [(c, -32768)] [(c, -32768)]) s (fun t => ∀ j,
      (t.lane j).ain.fiOvr.testBit c = true ∧ (t.lane j).capt = (s.lane j).capt ∧ (t.lane j).dram = (s.lane j).dram))

/-- Events of the motion axes (R289–R291, R295, R296): at a PWM boundary of the cycle, t_N + k × T_PWM, the duties of a direct axis are
taken, and gates are driven only by the lane that holds primacy and where the setpoint of t_N has them on; a current above I_TRIP, or a bitstream that stops while gates are driven, turns them off; a
line's transition shows after its debounce time and a rising home edge latches the position. -/
def Obligations.AxisEventsComplete : Prop :=
  ∀ (i : LaneId) (a : Nat) (s : State), (∀ j, s.live j ∧ directAxis (s.lane j) a = true) →
    let l := s.lane i
    (∀ dA dB, dA.length = dB.length → (∀ x ∈ dA.zip dB, x.1 ≤ x.2 + 1 ∧ x.2 ≤ x.1 + 1) →
      (∀ j, s.runner = some j → ((s.lane j).axHw a).k < (s.lane j).pwmDiv a) → Completes (.pwmBoundary a dA dB) s (fun t => s.now ≤ t.now ∧
      (∀ j, s.runner = some j → 0 < (s.lane j).incr →
        (s.lane j).tOf (s.lane j).cycN + ((s.lane j).axHw a).k * (s.lane j).period / (s.lane j).pwmDiv a ≤ (t.lane j).t64) ∧
      ((t.lane .A).axHw a).duties = dA ∧ ((t.lane .B).axHw a).duties = dB ∧
      (∀ j, ((t.lane j).axHw a).gates = (s.prime j && ((s.lane j).axHw a).set.on && !((s.lane j).axisI a).off &&
          !((s.lane j).axHw a).excess && (s.lane j).drives) ∧ ((t.lane j).axHw a).k = ((s.lane j).axHw a).k + 1 ∧
        (t.lane j).get (F.AXIS_DUTY_DIFF.COUNT a) = (s.lane j).get (F.AXIS_DUTY_DIFF.COUNT a) ∧
        ∀ b, b ≠ a → (t.lane j).axHw b = (s.lane j).axHw b))) ∧
    (∀ sample, l.get (F.AXIS_HW_CFG.I_TRIP a) < sample → MakesLane (.overcurrent i a sample) s i
      (l.setAxHw { l.axHw a with excess := true, gates := false })) ∧
    (s.base.primacy = some i → (l.axHw a).gates = true → MakesLane (.mclkFault i a) s i (l.setAxHw { l.axHw a with mclk := true, gates := false })) ∧
    (∀ pos bin, MakesLane (.limitInput i a 2 true pos bin) s i (l.setAxHw { l.axHw a with
      lhome := (l.axHw a).lhome.see true l.t64 (l.debounce a), latch := pos,
      ts := (fineStamp l.time.acc l.incr bin).1 % 2 ^ 32, latchNew := true })) ∧
    (∀ level pos bin, l.homeMethod a = 0 → MakesLane (.limitInput i a 0 level pos bin) s i (l.setAxHw { l.axHw a with
      lneg := (l.axHw a).lneg.see level l.t64 (l.debounce a) }))

/-- Events of the priority buses (R111, R308, R309, R312, R313, R316): at an idle the lane with primacy begins the frame it offers, which a
PAIRED lane tracks; a frame accepted that no object matches is counted so on both lanes and enters nothing; an attempt that fails raises TEC and counts an error
frame; an error of reception raises REC; recovery ends in error-active with both counters 0. -/
def Obligations.BusEventsComplete : Prop :=
  ∀ (n : Nat) (h : LaneId) (s : State), n < 12 → s.base.primacy = some h → (∀ j, s.live j ∧ 1 ≤ (s.lane j).stage) →
    let l := s.lane h
    (∀ f, l.serves = true → l.mayTx n = true → l.flag (F.PBUS_STAT.TRANSMITTER n) = true → (s.lane h.other).flag (F.PBUS_STAT.TRANSMITTER n) = false →
      (∀ j, ((s.lane j).attempt n).isNone = true) → l.offered n = some f → l.pend n f.obj = some f →
      Completes (.pbusArbitration n) s (fun t => (t.lane h).Like (l.setPend n f.obj (some { f with active := true })) [] ∧
        (t.lane h.other).Like (if (s.lane h.other).st = .paired then (s.lane h.other).begin n f.obj else s.lane h.other) [] ∧
        t.now = s.now ∧ t.base.primacy = s.base.primacy)) ∧
    (∀ f age bA bB, f.remote = false → (∀ j, ((s.lane j).attempt n).isNone = true ∧ (s.lane j).pbus.queue = [] ∧ (s.lane j).running = true ∧
        (s.lane j).rxObj n f.idw = none) → Completes (.pbusFrameAccepted n f age bA bB) s (fun t => ∀ j,
      (t.lane j).get (F.PBUS_COUNT_RX.RECEIVED n) = min ((s.lane j).get (F.PBUS_COUNT_RX.RECEIVED n) + 1) 65535 ∧
      (t.lane j).get (F.PBUS_COUNT_RX.NO_MATCH n) = min ((s.lane j).get (F.PBUS_COUNT_RX.NO_MATCH n) + 1) 65535 ∧
      ((t.lane j).rd (Reg.EV_PEND (busPage n))).getLsbD 6 = true ∧ (t.lane j).pair.entries = (s.lane j).pair.entries)) ∧
    (∀ dTec f, l.attempt n = some f → (s.lane h.other).flag (F.PBUS_STAT.TRANSMITTER n) = false → (l.pctl n).st = 0 → (l.pctl n).tec + dTec < 128 → (l.pctl n).rxe < 128 → Completes (.pbusError n dTec) s (fun t =>
      ((t.lane h).pctl n).tec = (l.pctl n).tec + dTec ∧ ((t.lane h).pctl n).st = 0 ∧ (t.lane h).get (F.PBUS_STAT.TEC n) = (l.pctl n).tec + dTec ∧
      (∀ j, (t.lane j).get (F.PBUS_ERR.ERR_FRAMES n) = min ((s.lane j).get (F.PBUS_ERR.ERR_FRAMES n) + 1) 65535))) ∧
    (∀ dRec, (l.pctl n).st = 0 → (l.pctl n).tec < 128 → (l.pctl n).rxe + dRec < 128 → Completes (.receiveError n dRec) s (fun t =>
      ((t.lane h).pctl n).rxe = (l.pctl n).rxe + dRec ∧ ((t.lane h).pctl n).st = 0 ∧ (t.lane h).get (F.PBUS_STAT.REC n) = (l.pctl n).rxe + dRec)) ∧
    ((l.pctl n).st = 3 → Completes (.recovered n) s (fun t =>
      ((t.lane h).pctl n).st = 0 ∧ ((t.lane h).pctl n).tec = 0 ∧ ((t.lane h).pctl n).rxe = 0 ∧
      ((t.lane h).rd (Reg.EV_PEND (busPage n))).getLsbD 3 = true ∧ (t.lane h).get (F.PBUS_STAT.STATE n) = 0))

/-- Inputs, feedback and connections of the pip (R53, R318, R325–R327, R335, R336, R340, R341): an edge is seen at both lanes and counts
from its tick, and where a program of the running image reads its stamp the primacy lane enters it; channel Y, 20 µs after its pass before,
takes each level that has stood for its filter time at its last sample; an output whose off-delay has run is off in both
channels; a feedback that misses FB_TIME, a pair that differs for DISC and a TO line that reads back wrong latch their causes; a
PDU is checked by its channel; a connection whose deadline passes is SAFE; command vectors that differ for 100 ms set an event. -/
def Obligations.PipEventsComplete : Prop :=
  ∀ (i : LaneId) (n : Nat) (s : State), (∀ j, s.live j) →
    let l := s.lane i
    (∀ level, n < 128 → (∀ j, ((s.lane j).pip.line n).raw ≠ level) → Completes (.diEdge n level) s (fun t => ∀ j,
      ((t.lane j).pip.line n).raw = level ∧ ((t.lane j).pip.line n).since = s.now ∧ (t.lane j).pip.bank = (s.lane j).pip.bank ∧
      (s.base.primacy = some j → (s.lane j).running = true → (((s.lane j).image.map ImageSet.diStamps).getD []).contains n = true →
        ∃ e, (t.lane j).pair.entries = (s.lane j).pair.entries ++ [e] ∧ e.kind = 0x0A ∧ e.effect = (s.lane j).cycN + 2 ∧ e.key / 2 ^ 48 = n))) ∧
    (l.flag F.SAFE_STAT.PIP_RUN = true → l.pip.yAt + 8000 = s.now → Completes (.channelYPass i) s (fun t => t.now = s.now ∧ (t.lane i).pip.yAt = s.now ∧
      ∀ e ∈ (t.lane i).pip.lines, e.since + filtTicks (bits (l.pip.bank.di e.i) 3 0) ≤ s.now / 400 * 400 → e.fy = e.raw)) ∧
    (∀ t0, l.flag F.SAFE_STAT.PIP_RUN = true → l.pip.bank.outputs = [n] → l.pip.bank.terms n = [] → l.pip.bank.latch n = false →
      l.pip.bank.edm n = false → (l.pip.x.out n).cmd = true → (l.pip.x.out n).delay = some t0 → (l.pip.y.out n).cmd = true →
      (l.pip.y.out n).delay = some t0 → s.now = t0 + l.pip.bank.offDelay n → Completes (.offDelay i n) s (fun t =>
        ((t.lane i).pip.x.out n).cmd = false ∧ ((t.lane i).pip.y.out n).cmd = false ∧ (t.lane i).pip.bank = l.pip.bank)) ∧
    (∀ t0 e e', n < 64 → (l.pip.x.out n).fb = some (t0, e) → (l.pip.y.out n).fb = some (t0, e') → s.now = t0 + l.pip.bank.fbTime n →
      l.flag F.SAFE_FAULT.VALID = false → Completes (.edmFault i n) s (fun t => (t.lane i).get F.SAFE_FAULT.CAUSE = 7 ∧
        (t.lane i).get F.SAFE_FAULT.INDEX = n ∧ ((t.lane i).rd (Reg.EV_PEND safePage)).getLsbD 4 = true)) ∧
    (∀ t0, n < 64 → (l.pip.x.pair n).single = some t0 → (l.pip.y.pair n).single = some t0 → (l.pip.x.pair n).fault = false →
      s.now = t0 + bits (l.pip.bank.di (2 * n)) 31 24 * 4000000 → l.flag F.SAFE_FAULT.VALID = false → Completes (.pairFault i n) s (fun t =>
        (t.lane i).get F.SAFE_FAULT.CAUSE = 8 ∧ (t.lane i).get F.SAFE_FAULT.INDEX = n ∧ ((t.lane i).rd (Reg.EV_PEND safePage)).getLsbD 6 = true)) ∧
    (∀ ch x, ch < 2 → l.pip.rx.find? (fun x => x.1 == ch) = some x → Completes (.sksPdu i ch) s (fun t =>
      (t.lane i).pip.rx = l.pip.rx.erase x ∧
      ((t.lane i).pip.chan (decide (ch = 0))).conn x.2.1 =
        (((l.pip.chan (decide (ch = 0))).conn x.2.1).check l.pip.bank x.2.2.2 x.2.2.1 s.now).1 ∧
      ((t.lane i).pip.chan (decide (ch = 1))).conns = (l.pip.chan (decide (ch = 1))).conns)) ∧
    (∀ ch e, ch < 2 → (l.pip.chan (ch == 0)).conns = [e] → e.st ≠ 0 → e.dead = s.now → Completes (.sksExpiry i ch) s (fun t =>
      ((t.lane i).pip.chan (ch == 0)).conns = [{ e with st := 0, data := 0, cause := 1 }] ∧ ((t.lane i).rd (Reg.EV_PEND safePage)).getLsbD 2 = true)) ∧
    (n < 16 → l.flag F.SAFE_FAULT.VALID = false → Completes (.toReadback i n) s (fun t => (t.lane i).get F.SAFE_FAULT.CAUSE = 9 ∧
      (t.lane i).get F.SAFE_FAULT.INDEX = 64 + n ∧ (t.lane i).pip.both (64 + n) = false)) ∧
    (s.linked = true → s.bridgeBad = false → vectorsDiffer s.a.pip s.b.pip = false → vectorsDiffer s.b.pip s.a.pip = false →
      Completes .laneCompare s (fun t => ∀ j, (t.lane j).pip = { (s.lane j).pip with diff := none, othId := (t.lane j).pip.othId })) ∧
    (∀ t0, s.linked = true → s.bridgeBad = false → vectorsDiffer s.a.pip s.b.pip = true → vectorsDiffer s.b.pip s.a.pip = true →
      (∀ j, (s.lane j).pip.diff = some t0) → t0 + 40000000 ≤ s.now → Completes .laneCompare s (fun t => ∀ j,
        ((t.lane j).rd (Reg.EV_PEND safePage)).getLsbD 10 = true ∧ (t.lane j).pip.diff = some t0))

/-- A pip fault (R320): PIP_RUN drops, the cause is latched, the tick is kept from which the commands stand for 5 µs, and the lane is
FAULTED; a mismatch of the channels that outlasts its DISC_TIME is one. -/
def Obligations.PipFaultCompletes : Prop :=
  ∀ (i : LaneId) (s : State), (s.lane i).sup.valid = true → (s.lane i).pip.faultAt = none → (s.lane i).flag F.SAFE_STAT.PIP_RUN = true →
    faultable (s.lane i).st = true → (s.lane i).flag F.SAFE_FAULT.VALID = false →
    let after : Nat → Nat → State → Prop := fun cause index t => (t.lane i).get F.SAFE_STAT.PIP_RUN = 0 ∧ (t.lane i).get F.SAFE_FAULT.VALID = 1 ∧
      (t.lane i).get F.SAFE_FAULT.CAUSE = cause ∧ (t.lane i).get F.SAFE_FAULT.INDEX = index ∧ (t.lane i).pip.faultAt = some s.now ∧
      (t.lane i).st = .faulted ∧ t.now = s.now
    (∀ cause index, cause ∈ [2, 3, 4, 0xA] → index < 65536 → Completes (.pipFault i cause index) s (after cause index)) ∧
    (∀ n t0, (s.lane i).pip.mismatch = some (n, t0) → n < 400 → s.now = t0 → Completes (.pipFault i 1 0) s (after 1 n))

/-- The base's switches and the matrix of the pip (R328, R329, R331–R334, R463): a switch test opens the tested outputs and its
outcome shows; a slot is bridged and freed; an output that overloads turns itself off, and retries; a matrix is loaded and checked,
and at t_E of its activation both channels of both lanes switch to it. -/
def Obligations.SwitchAndMatrixCommandsComplete : Prop :=
  ∀ (i : LaneId) (s : State), (∀ j, s.live j) →
    let l := s.lane i
    (∀ m, l.pip.aligned = true → l.testNs ≠ 0 → l.testAt m ≤ l.pipTime → l.pipTime < l.testAt m + 200000 → l.pip.testing = none →
      MakesLane (.switchTest i m) s i { l with pip := { l.pip with testing := some (m, s.now, l.pip.bank.outputs.filter (fun n =>
        decide (n < 64) && decide (bits (l.pip.bank.out n 3) 29 29 = 1) && s.outOn n)) } }) ∧
    (∀ m t0 n, n < 64 → l.pip.testing = some (m, t0, [n]) → s.now = t0 + 80000 → l.num < 2 →
      Completes (.switchTestEnd i [(n, 0)]) s (fun t => (t.lane i).pip.testing = none ∧
        ((t.lane i).get (F.SAFE_SO.SW_OK n)).testBit (l.num * 2 + m % 2) = true ∧
        (t.lane i).get (F.SAFE_SO.TESTS n) = (l.get (F.SAFE_SO.TESTS n) + 1) % 2 ^ ((F.SAFE_SO.TESTS n).hi - (F.SAFE_SO.TESTS n).lo + 1)) ∧
      (l.flag F.SAFE_FAULT.VALID = false → Completes (.switchTestEnd i [(n, 1)]) s (fun t => (t.lane i).pip.testing = none ∧
        (t.lane i).get (F.SAFE_SO.SW_FAULT n) = 1 ∧ (t.lane i).get F.SAFE_FAULT.CAUSE = 5 ∧ ((t.lane i).rd (Reg.EV_PEND safePage)).getLsbD 5 = true))) ∧
    (s.counts i = s.wantBridge i → Completes (.bridgeChg i) s (fun t => t.counts i = !s.wantBridge i ∧ t.counts i.other = s.counts i.other ∧
      (∀ j, ((t.lane j).rd (Reg.EV_PEND safePage)).getLsbD 9 = true))) ∧
    (∀ n, n < 64 → s.outOn n = true → Completes (.soOverload n) s (fun t =>
      t = { s with base := { s.base with soOver := (n, s.now) :: s.base.soOver } } ∧ t.outOn n = false)) ∧
    (∀ n t0, s.base.soOver.find? (fun x => x.1 == n) = some (n, t0) → Completes (.overloadRetry n) s (fun t =>
      t.now = max s.now (t0 + 40000000) ∧ t.base.soOver = s.base.soOver.filter (fun y => y.1 != n) ∧ t.base.primacy = s.base.primacy)) ∧
    (∀ acc data c f, (c, f) ∈ [(Instr.safeLoad acc data none, F.SAFE_LOAD_CTRL.LOAD), (.safeActivate acc data, F.SAFE_LOAD_CTRL.ACTIVATE)] →
      s.calm acc.lane → (s.lane acc.lane).runs = true → s.serves acc Reg.SAFE_LOAD_CTRL 4 true (withBits data f.hi f.lo 1).toNat →
      Completes c s (fun t => s.entersWrite t acc Reg.SAFE_LOAD_CTRL
        (commandBy acc [(Reg.SAFE_LOAD_CTRL, withBits data f.hi f.lo 1, mirMask Reg.SAFE_LOAD_CTRL)]))) ∧
    (l.get F.SAFE_LOAD_STAT.OWN = 1 → Completes (.loadDone i true true) s (fun t =>
      (l.pip.inact.sealX = (l.pip.inact.w 8).toNat → (t.lane i).get F.SAFE_LOAD_STAT.OWN = 2) ∧
      (l.pip.inact.sealX ≠ (l.pip.inact.w 8).toNat → (t.lane i).get F.SAFE_LOAD_STAT.OWN = 3) ∧
      (t.lane i).rd Reg.SAFE_LOAD_ID = l.pip.inact.w 0 ∧ (t.lane i).rd Reg.SAFE_LOAD_SEAL_X = word l.pip.inact.sealX ∧
      ((t.lane i).rd (Reg.EV_PEND safePage)).getLsbD 7 = true ∧ (t.lane i).pip.bank = l.pip.bank)) ∧
    (∀ e, (∀ j, (s.lane j).pip.actAt = some e ∧ (s.lane j).tOf e ≤ (s.lane j).pipTime) → e < 2 ^ 64 → Completes .activated s (fun t => ∀ j,
      (t.lane j).pip.bank = (s.lane j).pip.inact ∧ (t.lane j).pip.inact = (s.lane j).pip.bank ∧ (t.lane j).pip.actAt = none ∧
      (t.lane j).get F.SAFE_LOAD_STAT.OWN = 4 ∧ (t.lane j).get64 Reg.SAFE_ACT_CYC_LO Reg.SAFE_ACT_CYC_HI = e ∧
      ((t.lane j).rd (Reg.EV_PEND safePage)).getLsbD 8 = true))

/-- Commands of the capture, the halt and the record (R33, R98, R360, R446): a served write of CAPT_CTRL or HOST_HALT enters the
mirror set, of KIND 0x06 over HAP and 0x05 over PCIe where it is a command, and does nothing before its effect cycle. -/
def Obligations.CaptureCommandsEnter : Prop :=
  ∀ (acc : Acc) (data : Word) (s : State), s.calm acc.lane → (s.lane acc.lane).runs = true →
    (∀ c k, (c, k) ∈ [(Instr.captArm acc data, 1), (.captStop acc data, 2), (.captAbort acc data, 3)] →
      s.serves acc Reg.CAPT_CTRL 4 true (withBits data 1 0 k).toNat → Completes c s (fun t =>
        s.entersWrite t acc Reg.CAPT_CTRL (commandBy acc [(Reg.CAPT_CTRL, withBits data 1 0 k, mirMask Reg.CAPT_CTRL)]))) ∧
    (s.serves acc Reg.HOST_HALT 4 true data.toNat → Completes (.soft acc data) s (fun t =>
      s.entersWrite t acc Reg.HOST_HALT (.regWrite [(Reg.HOST_HALT, data, mirMask Reg.HOST_HALT)])))

/-- The course of a capture (R358–R364, R367): at T0 it is ARMED in sequencer state 0; a counted firing of a unit named by the state
is listed and, where its ACTION says so, triggers; a state's window that closes leads to TO_NEXT; without a trigger by ARM_MAX, with
the last frame, or with the buffer overrun it is DONE with its END; 1 ms after its last one its header is
written to the capture area. -/
def Obligations.CaptureEventsComplete : Prop :=
  ∀ (i : LaneId) (s : State), s.works i captPage → (s.lane i).ledger.waiting = [] →
    let l := s.lane i
    let ends : Nat → State → Prop := fun c t => (t.lane i).get F.CAPT_STAT.STATE = 4 ∧ (t.lane i).get F.CAPT_STAT.END = c ∧
      ((t.lane i).rd (Reg.EV_PEND captPage)).getLsbD 2 = true ∧ (t.lane i).granted 2 0 = false ∧ (t.lane i).granted 1 0 = false ∧ t.now = s.now
    (∀ t0, l.capt.startAt = some t0 → l.captSt = 1 → t0 ≤ l.t64 → Completes (.captureStart i) s (fun t =>
      (t.lane i).get F.CAPT_STAT.STATE = 2 ∧ (t.lane i).get F.CAPT_STAT.SEQ = 0 ∧ (t.lane i).get F.CAPT_STAT.END = 0 ∧
      (t.lane i).capt.t0 = t0 ∧ (t.lane i).capt.frames = 0 ∧ (t.lane i).capt.seq = l.capt.seq + 1 ∧
      ((t.lane i).rd (Reg.EV_PEND captPage)).getLsbD 0 = true)) ∧
    (∀ u rising bin ti, u < 64 → l.flag (F.CAPT_TU_CFG.EN u) = true → l.get (F.CAPT_TU_CFG.KIND u) = 0 → l.flag (F.CAPT_TU_CFG.MIRROR u) = false →
      edgeSuits (l.get (F.CAPT_TU_CFG.EDGE u)) rising = true → l.fiArmed u rising = true → l.flag F.FI_CTRL.READY = true → l.capt.t0 * 256 ≤ l.capt.ts →
      ti = (fineStamp l.time.acc (2 * 2 ^ 32 + l.get F.TIME_INC.FRAC) bin).1 * 256 + (fineStamp l.time.acc (2 * 2 ^ 32 + l.get F.TIME_INC.FRAC) bin).2 →
      l.captSt = 2 → l.seqClose = none → l.capt.stopAt = none → l.capt.trig = none →
      l.capt.ts + (l.rd (Reg.CAPT_ST_HOLDOFF (l.get F.CAPT_STAT.SEQ))).toNat * 256 ≤ ti → l.get (F.CAPT_ST_W0.A (l.get F.CAPT_STAT.SEQ)) = u →
      l.get (F.CAPT_ST_COUNT.COUNT (l.get F.CAPT_STAT.SEQ)) ≤ l.capt.count + 1 → l.get (F.CAPT_ST_W0.ACTION (l.get F.CAPT_STAT.SEQ)) = 1 →
      l.capt.firings < 65280 → Completes (.triggerFiring i u rising bin) s (fun t =>
        (t.lane i).get F.CAPT_STAT.STATE = 3 ∧ (t.lane i).get F.CAPT_STAT.SEQ = l.get (F.CAPT_ST_W0.NEXT (l.get F.CAPT_STAT.SEQ)) ∧
        (t.lane i).capt.firings = l.capt.firings + 1 ∧ (t.lane i).capt.trig = some (ti, cdiv (ti - l.capt.t0 * 256) 12800) ∧
        (t.lane i).rd Reg.CAPT_TRIG_LO = word (ti / 256) ∧ ((t.lane i).rd (Reg.EV_PEND captPage)).getLsbD 1 = true)) ∧
    (∀ c, l.seqClose = some c → l.capturing = true → (c + 255) / 256 ≤ l.t64 → Completes (.seqTimeout i) s (fun t =>
      (t.lane i).get F.CAPT_STAT.SEQ = l.get (F.CAPT_ST_W0.TO_NEXT (l.get F.CAPT_STAT.SEQ)) ∧ (t.lane i).capt.ts = c ∧
      (t.lane i).capt.count = 0 ∧ (t.lane i).captSt = l.captSt)) ∧
    (l.captSt = 2 → l.capt.t0 + (l.rd Reg.CAPT_ARM_MAX).toNat * 1000000 ≤ l.t64 → Completes (.noTrigger i) s (ends 5)) ∧
    (∀ ti k, l.captSt = 3 → l.capt.trig = some (ti, k) → k + (l.rd Reg.CAPT_POST).toNat ≤ l.capt.frames →
      Completes (.captureComplete i) s (ends 1)) ∧
    (l.capturing = true → l.capt.headAt + 1000000 ≤ l.t64 → Completes (.captureHeader i) s (fun t => listAt (t.lane i).dram captArea 96 = l.captHeader.map (fun b => b % 256) ∧
      (∀ x, x < captArea ∨ captArea + 96 ≤ x → Sparse.find byte0 (t.lane i).dram x = Sparse.find byte0 l.dram x) ∧ (t.lane i).capt = { l.capt with headAt := l.t64 })) ∧
    (l.capturing = true → Completes (.captureOverrun i) s (fun t => ends 8 t ∧ (t.lane i).capt.lost = some l.capt.frames ∧
      ((t.lane i).rd (Reg.EV_PEND captPage)).getLsbD 4 = true))

/-- The recorder's commands (R381, R383): the record port sends the next punnet held; its link and its destination follow what it
meets; under a flash grant the oldest queued punnet is written to the record store, and an empty queue gives the grants back. -/
def Obligations.RecorderCommandsComplete : Prop :=
  ∀ (i : LaneId) (s : State), s.works i recPage →
    let l := s.lane i
    (l.stage = 3 → l.recd.send < l.recd.cnt.pseq → l.recd.cnt.pseq ≤ l.recd.send + holdSlots →
      l.uncorrIn (4096 * (l.recd.send % holdSlots)) 4096 = false → l.flag F.REC_PORT_CTRL.EN = true → l.flag F.REC_PORT_CTRL.LINK = true →
      l.recd.mac.isSome = true → MakesLane (.punnetSend i) s i
        ((l.cnt F.REC_PORT_SENT.COUNT 1).withRec (fun h => { h with send := h.send + 1, tx := h.tx ++ [⟨l.recd.mac.getD 0, (l.rd Reg.REC_PORT_IP).toNat,
          (l.rd Reg.REC_PORT_DST).toNat, l.get F.REC_PORT_CTRL.UDP, listAt l.dram (4096 * (l.recd.send % holdSlots)) 4096⟩] }))) ∧
    (l.stage = 3 → l.recd.send + holdSlots < l.recd.cnt.pseq → l.flag F.REC_PORT_CTRL.EN = false →
      l.uncorrIn (4096 * ((l.recd.cnt.pseq - holdSlots) % holdSlots)) 4096 = false → Completes (.punnetSend i) s (fun t =>
        (t.lane i).recd.send = l.recd.cnt.pseq - holdSlots ∧ ((t.lane i).rd (Reg.EV_PEND recPage)).getLsbD 1 = true ∧
        (t.lane i).get F.REC_PORT_SKIP.COUNT =
          min (l.get F.REC_PORT_SKIP.COUNT + (l.recd.cnt.pseq - holdSlots - l.recd.send)) (2 ^ 32 - 1))) ∧
    (∀ m, l.flag F.REC_PORT_CTRL.LINK = false → MakesLane (.arpResolve i true (some m)) s i
      (((l.setB F.REC_PORT_CTRL.LINK true).ev recPage 2).withRec (fun h => { h with mac := some m }))) ∧
    (l.flag F.REC_PORT_CTRL.LINK = true → MakesLane (.arpResolve i true none) s i l) ∧
    (∀ q slot rest, (l.granted 4 0 || l.granted 5 0) = true → l.recd.flashQ = (q, slot) :: rest →
      (l.recd.wrote.filter (fun x => decide (s.now < x + 400000000))).length < 976 → l.recd.store.length < storeSlots →
      Completes (.flashWrite i) s (fun t =>
        (t.lane i).recd.store = l.recd.store ++ [(q, listAt l.dram (0x5C0000000 + 4096 * slot) 4096)] ∧
        (t.lane i).recd.flashQ = rest ∧ (t.lane i).recd.cnt = l.recd.cnt ∧ (t.lane i).dram = l.dram ∧ (t.lane i).car = l.car)) ∧
    (l.granted 4 0 = true → l.recd.flashQ = [] → l.ledger.waiting = [] → Completes (.flashWrite i) s (fun t =>
      (t.lane i).granted 4 0 = false ∧ (t.lane i).granted 5 0 = false ∧ (t.lane i).recd = l.recd ∧
      (t.lane i).get F.REC_FLASH_STAT.GRANTED = 0))

/-- The event log (R385, R387, R388): buffered records reach flash, which keeps the stone; space that returns takes one record of
the number dropped; GO and COPY start a request, which ends with the record in LOG_RD_DATA, with the records in the service area,
or with ERR; OP_MS is kept in flash. -/
def Obligations.LogCommandsComplete : Prop :=
  ∀ (i : LaneId) (s : State), s.live i →
    let l := s.lane i
    (∀ n, Completes (.logFlashWrite i n) s (fun t => (t.lane i).log.buf = l.log.buf.drop n ∧
      (∀ r ∈ l.log.flash ++ l.log.buf.take n, r.seq < 65536 → r ∈ (t.lane i).log.flash) ∧
      (∀ r ∈ (t.lane i).log.flash, r ∈ l.log.flash ++ l.log.buf.take n) ∧
      ((t.lane i).log.flash.filter (fun r => decide (65536 ≤ r.seq))).length ≤ 1048576 ∧ (t.lane i).log.dropped = l.log.dropped)) ∧
    (l.log.dropped ≠ 0 → l.log.buf.length < 1024 → Completes (.logWindfall i) s (fun t => (t.lane i).log.dropped = 0 ∧
      (∃ r, (t.lane i).log.buf = l.log.buf ++ [r] ∧ r.code = 0x010E ∧ r.data = [(4, l.log.dropped)] ∧ r.seq = l.log.next) ∧
      ((t.lane i).rd (Reg.EV_PEND recPage)).getLsbD 4 = true)) ∧
    (∀ (acc : Acc) (data : Word), acc.lane = i → l.log.rd = none →
      (bits data 1 1 = 0 → s.serves acc Reg.LOG_RD_CTRL 4 true (withBits data 0 0 1).toNat → Completes (.logRdGo acc data) s (fun t =>
        (t.lane i).log = { l.log with rd := some (false, acc.seat.val) } ∧ (t.lane i).get F.LOG_RD_STAT.BUSY = 1 ∧ (t.lane i).get F.LOG_RD_STAT.ERR = 0)) ∧
      (s.serves acc Reg.LOG_RD_CTRL 4 true (withBits data 1 1 1).toNat → Completes (.logRdCopy acc data) s (fun t =>
        (t.lane i).log = { l.log with rd := some (true, acc.seat.val) } ∧ (t.lane i).get F.LOG_RD_STAT.BUSY = 1 ∧ (t.lane i).get F.LOG_RD_STAT.ERR = 0 ∧
        (t.lane i).get F.LOG_RD_CTRL.COUNT = max 1 (bits data 11 2)))) ∧
    (s.works i recPage → ∀ r seat, l.log.rd = some (false, seat) → l.logHeld (l.get64 Reg.LOG_RD_SEQ_LO Reg.LOG_RD_SEQ_HI) = some r →
      Completes (.rdDone i) s (fun t => (∀ k, k < 16 → (t.lane i).rd (Reg.LOG_RD_DATA k) = word (leVal ((r.bytes.drop (4 * k)).take 4))) ∧
        (t.lane i).get F.LOG_RD_STAT.BUSY = 0 ∧ (t.lane i).get F.LOG_RD_STAT.DONE_N = 1 ∧
        ((t.lane i).rd (Reg.EV_PEND recPage)).getLsbD 5 = true ∧ (t.lane i).log.rd = none ∧ (t.lane i).dram = l.dram)) ∧
    (∀ seat, s.works i recPage → l.log.rd = some (false, seat) → seat < 256 → l.logHeld (l.get64 Reg.LOG_RD_SEQ_LO Reg.LOG_RD_SEQ_HI) = none →
      Completes (.rdDone i) s (fun t => (t.lane i).get F.LOG_RD_STAT.BUSY = 0 ∧ (t.lane i).get F.LOG_RD_STAT.ERR = 1 ∧
        (t.lane i).get F.LOG_RD_STAT.DONE_N = 0 ∧ (l.get (F.ERR_CODE.CODE recPage) = 0 → (t.lane i).get (F.ERR_CODE.CODE recPage) = 0x41 ∧ (t.lane i).get (F.ERR_CODE.SOURCE recPage) = seat))) ∧
    (s.works i recPage → ∀ off seat, l.log.rd = some (true, seat) → l.get F.LOG_RD_CTRL.COUNT ≠ 0 →
      (l.rd Reg.LOG_RD_DST_LO).toNat + l.get F.LOG_RD_DST_HI.ADDR * 2 ^ 32 = 0x1000000000 + off → svcArea ≤ off →
      off + 64 * l.get F.LOG_RD_CTRL.COUNT ≤ svcArea + svcBytes → Completes (.rdDone i) s (fun t =>
        (t.lane i).dram = putList l.dram off ((l.logRun (l.get F.LOG_RD_CTRL.COUNT) (l.get64 Reg.LOG_RD_SEQ_LO Reg.LOG_RD_SEQ_HI)).map LogRec.bytes).flatten ∧
        (t.lane i).get F.LOG_RD_STAT.DONE_N = (l.logRun (l.get F.LOG_RD_CTRL.COUNT) (l.get64 Reg.LOG_RD_SEQ_LO Reg.LOG_RD_SEQ_HI)).length ∧
        (t.lane i).log.rd = none)) ∧
    MakesLane (.opMsRewrite i) s i { l with log := { l.log with opFlash := l.opMs } }

/-- Submissions and cancels of work (R393, R396): a write of WORK_SUB_7 submits the eight words of the seat: an item that is not
refused enters the queue, the delay list or the mirror set, and RES says so; one that is refused enters nothing, is counted, and RES
shows the cause. A cancel of a waiting item takes it away; of no item, CANCEL says so. -/
def Obligations.WorkSubmissionsComplete : Prop :=
  ∀ (acc : Acc) (data : Word) (s : State), s.calm acc.lane →
    let l := s.lane acc.lane
    let q := acc.seat.val
    let it := itemOf ((l.work.stagedOf q).set 7 data.toNat) q
    (s.serves acc (Reg.WORK_SUB 7) 4 true data.toNat →
      (l.workRefusal it = none → it.mirror = false → it.delayed = false → Completes (.workSubmit acc data) s (fun t =>
        (t.lane acc.lane).work.queue.map Item.ws = l.work.queue.map Item.ws ++ [it.ws] ∧ (t.lane acc.lane).work.delay = l.work.delay ∧
        (t.lane acc.lane).work.resOf q = (1, (l.work.resOf q).2.1, 0) ∧ (t.lane acc.lane).work.cores = l.work.cores)) ∧
      (l.workRefusal it = none → it.mirror = false → it.delayed = true → Completes (.workSubmit acc data) s (fun t =>
        (t.lane acc.lane).work.queue.map Item.ws = l.work.queue.map Item.ws ∧
        (t.lane acc.lane).work.delay.map Item.ws = l.work.delay.map Item.ws ++ [it.ws] ∧
        (t.lane acc.lane).work.resOf q = (1, (l.work.resOf q).2.1, 0))) ∧
      (l.workRefusal it = none → it.mirror = true → l.runs = true → Completes (.workSubmit acc data) s (fun t =>
        (∃ e, (t.lane acc.lane).pair.entries = l.pair.entries ++ [e] ∧ e.pay = .work it.ws ∧ e.seat = some q ∧ e.effect = l.cycN + 2) ∧
        (t.lane acc.lane).work.queue = l.work.queue)) ∧
      (∀ c, l.workRefusal it = some c → Completes (.workSubmit acc data) s (fun t =>
        (t.lane acc.lane).work.queue = l.work.queue ∧ (t.lane acc.lane).work.delay = l.work.delay ∧
        (t.lane acc.lane).work.resOf q = (2, (l.work.resOf q).2.1, c) ∧ (t.lane acc.lane).pair.entries = l.pair.entries ∧
        (t.lane acc.lane).get F.WORK_COUNT.REFUSED = min (l.get F.WORK_COUNT.REFUSED + 1) 65535 ∧
        ((t.lane acc.lane).rd (Reg.EV_PEND workPage)).getLsbD 0 = true))) ∧
    (s.serves acc Reg.WORK_CANCEL_HI 4 true data.toNat → let id := (l.rd Reg.WORK_CANCEL_LO).toNat + data.toNat * 2 ^ 32
      (∀ c ∈ l.work.cores, c.item.id ≠ id) → (∀ e ∈ l.pair.entries, e.kind ≠ 0x06) →
      (∀ x, l.work.queue = [x] → l.work.delay = [] → x.id = id → x.mirror = false → x.noReply = true → Completes (.workCancel acc data) s (fun t =>
        (t.lane acc.lane).work.queue = [] ∧ (t.lane acc.lane).work.delay = [] ∧ (t.lane acc.lane).fifos = l.fifos ∧
        (t.lane acc.lane).work.resOf q = ((l.work.resOf q).1, 1, (l.work.resOf q).2.2))) ∧
      ((∀ x ∈ l.work.queue ++ l.work.delay, x.id ≠ id) → Completes (.workCancel acc data) s (fun t =>
        (t.lane acc.lane).work.queue = l.work.queue ∧ (t.lane acc.lane).work.delay = l.work.delay ∧
        (t.lane acc.lane).work.resOf q = ((l.work.resOf q).1, 2, (l.work.resOf q).2.2))))

/-- The service cores (R390, R395, R398, R399, R403): the lowest free core takes the best ready item; an item in service completes
with its result; a tick of the scheduler releases the delayed items that are due; a ring request without an answer for 100 ms ends its
item; a trace queue with room takes the record of what was dropped. -/
def Obligations.ServiceCoresComplete : Prop :=
  ∀ (i : LaneId) (s : State), s.works i workPage →
    let l := s.lane i
    (∀ c it, l.freeCore = some c → l.work.best = some (.inr it) → l.itemBad it = none → l.itemReqs it l.work.tags = [] →
      Completes (.workDispatch i) s (fun t =>
        (t.lane i).work.cores = l.work.cores ++ [⟨c, it, s.now, none, []⟩] ∧ (t.lane i).get (F.WORK_CORE_STAT.STATE c) = 2 ∧
        (t.lane i).work.queue.map Item.ws = (l.work.queue.filter (fun x => !(x == it))).map Item.ws ∧ (t.lane i).ring = l.ring)) ∧
    (l.freeCore = none ∨ l.work.best = none → MakesLane (.workDispatch i) s i l) ∧
    (∀ core c, l.work.cores.find? (fun x => x.core == core) = some c → c.bad = none →
      c.tags.all (fun x => l.ring.acycIn.any (fun a => a.tag == x)) = true → c.item.mirror = false → c.item.noReply = true →
      l.pair.accepted = [] → Completes (.workDone i core) s (fun t =>
        (t.lane i).work.cores = l.work.cores.filter (fun x => x.core != core) ∧
        (t.lane i).get F.WORK_COUNT.DONE = (l.get F.WORK_COUNT.DONE + 1) % 2 ^ 16 ∧ (t.lane i).pair.entries = l.pair.entries)) ∧
    (∀ core c, l.work.cores.find? (fun x => x.core == core) = some c → c.bad = none → c.tags = [] → c.item.mirror = true → c.item.func = 0 →
      s.prime i = true → l.runs = true → Completes (.workDone i core) s (fun t => ∃ e, (t.lane i).pair.entries = l.pair.entries ++ [e] ∧
        e.pay = .svc c.item.id 0 0 c.item.resultOfs (leBytes 4 c.item.argA ++ leBytes 4 c.item.argB) ∧ e.kind = 0x08 ∧ e.seat = none)) ∧
    (l.work.tickAt < l.t64 / 10000 → Completes (.delayTick i) s (fun t => t.now = s.now ∧ (t.lane i).work.tickAt = l.t64 / 10000 ∧
      (t.lane i).work.delay = l.work.delay.filter (fun x => decide (l.t64 / 10000 * 10000 + 10000 ≤ x.deadline)) ∧
      (t.lane i).work.queue.map Item.ws = l.work.queue.map Item.ws ++ (l.work.dueAt (l.t64 / 10000 * 10000)).map Item.ws)) ∧
    (∀ core c, l.work.cores.find? (fun x => x.core == core) = some c → c.bad = none → c.tags ≠ [] → s.now = c.since + 40000000 →
      c.item.func ≠ 3 → c.item.mirror = false → c.item.noReply = true → l.pair.accepted = [] → Completes (.acycTimeout i core) s (fun t =>
        t.now = s.now ∧ (t.lane i).work.cores = l.work.cores.filter (fun x => x.core != core) ∧
        (t.lane i).get F.WORK_COUNT.DONE = (l.get F.WORK_COUNT.DONE + 1) % 2 ^ 16 ∧
        (∀ a ∈ (t.lane i).ring.acycQ ++ (t.lane i).ring.acycOut, a.tag ∉ c.tags) ∧ (t.lane i).dram = l.dram)) ∧
    (l.work.trc.drop ≠ 0 → l.work.trc.q.length < 4096 → MakesLane (.workTrcWindfall i) s i
      ((l.ev workPage 3).withWork (fun h => { h with trc := ⟨h.trc.q ++ [workRec l.t64 0x1F 0xFF h.trc.drop 0 0 0], 0⟩ })))

/-- Cores 8 to 15 (R397): when the item ready longest has waited WAIT_US, SERVICE_BOOST is requested, and joins the requests of its
CLK_REG cycle; with the quanta free it is granted at the cycle's end (R90), and the cores run; once they have been idle for IDLE_MS the
grant is given back. -/
def Obligations.ServiceBoostCompletes : Prop :=
  ∀ (i : LaneId) (s : State), s.works i workPage →
    let l := s.lane i
    (∀ t0, (l.work.queue.filterMap Item.ready).min? = some t0 → s.now = t0 + l.get F.WORK_BOOST.WAIT_US * 400 → l.granted 6 0 = false →
      l.asking 6 0 = false → MakesLane (.boostRequest i) s i { l with ledger := { l.ledger with
        asked := insAsk ⟨6, classQuanta 6, l.get F.WORK_BOOST.IDLE_MS * 1000000, l.ledger.arrivals, s.now, 0⟩ l.ledger.asked } }) ∧
    (∀ r, s.pending = [] → s.base.primacy.isSome = true → s.now % 2 = 1 → l.ledger.asked = [r] → r.cls = 6 → r.who = 0 →
      l.ledger.news = [] → r.quanta ≤ l.pool → l.fits r = true →
      ∃ t, step s = .next t ∧ (t.lane i).granted 6 0 = true ∧ (t.lane i).get F.WORK_STAT.BOOST = 1 ∧
        (t.lane i).work.idle = s.now + 1 ∧ ((t.lane i).rd (Reg.EV_PEND workPage)).getLsbD 4 = true) ∧
    (l.granted 6 0 = true → (∀ c ∈ l.work.cores, c.core < 8) → l.ledger.waiting = [] →
      s.now = l.work.idle + l.get F.WORK_BOOST.IDLE_MS * 400000 → Completes (.boostRelease i) s (fun t =>
        (t.lane i).granted 6 0 = false ∧ (t.lane i).get F.WORK_STAT.BOOST = 0 ∧
        ((t.lane i).rd (Reg.EV_PEND workPage)).getLsbD 4 = true ∧ t.now = s.now ∧ (t.lane i).work.cores = l.work.cores))

/-- The FIFOs (R405, R407, R408): bytes written are gathered; a twelfth byte, the last word of a message or FLUSH_US without a write
commits them as one read word; a word that meets a full FIFO is dropped and counted; with EN 0 nothing is taken; a read removes the
oldest word, or gives NV. -/
def Obligations.FifoCommandsComplete : Prop :=
  ∀ (acc : Acc) (f : Nat) (data : Word) (s : State), f < 256 → s.calm acc.lane →
    let l := s.lane acc.lane
    let e := l.fifo f
    (s.serves acc (Reg.FIFO_WR f) 4 true data.toNat →
      (l.flag (F.FIFO_CFG.EN f) = true → e.held.length + 4 < 12 → Completes (.fifoWr acc f data) s (fun t =>
        (t.lane acc.lane).fifo f = { e with held := e.held ++ leBytes 4 data.toNat, last := s.now } ∧
        ∀ g, g ≠ f → (t.lane acc.lane).fifo g = l.fifo g)) ∧
      (l.flag (F.FIFO_CFG.EN f) = true → 12 ≤ e.held.length + 4 → e.dropping = false → e.words.length < l.fifoDepth f →
        Completes (.fifoWr acc f data) s (fun t => (t.lane acc.lane).fifo f =
          { e with words := e.words ++ [rdWord e.wseq (e.held ++ leBytes 4 data.toNat) false], held := [], wseq := e.wseq + 1, last := s.now })) ∧
      (l.flag (F.FIFO_CFG.EN f) = true → 12 ≤ e.held.length + 4 → e.dropping = false → l.fifoDepth f ≤ e.words.length →
        Completes (.fifoWr acc f data) s (fun t => ((t.lane acc.lane).fifo f).words = e.words ∧ ((t.lane acc.lane).fifo f).dropping = true ∧
          ((t.lane acc.lane).fifo f).held = [] ∧ (t.lane acc.lane).get (F.FIFO_STAT.WF_PEND f) = 1)) ∧
      (l.flag (F.FIFO_CFG.EN f) = false → Completes (.fifoWr acc f data) s (fun t => (t.lane acc.lane).fifos = l.fifos))) ∧
    (s.serves acc (Reg.FIFO_WR_END f) 4 true data.toNat → l.flag (F.FIFO_CFG.EN f) = true → e.dropping = false →
      e.words.length < l.fifoDepth f → Completes (.fifoWrEnd acc f data) s (fun t =>
        ((t.lane acc.lane).fifo f).words =
          e.words ++ [rdWord e.wseq (e.held ++ leBytes (l.get (F.FIFO_WR_TAIL.VB f)) data.toNat) true] ∧
        ((t.lane acc.lane).fifo f).held = [] ∧ (t.lane acc.lane).get (F.FIFO_WR_TAIL.VB f) = 4)) ∧
    (s.works acc.lane (fifoPage f) → e.held ≠ [] → l.get (F.FIFO_CFG.FLUSH_US f) ≠ 0 → e.dropping = false → e.words.length < l.fifoDepth f →
      s.now = e.last + l.get (F.FIFO_CFG.FLUSH_US f) * 400 → Completes (.fifoFlush acc.lane f) s (fun t => t.now = s.now ∧
        (t.lane acc.lane).fifo f = { e with words := e.words ++ [rdWord e.wseq e.held false], held := [], wseq := e.wseq + 1 })) ∧
    (s.serves acc (Reg.FIFO_RD_0 f) 4 false 0 →
      (∀ w rest, e.words = w :: rest → e.drops.2.1 = 0 → Completes (.fifoRd0 acc f 4) s (fun t =>
        ((t.lane acc.lane).fifo f).words = rest ∧ (t.lane acc.lane).fifoCaptured f acc.seat.val 1 = w.d1 ∧
        (t.lane acc.lane).fifoCaptured f acc.seat.val 2 = w.d2 ∧ (t.lane acc.lane).fifoCaptured f acc.seat.val 3 = w.d3 ∧
        (acc.seat.val, Resp.data (w.hdr % 2 ^ 32)) ∈ (t.lane acc.lane).acc.resp)) ∧
      (e.words = [] → Completes (.fifoRd0 acc f 4) s (fun t => ((t.lane acc.lane).fifo f).words = [] ∧
        (acc.seat.val, Resp.data 2) ∈ (t.lane acc.lane).acc.resp)))

/-- Levels and wakes of the interrupt controller (R410, R413, R415): a level that rises sets the pending bit, or LOST where it is set
already; an unmasked source is delivered to a target that is awake, and waits for one that sleeps; a target that wakes takes what waits
for it; 50 µs after the wake request what waits goes to FALLBACK. -/
def Obligations.InterruptEventsComplete : Prop :=
  ∀ (i : LaneId) (s : State), s.works i irqPage →
    let l := s.lane i
    (∀ src, src < 1024 → src ∈ l.levels → src ∉ l.irq.level → l.irqPend src = false → l.irqMasked src = false →
      (l.awake (l.get (F.IRQ_ROUTE.TARGET src)) = true → l.get (F.IRQ_ROUTE.TARGET src) ≠ 0x1F → Completes (.irqLevelRise i src) s (fun t =>
        (t.lane i).irqPend src = true ∧ src ∈ (t.lane i).irq.level ∧
        ∃ d, (t.lane i).irq.out = l.irq.out ++ [d] ∧ d.target = l.get (F.IRQ_ROUTE.TARGET src) ∧ d.source = src)) ∧
      (l.awake (l.get (F.IRQ_ROUTE.TARGET src)) = false → l.get (F.IRQ_ROUTE.TARGET src) ≠ 0x1F → Completes (.irqLevelRise i src) s (fun t =>
        (t.lane i).irqPend src = true ∧ (t.lane i).irq.out = l.irq.out ∧
        (⟨src, l.get (F.IRQ_ROUTE.TARGET src), s.now, false⟩ : Wait) ∈ (t.lane i).irq.waits ∧
        (t.lane i).get (F.IRQ_TGT_STAT.WAKE_PEND (l.get (F.IRQ_ROUTE.TARGET src))) = 1))) ∧
    (∀ src, src < 1024 → src ∈ l.levels → src ∉ l.irq.level → l.irqPend src = true → Completes (.irqLevelRise i src) s (fun t =>
      (t.lane i).srcBit (Reg.IRQ_LOST 0) src = true ∧ (t.lane i).irq.out = l.irq.out ∧ (t.lane i).irqPend src = true)) ∧
    (∀ n, n < 0x10 → Completes (.targetWake i n) s (fun t => (∀ w ∈ (t.lane i).irq.waits, w.target ≠ n) ∧
      (t.lane i).irq.out.map (fun d => d.source) = l.irq.out.map (fun d => d.source) ++
        (l.irq.waits.filter (fun w => w.target == n)).map Wait.source ∧ (t.lane i).get (F.IRQ_TGT_STAT.WAKE_PEND n) = 0)) ∧
    (∀ n w, l.irq.waits = [w] → w.target = n → w.fallback = false → s.now = w.since + 20000 → l.awake n = false →
      (l.get (F.IRQ_ROUTE.FALLBACK w.source) = 0x1F → Completes (.wakeTimeout i n) s (fun t => t.now = s.now ∧ (t.lane i).irq.waits = [] ∧
        w.source ∈ (t.lane i).irq.undeliv ∧ ((t.lane i).rd (Reg.EV_PEND irqPage)).getLsbD 1 = true ∧ (t.lane i).irq.out = l.irq.out)) ∧
      (l.get (F.IRQ_ROUTE.FALLBACK w.source) ≠ 0x1F → l.awake (l.get (F.IRQ_ROUTE.FALLBACK w.source)) = true →
        Completes (.wakeTimeout i n) s (fun t => t.now = s.now ∧ (t.lane i).irq.waits = [] ∧
          ((t.lane i).rd (Reg.EV_PEND irqPage)).getLsbD 0 = true ∧
          (t.lane i).get F.IRQ_STAT.FALLBACKS = min (l.get F.IRQ_STAT.FALLBACKS + 1) 65535 ∧
          ∃ d, (t.lane i).irq.out = l.irq.out ++ [d] ∧ d.target = l.get (F.IRQ_ROUTE.FALLBACK w.source) ∧ d.source = w.source)))

/-- Writes of the interrupt controller (R410, R412, R413): IRQ_SET sets pending bits; IRQ_PEND clears those whose level is 0; IRQ_MASK
takes its value, and a pending source whose mask clears is delivered; IRQ_ROUTE takes the codes of seats and of none, and refuses the
others. -/
def Obligations.InterruptWritesComplete : Prop :=
  ∀ (acc : Acc) (data : Word) (s : State), s.calm acc.lane →
    let l := s.lane acc.lane
    (∀ k, k < 32 → s.serves acc (Reg.IRQ_SET k) 4 true data.toNat → Completes (.irqSet acc k data) s (fun t =>
      (t.lane acc.lane).rd (Reg.IRQ_PEND k) = l.rd (Reg.IRQ_PEND k) ||| data ∧
      ∀ n, n < 32 → n ≠ k → (t.lane acc.lane).rd (Reg.IRQ_PEND n) = l.rd (Reg.IRQ_PEND n))) ∧
    (∀ k, k < 32 → l.levels = [] → s.serves acc (Reg.IRQ_PEND k) 4 true data.toNat → Completes (.irqPend acc k data) s (fun t =>
      (t.lane acc.lane).rd (Reg.IRQ_PEND k) = l.rd (Reg.IRQ_PEND k) &&& ~~~data ∧ (t.lane acc.lane).irq.out = l.irq.out)) ∧
    (∀ k, k < 32 → s.serves acc (Reg.IRQ_MASK k) 4 true data.toNat → Completes (.irqMask acc k data) s (fun t =>
      (t.lane acc.lane).rd (Reg.IRQ_MASK k) = data ∧ (∀ n, n < 32 → (t.lane acc.lane).rd (Reg.IRQ_PEND n) = l.rd (Reg.IRQ_PEND n)) ∧
      (l.rd (Reg.IRQ_PEND k) = 0#32 → (t.lane acc.lane).irq = l.irq))) ∧
    (∀ src, src < 1024 → s.serves acc (Reg.IRQ_ROUTE src) 4 true data.toNat →
      (codeRefused (bits data 12 8) = false → codeRefused (bits data 20 16) = false → 0x10 ≤ l.get (F.IRQ_ROUTE.TARGET src) →
        Completes (.irqRoute acc src data) s (fun t => (t.lane acc.lane).rd (Reg.IRQ_ROUTE src) = data &&& 0x1F1F1F#32 ∧
          ∀ n, n < 1024 → n ≠ src → (t.lane acc.lane).rd (Reg.IRQ_ROUTE n) = l.rd (Reg.IRQ_ROUTE n))) ∧
      (codeRefused (bits data 12 8) = true ∨ codeRefused (bits data 20 16) = true ∨ l.get (F.IRQ_ROUTE.TARGET src) < 0x10 →
        Completes (.irqRoute acc src data) s (fun t => (t.lane acc.lane).rd (Reg.IRQ_ROUTE src) = l.rd (Reg.IRQ_ROUTE src) ∧
          (l.get (F.ERR_CODE.CODE irqPage) = 0 → (t.lane acc.lane).get (F.ERR_CODE.CODE irqPage) = 0x40))))

/-- Writes of a DMA channel's DMA_CH_CTRL (R422, R424, R425): a doorbell of an idle channel starts a run of the shadow set for the
seat, of a running one marks the shadow pending; a descriptor that is invalid halts the channel; PAUSE stops a running channel; RESUME
sets a halted one going; ABORT ends the run and drops a pending shadow. -/
def Obligations.DmaWritesComplete : Prop :=
  ∀ (acc : Acc) (n : Nat) (data : Word) (s : State), n < 64 → s.calm acc.lane →
    let l := s.lane acc.lane
    let only : Nat → Word → Prop := fun k w => ∀ j, j < 4 → j ≠ k → bits w j j = if j = 1 then l.get (F.DMA_CH_CTRL.PAUSE n) else 0
    (only 0 data → s.serves acc (Reg.DMA_CH_CTRL n) 4 true (withBits data 0 0 1).toNat →
      (l.dmaSt n = 0 → descBad (l.shadow n) = false → dSspace (l.shadow n) ≠ 0 → dDspace (l.shadow n) ≠ 0 → l.flag (F.DMA_CH_CTRL.PAUSE n) = false →
        Completes (.doorbell acc n data) s (fun t => (t.lane acc.lane).dmaSt n = 1 ∧ (t.lane acc.lane).get (F.DMA_CH_STAT.OWNER n) = acc.seat.val ∧
          (t.lane acc.lane).dmaC n = ⟨n, l.shadow n, 0, none, none, none⟩ ∧ (t.lane acc.lane).dram = l.dram)) ∧
      (l.dmaSt n = 0 → descBad (l.shadow n) = true → Completes (.doorbell acc n data) s (fun t => (t.lane acc.lane).dmaSt n = 5 ∧
        (t.lane acc.lane).get (F.DMA_CH_HALT.CAUSE n) = 4 ∧ ((t.lane acc.lane).rd (Reg.EV_PEND (dmaPage n))).getLsbD 2 = true)) ∧
      (l.dmaSt n ≠ 0 → (l.dmaC n).pend = none → Completes (.doorbell acc n data) s (fun t => (t.lane acc.lane).dmaSt n = l.dmaSt n ∧
        (t.lane acc.lane).dmaC n = { l.dmaC n with pend := some acc.seat.val } ∧ (t.lane acc.lane).get (F.DMA_CH_STAT.SH_PEND n) = 1)) ∧
      (l.dmaSt n ≠ 0 → (l.dmaC n).pend.isSome = true → Completes (.doorbell acc n data) s (fun t => (t.lane acc.lane).dma = l.dma ∧
        (l.get (F.ERR_CODE.CODE (dmaPage n)) = 0 → (t.lane acc.lane).get (F.ERR_CODE.CODE (dmaPage n)) = 0x41)))) ∧
    (only 1 data → s.serves acc (Reg.DMA_CH_CTRL n) 4 true data.toNat →
      (bits data 1 1 = 1 → l.flag (F.DMA_CH_CTRL.PAUSE n) = false → l.dmaSt n = 1 ∨ l.dmaSt n = 2 → Completes (.dmaPause acc n data) s (fun t =>
        (t.lane acc.lane).dmaSt n = 3 ∧ (t.lane acc.lane).get (F.DMA_CH_CTRL.PAUSE n) = 1 ∧ (t.lane acc.lane).dmaC n = l.dmaC n)) ∧
      (bits data 1 1 = 0 → l.flag (F.DMA_CH_CTRL.PAUSE n) = true → l.dmaSt n = 3 ∨ l.dmaSt n = 4 → Completes (.dmaPause acc n data) s (fun t =>
        (t.lane acc.lane).dmaSt n = 1 ∧ (t.lane acc.lane).get (F.DMA_CH_CTRL.PAUSE n) = 0 ∧ (t.lane acc.lane).dmaC n = l.dmaC n))) ∧
    (only 2 data → s.serves acc (Reg.DMA_CH_CTRL n) 4 true (withBits data 2 2 1).toNat →
      l.dmaSt n = 5 → l.get (F.DMA_CH_HALT.CAUSE n) ≠ 4 → l.get (F.DMA_CH_HALT.CAUSE n) ≠ 5 → l.get (F.DMA_CH_HALT.CAUSE n) ≠ 6 →
      Completes (.dmaResume acc n data) s (fun t => (t.lane acc.lane).dmaSt n = 1 ∧ (t.lane acc.lane).dmaC n = l.dmaC n)) ∧
    (only 3 data → s.serves acc (Reg.DMA_CH_CTRL n) 4 true (withBits data 3 3 1).toNat → l.dmaSt n ≠ 0 →
      Completes (.dmaAbort acc n data) s (fun t => (t.lane acc.lane).dmaSt n = 0 ∧
        (t.lane acc.lane).dmaC n = { l.dmaC n with next := none, pend := none }))

/-- The course of a DMA channel (R420, R421, R423–R426): the descriptor in service moves its bytes, those and no others, and with LAST
the run ends; a chain goes to its next descriptor, which is fetched; a channel that pauses stops reading; an access that fails halts it
with CAUSE and SIDE; a channel that waits for a FIFO takes a word that has come. -/
def Obligations.DmaCourseCompletes : Prop :=
  ∀ (i : LaneId) (n : Nat) (s : State), n < 64 → s.works i (dmaPage n) →
    let l := s.lane i
    let c := l.dmaC n
    (∀ host src dst, l.dmaSt n = 1 → c.next = none → c.pend = none → c.moved = 0 → dSspace c.act = 0 → dDspace c.act = 0 → dSinc c.act = true →
      dDinc c.act = true → dLast c.act = true → dWb c.act = false → 0 < dLen c.act → dLen c.act % dBeat c.act = 0 →
      dSrc c.act = 0x1000000000 + src → dDst c.act = 0x1000000000 + dst → Completes (.descDone i n host) s (fun t =>
        listAt (t.lane i).dram dst (dLen c.act) = listAt l.dram src (dLen c.act) ∧
        (∀ x, x < dst ∨ dst + dLen c.act ≤ x → Sparse.find byte0 (t.lane i).dram x = Sparse.find byte0 l.dram x) ∧
        (t.lane i).dmaSt n = 0 ∧ ((t.lane i).rd (Reg.EV_PEND (dmaPage n))).getLsbD 1 = true)) ∧
    (∀ host a, l.dmaSt n = 1 → c.next = some (0, 0x1000000000 + a) → inDram (0x1000000000 + a) 32 = true →
      let ws := (List.range 8).map (fun k => bytesAt l.dram (a + 4 * k) 4)
      descBad ws = false → dSspace ws ≠ 0 → dDspace ws ≠ 0 → l.flag (F.DMA_CH_CTRL.PAUSE n) = false → Completes (.descriptorFetch i n host) s (fun t =>
        (t.lane i).dmaC n = { c with act := ws, moved := 0, desc := some (0, 0x1000000000 + a), next := none } ∧ (t.lane i).dmaSt n = 1 ∧
        (t.lane i).dram = l.dram)) ∧
    (∀ host a, l.dmaSt n = 1 → c.next = some (1, a) → let ws := (List.range 8).map (fun k => leVal ((padTo 32 host).drop (4 * k) |>.take 4))
      descBad ws = true → Completes (.descriptorFetch i n host) s (fun t => (t.lane i).dmaSt n = 5 ∧
        (t.lane i).get (F.DMA_CH_HALT.CAUSE n) = 4 ∧ (t.lane i).get (F.DMA_CH_HALT.SIDE n) = 2)) ∧
    (∀ host, l.dmaSt n = 3 → Completes (.paused i n 0 host) s (fun t => (t.lane i).dmaSt n = 4 ∧ (t.lane i).dmaC n = c ∧
      ((t.lane i).rd (Reg.EV_PEND (dmaPage n))).getLsbD 3 = true)) ∧
    (∀ host side, l.dmaSt n = 1 → l.dmaSide n side false = true → Completes (.dmaTimeout i n 0 side host) s (fun t =>
      (t.lane i).dmaSt n = 5 ∧ (t.lane i).get (F.DMA_CH_HALT.CAUSE n) = 1 ∧ (t.lane i).get (F.DMA_CH_HALT.SIDE n) = side ∧
      (t.lane i).dmaC n = c ∧ ((t.lane i).rd (Reg.EV_PEND (dmaPage n))).getLsbD 2 = true)) ∧
    (∀ host side, l.dmaSt n = 1 → l.dmaSide n side true = true → Completes (.dmaCompletionError i n 0 side host) s (fun t =>
      (t.lane i).dmaSt n = 5 ∧ (t.lane i).get (F.DMA_CH_HALT.CAUSE n) = 2 ∧ (t.lane i).get (F.DMA_CH_HALT.SIDE n) = side ∧
      (t.lane i).dmaC n = c ∧ ((t.lane i).rd (Reg.EV_PEND (dmaPage n))).getLsbD 2 = true)) ∧
    (∀ w rest, l.dmaSt n = 2 → (l.fifo (dSrc c.act % 256)).words = w :: rest → (l.fifo (dSrc c.act % 256)).drops.2.1 = 0 →
      dDspace c.act = 1 → Completes (.dmaFifoData i n) s (fun t => (t.lane i).dmaSt n = 1 ∧
        ((t.lane i).dmaC n).moved = c.moved + 16 ∧ ((t.lane i).fifo (dSrc c.act % 256)).words = rest ∧
        (t.lane i).dma.posted = l.dma.posted ++
          [(dDst c.act + (if dDinc c.act then c.moved else 0), leBytes 4 w.hdr ++ leBytes 4 w.d1 ++ leBytes 4 w.d2 ++ leBytes 4 w.d3)]))

/-- The PCIe endpoint (R415, R433, R435): the link that comes up shows its width and speed and binds the endpoint to its seat; a binding
that ends clears BOUND, and each token of the seat goes back by an entry of the mirror set; D3hot and D0 show, and a function back in
D0 takes the interrupts that wait for it. -/
def Obligations.PcieCommandsComplete : Prop :=
  ∀ (i : LaneId) (s : State), s.live i →
    let l := s.lane i
    let q := l.get F.HOST_PCIE_CFG.SEAT
    (∀ width speed, width < 16 → speed < 8 → l.stage = 3 → l.flag F.HOST_PCIE_STAT.LINK = false → l.flag F.HOST_PCIE_STAT.BOUND = false →
      Completes (.pcieLinkUp i width speed) s (fun t => (t.lane i).get F.HOST_PCIE_STAT.LINK = 1 ∧ (t.lane i).get F.HOST_PCIE_STAT.WIDTH = width ∧
        (t.lane i).get F.HOST_PCIE_STAT.SPEED = speed ∧ (t.lane i).get F.HOST_PCIE_STAT.DSTATE = 0 ∧ (t.lane i).get F.HOST_PCIE_STAT.BOUND = 1 ∧
        (t.lane i).get (F.SEAT_STAT.BOUND q) = 1 ∧ ((t.lane i).rd (Reg.EV_PEND hostPage)).getLsbD 0 = true ∧
        ((t.lane i).rd (Reg.EV_PEND hostPage)).getLsbD 1 = true ∧ (t.lane i).car = l.car)) ∧
    (∀ cause, cause < 4 → l.flag F.HOST_PCIE_STAT.BOUND = true → (∀ n, n < 64 → l.dmaSt n = 0) →
      (l.tokensOf q = [] → l.pair.accepted = [] → Completes (.pcieBindingEnd i cause) s (fun t => (t.lane i).get F.HOST_PCIE_STAT.BOUND = 0 ∧
        (cause = 0 → (t.lane i).get F.HOST_PCIE_STAT.LINK = 0) ∧ (cause ≠ 0 → (t.lane i).get F.HOST_PCIE_STAT.BME = 0) ∧
        (t.lane i).get (F.SEAT_STAT.BOUND q) = b2n (l.sess q).isSome ∧ ((t.lane i).rd (Reg.EV_PEND hostPage)).getLsbD 1 = true ∧
        (t.lane i).pair.entries = l.pair.entries)) ∧
      (∀ k, l.tokensOf q = [k] → l.runs = true → Completes (.pcieBindingEnd i cause) s (fun t => (t.lane i).get F.HOST_PCIE_STAT.BOUND = 0 ∧
        (t.lane i).acc.tokens = l.acc.tokens ∧
        ∃ e, (t.lane i).pair.entries = l.pair.entries ++ [e] ∧ e.pay = .claim (word (2 ^ 31 + k)) ∧ e.seat = some q ∧ e.effect = l.cycN + 2))) ∧
    (l.flag F.HOST_PCIE_STAT.LINK = true → MakesLane (.dstateChg i 3) s i (l.set F.HOST_PCIE_STAT.DSTATE 3)) ∧
    (l.flag F.HOST_PCIE_STAT.LINK = true → l.flag (F.SEAT_STAT.BOUND q) = true → Completes (.dstateChg i 0) s (fun t => (t.lane i).get F.HOST_PCIE_STAT.DSTATE = 0 ∧
      (∀ w ∈ (t.lane i).irq.waits, w.target ≠ 0x10 + q) ∧ (t.lane i).irq.out.map (fun d => d.source) =
        l.irq.out.map (fun d => d.source) ++ (l.irq.waits.filter (fun w => w.target == 0x10 + q)).map Wait.source))

/-- HAP (R439–R444): a request that reads a register of the cycle block is answered with its word; one that comes again gets the
response held; one of another session is answered and touches nothing; one whose TAG fails is dropped and counted; one that meets a full
queue is counted. OPEN, CLOSE and KEEPALIVE enter the mirror set; a session idle for IDLE_S ends on both lanes. -/
def Obligations.HapCommandsComplete : Prop :=
  ∀ (i : LaneId) (ip port : Nat) (bs : List Nat) (d : Dgram) (s : State), (s.lane i).hapUp = true → bs.length ≤ 1472 → Dgram.parse bs = some d →
    let l := s.lane i
    let sent : State → List (Nat × Nat × List Nat) → Prop := fun t x => (t.lane i).host.tx = l.host.tx ++ x
    (∀ x, l.sess d.seat = some x → x.num = d.session →
      (∀ a, d.ty = 1 → d.holds x.key = true → d.flags % 2 = 0 → (l.hapL d.seat).held.find? (fun r => r.1 == d.seq) = none →
        (l.hapL d.seat).waits.any (fun w => w.seq == d.seq) = false → (l.hapL d.seat).hi.getD 0 < d.seq + 32 →
        parseOps d.nops d.body = some [⟨1, 2, 1, a, []⟩] → s.serves ⟨i, Fin.ofNat 8 d.seat, .hapNormal, d.seq⟩ a 4 false 0 →
        a < 0x1000000 → (blkOf (a / 0x1000)).map Blk.ty = some 0x10 → 0x40 ≤ a % 0x1000 → hiOf a = none → loOf a = none → l.acc.frozen = [] →
        (∀ e ∈ l.pair.entries, e.origin = i → e.oseq < l.pair.oseq) → Completes (.hapRequest i ip port false false bs) s (fun t =>
          sent t [(ip, port, hapBytes 0x02 0 d.seat 0 x.num d.seq 1 l.cycN
            (HapOp.bytes ⟨1, 2, 1, a, 0, leBytes 4 (l.rd a &&& readMask a).toNat⟩) x.key)] ∧
          (t.lane i).regs = l.regs ∧ (t.lane i).dram = l.dram ∧ (t.lane i).pair = l.pair ∧ t.lane i.other = s.lane i.other)) ∧
      (∀ pcp7 r, d.ty = 1 → d.holds x.key = true → (l.hapL d.seat).held.find? (fun y => y.1 == d.seq) = some r →
        Completes (.hapRequest i ip port pcp7 false bs) s (fun t => sent t [(ip, port, r.2)] ∧ (t.lane i).regs = l.regs ∧
          (t.lane i).pair = l.pair ∧ t.lane i.other = s.lane i.other)) ∧
      (∀ pcp7, d.ty = 1 → d.holds x.key = false → Completes (.hapRequest i ip port pcp7 false bs) s (fun t => sent t [] ∧
        (t.lane i).get F.HOST_HAP_COUNT.TAG_FAIL = min (l.get F.HOST_HAP_COUNT.TAG_FAIL + 1) 65535 ∧
        ((t.lane i).rd (Reg.EV_PEND hostPage)).getLsbD 3 = true ∧ (t.lane i).pair = l.pair)) ∧
      (∀ ty c pay, (ty, c, pay) = (0x12, Instr.hapClose i ip port bs, Payload.hapClose d.seat x.num) ∨
          (ty, c, pay) = (0x13, Instr.hapKeepalive i ip port bs, Payload.hapAlive d.seat x.num) → d.ty = ty → d.holds x.key = true → l.runs = true →
        Completes c s (fun t => (∃ e, (t.lane i).pair.entries = l.pair.entries ++ [e] ∧ e.pay = pay ∧ e.effect = l.cycN + 2 ∧
          e.seat = some d.seat) ∧ (t.lane i).car = l.car))) ∧
    (∀ pcp7, l.sess d.seat = none → Completes (.hapRequest i ip port pcp7 false bs) s (fun t =>
      (t.lane i).host.tx.length = l.host.tx.length + 1 ∧ (t.lane i).regs = l.regs ∧ (t.lane i).pair = l.pair ∧ t.lane i.other = s.lane i.other)) ∧
    (d.flags % 2 = 0 → Completes (.hapRequest i ip port false true bs) s (fun t =>
      (t.lane i).get F.HOST_HAP_COUNT.DROPPED = min (l.get F.HOST_HAP_COUNT.DROPPED + 1) 65535 ∧
      ((t.lane i).rd (Reg.EV_PEND hostPage)).getLsbD 4 = true ∧ (t.lane i).host.tx.length = l.host.tx.length + 1 ∧ (t.lane i).pair = l.pair)) ∧
    (∀ key, l.seatKey d.seat = some key → d.ty = 0x10 → d.holds key = true → d.body.length = 16 → l.runs = true →
      Completes (.hapOpen i ip port bs) s (fun t => (t.lane i).car = l.car ∧ (t.lane i).host.opens = l.host.opens ++ [⟨d.seat, d.body, ip, port, d.seq⟩] ∧
        ∃ e, (t.lane i).pair.entries = l.pair.entries ++ [e] ∧ e.pay = .hapOpen d.seat d.body ∧ e.effect = l.cycN + 2)) ∧
    (∀ q, q < 8 → (∀ j, s.live j ∧ ∃ x, (s.lane j).sess q = some x ∧
        (s.lane j).get F.HOST_HAP_CFG.IDLE_S * 1000000000 ≤ ((s.lane j).cycN - x.last) * (s.lane j).period) →
      Completes (.sessionIdle q) s (fun t => ∀ j, (t.lane j).sess q = none ∧ ((t.lane j).rd (Reg.EV_PEND hostPage)).getLsbD 1 = true ∧
        (t.lane j).get (F.HOST_HAP_SESS.ACTIVE q) = 0))

/-- The halt input (R380, R446), the security commands (R449, R450), the tool ring (R447), frames that are no HAP (R438) and the peer
delay (R55). -/
def Obligations.HostInputsComplete : Prop :=
  ∀ (i : LaneId) (s : State), s.live i → 1 ≤ (s.lane i).stage →
    let l := s.lane i
    Completes (.haltReq i) s (fun t => t = s.setLane i (l.set F.HOST_HALT.PIN 1)) ∧
    Completes (.haltRelease i) s (fun t => t = s.setLane i (l.set F.HOST_HALT.PIN 0)) ∧
    (∀ (acc : Acc) (data : Word), acc.lane = i →
      (bits data 1 1 = 0 → s.serves acc Reg.HOST_SEC_CTRL 4 true (withBits data 0 0 1).toNat →
        (acc.seat.val = 0 → l.get F.HOST_SEC_STAT.FUSED < l.get F.HOST_SEC_STAT.RUNNING → Completes (.commitSvn acc data) s (fun t =>
          (t.lane i).get F.HOST_SEC_STAT.FUSED = l.get F.HOST_SEC_STAT.RUNNING ∧ (t.lane i).host = l.host)) ∧
        (acc.seat.val ≠ 0 → Completes (.commitSvn acc data) s (fun t => (t.lane i).get F.HOST_SEC_STAT.FUSED = l.get F.HOST_SEC_STAT.FUSED ∧
          ((t.lane i).rd (Reg.EV_PEND hostPage)).getLsbD 6 = true ∧
          (l.get (F.ERR_CODE.CODE hostPage) = 0 → (t.lane i).get (F.ERR_CODE.CODE hostPage) = 0x43)))) ∧
      (∀ h good, bits data 0 0 = 0 → s.serves acc Reg.HOST_SEC_CTRL 4 true (withBits data 1 1 1).toNat → l.host.keyHash.isSome = true →
        Completes (.keyChg acc data (some (h, good))) s (fun t =>
          (good = true → (t.lane i).host.keyHash = some h ∧ (t.lane i).get F.HOST_SEC_STAT.KEY = 1) ∧
          (good = false → (t.lane i).host.keyHash = l.host.keyHash ∧ ((t.lane i).rd (Reg.EV_PEND hostPage)).getLsbD 6 = true ∧
            (l.get (F.ERR_CODE.CODE hostPage) = 0 → (t.lane i).get (F.ERR_CODE.CODE hostPage) = 0x42))))) ∧
    (∀ cross src seq toModule toOthers, l.flag (if cross then F.HOST_TR_STAT.XHOP else F.HOST_TR_STAT.LINK) = true →
      ((∃ t0, (src, seq, t0) ∈ l.host.dups ∧ s.now < t0 + dupAge) → ∀ sv, Completes (.toolRingFrame i cross src seq toModule toOthers sv) s (fun t =>
        t = s.setLane i (l.cnt F.HOST_TR_DUP.COUNT 1))) ∧
      ((∀ j, ∀ x ∈ (s.lane j).host.dups, x.1 ≠ src ∨ x.2.1 ≠ seq) → Completes (.toolRingFrame i cross src seq toModule toOthers false) s (fun t =>
        (t.lane i).host.dups = l.host.dups ++ [(src, seq, s.now)] ∧ (t.lane i).regs = l.regs ∧ t.lane i.other = s.lane i.other ∧
        (t.lane i).host.sent = l.host.sent ++ (if toOthers || !toModule then [(if cross then 0 else 1, src, seq)] else []) ∧
        (t.lane i).host.resid = l.host.resid ++ (if toOthers || !toModule then [(src, seq, Config.residence l.num src seq)] else [])))) ∧
    (s.base.primacy = some i → Completes .hsrSupervision s (fun t => (t.lane i).host.seq = l.host.seq + 1 ∧ (t.lane i).regs = l.regs ∧
      (t.lane i).host.sent = l.host.sent ++ [(0, 0, 2 * l.host.seq + i.num), (1, 0, 2 * l.host.seq + i.num)] ∧ t.lane i.other = s.lane i.other)) ∧
    (∀ src seq t0, l.host.dups = [(src, seq, t0)] → l.host.nodes = [] → s.now = t0 + dupAge → MakesLane (.hsrEntryExpiry i) s i
      (Lane.set { l with host := { l.host with dups := [] } } F.HOST_TR_STAT.NODES 0)) ∧
    (∀ port kind, kind < 2 → MakesLane (.arpRequest i port kind) s i { l with host := { l.host with answered := l.host.answered ++ [(port, kind)] } }) ∧
    (∀ port kind, 2 ≤ kind → MakesLane (.arpRequest i port kind) s i l) ∧
    (∀ b d b', Completes (.peerDelay i b d b') s (fun t => t.now = s.now + d ∧
      (∃ t3, (t.lane i).time.peer = some ((fineStamp l.time.acc l.incr b).1 * 256 + (fineStamp l.time.acc l.incr b).2, t3)) ∧
      t.lane i.other = (s.pass d).lane i.other ∧ t.base = s.base)) ∧
    (∀ up, Completes (.trLink i false up) s (fun t => (t.lane i).get F.HOST_TR_STAT.LINK = b2n up ∧
      ((t.lane i).rd (Reg.EV_PEND hostPage)).getLsbD 5 = true ∧ (t.lane i.other).regs = (s.lane i.other).regs ∧ t.base = s.base))

/-- The memory-integrity commands (R429–R432): the scrubber passes over a good codeword, corrects one in error in up to 4
bytes and reports a larger error; a read meets an uncorrectable codeword; an on-die memory corrects or reports. -/
def Obligations.MemoryIntegrityCommandsComplete : Prop :=
  ∀ (i : LaneId) (s : State), s.live i →
    (s.works i memiPage → 1 ≤ (s.lane i).stage → (s.lane i).wrong (s.lane i).memi.ptr = 0 → (s.lane i).memi.ptr + 1 < dramWords →
      ∀ near, MakesLane (.scrub i 0 near) s i
        (Lane.set { s.lane i with memi := { (s.lane i).memi with ptr := (s.lane i).memi.ptr + 1 } } F.MEMI_SCRUB.PROGRESS
          (((s.lane i).memi.ptr + 1) * 1000 / dramWords))) ∧
    (s.works i memiPage → 1 ≤ (s.lane i).stage → (s.lane i).memi.ptr + 1 < dramWords → (s.lane i).memi.bad = [] →
      (s.lane i).memi.ptr ∉ (s.lane i).memi.before → (s.lane i).flag F.MEMI_LAST.VALID = true →
      ∀ mask near, mask < 2 ^ 72 → mask ≠ 0 → popcount 72 mask ≤ 4 → MakesLane (.scrub i mask near) s i
        (((Lane.cnt { s.lane i with
            memi := { (s.lane i).memi with ptr := (s.lane i).memi.ptr + 1, during := (s.lane i).memi.during ++ [(s.lane i).memi.ptr] } }
          F.MEMI_CORR.COUNT 1).ev memiPage 0).set F.MEMI_SCRUB.PROGRESS (((s.lane i).memi.ptr + 1) * 1000 / dramWords))) ∧
    (∀ k mask q, k < dramWords → regionOf k ≠ 0 → (s.lane i).memi.bad = [] → mask < 2 ^ 72 → 4 < popcount 72 mask → q < 8 →
      MakesLane (.uncorrectableRead i (.dram k mask none) (.seat q)) s i
        ((((Lane.cnt { s.lane i with memi := { (s.lane i).memi with bad := [(k, mask)] } } F.MEMI_UNCORR.COUNT 1).ev memiPage 1).errAt
          memiPage 0x01 q (8 * k) true).logEv memiPage 1 0 1)) ∧
    (∀ page, MakesLane (.onDieScrub i page false 1) s i (((s.lane i).cnt F.MEMI_DIE_CORR.SECDED 1).ev memiPage 0)) ∧
    (∀ page n, 4 < n → MakesLane (.onDieScrub i page true n) s i
      (((((s.lane i).ev memiPage 1).err memiPage 0x01 0x1B 0).logEv memiPage 1 0 1).err page 0x01 0x1B 0))

end
end

