-- ==== Sys2Proof/Laws/Sparse.lean ====
section
/-! SUPPORT. Sparse maps: what a write makes of every place, and that the canonical form is kept. -/

namespace Sys2Proof.Machine

variable {α : Type}

theorem Sparse.find_ins_same (d : Nat → α) (m : List (Nat × α)) (a : Nat) (v : α) (h : ∀ c ∈ m, c.1 ≠ a) :
    Sparse.find d (Sparse.ins m a v) a = v := by
  induction m with
  | nil => simp [Sparse.ins, Sparse.find]
  | cons c t ih =>
    obtain ⟨k, w⟩ := c
    have hk : k ≠ a := h (k, w) List.mem_cons_self
    unfold Sparse.ins
    split
    · simp [Sparse.find]
    · simp [Sparse.find, hk, ih (fun c hc => h c (List.mem_cons_of_mem _ hc))]

theorem Sparse.find_ins_ne (d : Nat → α) (m : List (Nat × α)) (a b : Nat) (v : α) (h : a ≠ b) :
    Sparse.find d (Sparse.ins m a v) b = Sparse.find d m b := by
  induction m with
  | nil => simp [Sparse.ins, Sparse.find, h]
  | cons c t ih =>
    obtain ⟨k, w⟩ := c
    unfold Sparse.ins
    split
    · simp [Sparse.find, h]
    · simp [Sparse.find, ih]

theorem Sparse.find_filter_same (d : Nat → α) (m : List (Nat × α)) (a : Nat) :
    Sparse.find d (m.filter (fun c => decide (c.1 ≠ a))) a = d a := by
  induction m with
  | nil => rfl
  | cons c t ih =>
    obtain ⟨k, w⟩ := c
    by_cases hk : k = a
    · simpa [List.filter_cons, hk] using ih
    · simpa [List.filter_cons, hk, Sparse.find] using ih

theorem Sparse.find_filter_ne (d : Nat → α) (m : List (Nat × α)) (a b : Nat) (h : a ≠ b) :
    Sparse.find d (m.filter (fun c => decide (c.1 ≠ a))) b = Sparse.find d m b := by
  induction m with
  | nil => rfl
  | cons c t ih =>
    obtain ⟨k, w⟩ := c
    by_cases hk : k = a
    · have hb : k ≠ b := hk ▸ h
      simpa [List.filter_cons, hk, Sparse.find, h] using ih
    · simp only [List.filter_cons, hk, ne_eq, not_false_eq_true, decide_true, ite_true, Sparse.find]
      split
      · rfl
      · simpa using ih

/-- A read after a write to the same place gives the value written. -/
theorem Sparse.find_put_same [DecidableEq α] (d : Nat → α) (m : List (Nat × α)) (a : Nat) (v : α) :
    Sparse.find d (Sparse.put d m a v) a = v := by
  unfold Sparse.put
  split
  · rename_i h
    rw [Sparse.find_filter_same, h]
  · apply Sparse.find_ins_same
    intro c hc
    simpa using (List.mem_filter.mp hc).2

/-- A write leaves every other place alone. -/
theorem Sparse.find_put_ne [DecidableEq α] (d : Nat → α) (m : List (Nat × α)) (a b : Nat) (v : α) (h : a ≠ b) :
    Sparse.find d (Sparse.put d m a v) b = Sparse.find d m b := by
  unfold Sparse.put
  split
  · exact Sparse.find_filter_ne d m a b h
  · rw [Sparse.find_ins_ne d _ a b v h, Sparse.find_filter_ne d m a b h]

theorem Sparse.mem_ins (m : List (Nat × α)) (a : Nat) (v : α) (c : Nat × α) (h : c ∈ Sparse.ins m a v) : c = (a, v) ∨ c ∈ m := by
  induction m with
  | nil => simpa [Sparse.ins] using h
  | cons x t ih =>
    obtain ⟨k, w⟩ := x
    unfold Sparse.ins at h
    split at h
    · simpa using h
    · rcases List.mem_cons.mp h with h | h
      · exact .inr (by simp [h])
      · rcases ih h with h | h
        · exact .inl h
        · exact .inr (List.mem_cons_of_mem _ h)

theorem Sparse.ins_sorted (m : List (Nat × α)) (a : Nat) (v : α) (h : m.Pairwise (fun x y => x.1 < y.1)) (hn : ∀ c ∈ m, c.1 ≠ a) :
    (Sparse.ins m a v).Pairwise (fun x y => x.1 < y.1) := by
  induction m with
  | nil => simp [Sparse.ins]
  | cons c t ih =>
    obtain ⟨k, w⟩ := c
    have ht := List.pairwise_cons.mp h
    unfold Sparse.ins
    split
    · rename_i hak
      refine List.pairwise_cons.mpr ⟨?_, h⟩
      intro y hy
      rcases List.mem_cons.mp hy with rfl | hy
      · exact hak
      · exact Nat.lt_trans hak (ht.1 y hy)
    · rename_i hak
      have hka : k < a := by
        have := hn (k, w) List.mem_cons_self
        simp at this
        omega
      refine List.pairwise_cons.mpr ⟨?_, ih ht.2 (fun c hc => hn c (List.mem_cons_of_mem _ hc))⟩
      intro y hy
      rcases Sparse.mem_ins t a v y hy with rfl | hy
      · exact hka
      · exact ht.1 y hy

/-- A write keeps the canonical form. -/
theorem Sparse.put_wf [DecidableEq α] (d : Nat → α) (m : List (Nat × α)) (a : Nat) (v : α) (h : Sparse.wf d m) :
    Sparse.wf d (Sparse.put d m a v) := by
  have hs : (m.filter (fun c => decide (c.1 ≠ a))).Pairwise (fun x y => x.1 < y.1) := h.1.filter _
  have hn : ∀ c ∈ m.filter (fun c => decide (c.1 ≠ a)), c.1 ≠ a := fun c hc => by simpa using (List.mem_filter.mp hc).2
  have hv : ∀ c ∈ m.filter (fun c => decide (c.1 ≠ a)), c.2 ≠ d c.1 := fun c hc => h.2 c (List.mem_filter.mp hc).1
  unfold Sparse.put
  split
  · exact ⟨hs, hv⟩
  · rename_i hne
    refine ⟨Sparse.ins_sorted _ a v hs hn, ?_⟩
    intro c hc
    rcases Sparse.mem_ins _ a v c hc with rfl | hc
    · exact hne
    · exact hv c hc

theorem Sparse.nil_wf [DecidableEq α] (d : Nat → α) : Sparse.wf d [] := ⟨List.Pairwise.nil, by simp⟩

/-- Equal maps are equal data: two maps in canonical form that read alike are the same list. -/
theorem Sparse.ext_wf [DecidableEq α] (d : Nat → α) (m n : List (Nat × α)) (hm : Sparse.wf d m) (hn : Sparse.wf d n)
    (h : ∀ a, Sparse.find d m a = Sparse.find d n a) : m = n := by
  induction m generalizing n with
  | nil =>
    cases n with
    | nil => rfl
    | cons c t =>
      have := h c.1
      have hc := hn.2 c List.mem_cons_self
      simp [Sparse.find] at this
      exact absurd this.symm hc
  | cons c t ih =>
    have low : ∀ (x : Nat × α) (s : List (Nat × α)), (x :: s).Pairwise (fun x y => x.1 < y.1) → ∀ b, b < x.1 → Sparse.find d (x :: s) b = d b := by
      intro x s
      induction s generalizing x with
      | nil => intro _ b hb; simp [Sparse.find, Nat.ne_of_gt hb]
      | cons y s ihs =>
        intro hp b hb
        have hp' := List.pairwise_cons.mp hp
        have hxy := hp'.1 y List.mem_cons_self
        rw [Sparse.find, if_neg (Nat.ne_of_gt hb)]
        exact ihs y hp'.2 b (Nat.lt_trans hb hxy)
    cases n with
    | nil =>
      have := h c.1
      have hc := hm.2 c List.mem_cons_self
      simp [Sparse.find] at this
      exact absurd this hc
    | cons e u =>
      have hc := hm.2 c List.mem_cons_self
      have he := hn.2 e List.mem_cons_self
      have h1 := h c.1
      have h2 := h e.1
      have hk : c.1 = e.1 := by
        rcases Nat.lt_trichotomy c.1 e.1 with hlt | heq | hgt
        · rw [low e u hn.1 c.1 hlt] at h1
          simp [Sparse.find] at h1
          exact absurd h1 hc
        · exact heq
        · rw [low c t hm.1 e.1 hgt] at h2
          simp [Sparse.find] at h2
          exact absurd h2.symm he
      have hv : c.2 = e.2 := by simpa [Sparse.find, hk] using h1
      have hce : c = e := Prod.ext hk hv
      subst hce
      congr 1
      have hm' := List.pairwise_cons.mp hm.1
      have hn' := List.pairwise_cons.mp hn.1
      refine ih u ⟨hm'.2, fun x hx => hm.2 x (List.mem_cons_of_mem _ hx)⟩ ⟨hn'.2, fun x hx => hn.2 x (List.mem_cons_of_mem _ hx)⟩ ?_
      intro a
      by_cases ha : a = c.1
      · subst ha
        have out : ∀ (s : List (Nat × α)), (∀ x ∈ s, c.1 < x.1) → Sparse.find d s c.1 = d c.1 := by
          intro s hs
          induction s with
          | nil => rfl
          | cons x s ihs =>
            rw [Sparse.find, if_neg (Nat.ne_of_gt (hs x List.mem_cons_self))]
            exact ihs (fun y hy => hs y (List.mem_cons_of_mem _ hy))
        rw [out t hm'.1, out u hn'.1]
      · have := h a
        rw [Sparse.find, Sparse.find, if_neg (Ne.symm ha), if_neg (Ne.symm ha)] at this
        exact this

theorem putBytes_wf (m : List Host.Cell) (a n v : Nat) (h : Sparse.wf byte0 m) : Sparse.wf byte0 (putBytes m a n v) := by
  induction n generalizing m a v with
  | zero => exact h
  | succ n ih => exact ih _ _ _ (Sparse.put_wf byte0 m a _ h)

theorem putList_wf (m : List Host.Cell) (a : Nat) (bs : List Nat) (h : Sparse.wf byte0 m) : Sparse.wf byte0 (putList m a bs) := by
  induction bs generalizing m a with
  | nil => exact h
  | cons b t ih => exact ih _ _ (Sparse.put_wf byte0 m a _ h)

/-- A store of bytes leaves every byte outside it alone. -/
theorem find_putList_out (m : List Host.Cell) (a : Nat) (bs : List Nat) (x : Nat) (h : x < a ∨ a + bs.length ≤ x) :
    Sparse.find byte0 (putList m a bs) x = Sparse.find byte0 m x := by
  induction bs generalizing m a with
  | nil => rfl
  | cons b t ih =>
    simp only [List.length_cons] at h
    rw [putList, ih _ _ (by omega), Sparse.find_put_ne _ _ _ _ _ (by omega)]

/-- A store of bytes puts each where it belongs. -/
theorem find_putList_in (m : List Host.Cell) (a : Nat) (bs : List Nat) (k : Nat) (h : k < bs.length) :
    Sparse.find byte0 (putList m a bs) (a + k) = BitVec.ofNat 8 bs[k] := by
  induction bs generalizing m a k with
  | nil => exact absurd h (by simp)
  | cons b t ih =>
    cases k with
    | zero => rw [putList, find_putList_out _ _ _ _ (by omega)]; simpa using Sparse.find_put_same byte0 m a _
    | succ k =>
      have := ih (Sparse.put byte0 m a (BitVec.ofNat 8 b)) (a + 1) k (by simpa using h)
      rw [putList]
      simpa [Nat.add_assoc, Nat.add_comm 1 k] using this

theorem find_putBytes_out (m : List Host.Cell) (a n v x : Nat) (h : x < a ∨ a + n ≤ x) :
    Sparse.find byte0 (putBytes m a n v) x = Sparse.find byte0 m x := by
  induction n generalizing m a v with
  | zero => rfl
  | succ n ih => rw [putBytes, ih _ _ _ (by omega), Sparse.find_put_ne _ _ _ _ _ (by omega)]

end Sys2Proof.Machine
end

