-- ==== Sys2Proof/Laws/State.lean ====
section
/-! SUPPORT. What the plain updates of a lane and of the module leave alone, field by field. The parentheses in (rfl) keep a
proof that cites many of them a chain of rewrites, which the kernel checks one at a time. -/

namespace Sys2Proof.Machine

@[simp] theorem Lane.logAt_regs (l : Lane) (n t i c : Nat) (d : List (Nat × Nat)) : (l.logAt n t i c d).regs = l.regs := by unfold Lane.logAt; dsimp only; split <;> rfl
@[simp] theorem Lane.log1_regs (l : Lane) (t i c : Nat) (d : List (Nat × Nat)) : (l.log1 t i c d).regs = l.regs := by rw [Lane.log1, Lane.logAt_regs]
@[simp] theorem Lane.logEv_regs (l : Lane) (p b o r : Nat) : (l.logEv p b o r).regs = l.regs := by rw [Lane.logEv, Lane.log1_regs]
@[simp] theorem Lane.putWin_regs (l : Lane) (a : Nat) (w : Word) : (l.putWin a w).regs = l.regs := (rfl)
@[simp] theorem Lane.putImg_regs (l : Lane) (o n v : Nat) : (l.putImg o n v).regs = l.regs := (rfl)
@[simp] theorem Lane.putDram_regs (l : Lane) (o n v : Nat) : (l.putDram o n v).regs = l.regs := (rfl)
@[simp] theorem Lane.wr_car (l : Lane) (a : Nat) (w : Word) : (l.wr a w).car = l.car := (rfl)
@[simp] theorem Lane.set_car (l : Lane) (f : Fld) (v : Nat) : (l.set f v).car = l.car := (rfl)
@[simp] theorem Lane.setB_car (l : Lane) (f : Fld) (b : Bool) : (l.setB f b).car = l.car := (rfl)
@[simp] theorem Lane.cnt_car (l : Lane) (f : Fld) (n : Nat) : (l.cnt f n).car = l.car := (rfl)
@[simp] theorem Lane.inc_car (l : Lane) (a n : Nat) : (l.inc a n).car = l.car := (rfl)
@[simp] theorem Lane.set64_car (l : Lane) (a b v : Nat) : (l.set64 a b v).car = l.car := (rfl)
@[simp] theorem Lane.ev_car (l : Lane) (p b : Nat) : (l.ev p b).car = l.car := (rfl)
@[simp] theorem Lane.errAt_car (l : Lane) (p c s a : Nat) (d : Bool) : (l.errAt p c s a d).car = l.car := by unfold Lane.errAt; dsimp only; split <;> simp only [Lane.ev_car, Lane.wr_car, Lane.setB_car, Lane.set_car]
@[simp] theorem Lane.err_car (l : Lane) (p c s a : Nat) : (l.err p c s a).car = l.car := by rw [Lane.err, Lane.errAt_car]
@[simp] theorem Lane.logAt_car (l : Lane) (n t i c : Nat) (d : List (Nat × Nat)) : (l.logAt n t i c d).car = l.car := by unfold Lane.logAt; dsimp only; split <;> rfl
@[simp] theorem Lane.log1_car (l : Lane) (t i c : Nat) (d : List (Nat × Nat)) : (l.log1 t i c d).car = l.car := by rw [Lane.log1, Lane.logAt_car]
@[simp] theorem Lane.logEv_car (l : Lane) (p b o r : Nat) : (l.logEv p b o r).car = l.car := by rw [Lane.logEv, Lane.log1_car]
@[simp] theorem Lane.putDram_car (l : Lane) (o n v : Nat) : (l.putDram o n v).car = l.car := (rfl)
@[simp] theorem Lane.wr_dram (l : Lane) (a : Nat) (w : Word) : (l.wr a w).dram = l.dram := (rfl)
@[simp] theorem Lane.set_dram (l : Lane) (f : Fld) (v : Nat) : (l.set f v).dram = l.dram := (rfl)
@[simp] theorem Lane.setB_dram (l : Lane) (f : Fld) (b : Bool) : (l.setB f b).dram = l.dram := (rfl)
@[simp] theorem Lane.cnt_dram (l : Lane) (f : Fld) (n : Nat) : (l.cnt f n).dram = l.dram := (rfl)
@[simp] theorem Lane.inc_dram (l : Lane) (a n : Nat) : (l.inc a n).dram = l.dram := (rfl)
@[simp] theorem Lane.set64_dram (l : Lane) (a b v : Nat) : (l.set64 a b v).dram = l.dram := (rfl)
@[simp] theorem Lane.ev_dram (l : Lane) (p b : Nat) : (l.ev p b).dram = l.dram := (rfl)
@[simp] theorem Lane.errAt_dram (l : Lane) (p c s a : Nat) (d : Bool) : (l.errAt p c s a d).dram = l.dram := by unfold Lane.errAt; dsimp only; split <;> simp only [Lane.ev_dram, Lane.wr_dram, Lane.setB_dram, Lane.set_dram]
@[simp] theorem Lane.err_dram (l : Lane) (p c s a : Nat) : (l.err p c s a).dram = l.dram := by rw [Lane.err, Lane.errAt_dram]
@[simp] theorem Lane.logAt_dram (l : Lane) (n t i c : Nat) (d : List (Nat × Nat)) : (l.logAt n t i c d).dram = l.dram := by unfold Lane.logAt; dsimp only; split <;> rfl
@[simp] theorem Lane.log1_dram (l : Lane) (t i c : Nat) (d : List (Nat × Nat)) : (l.log1 t i c d).dram = l.dram := by rw [Lane.log1, Lane.logAt_dram]
@[simp] theorem Lane.logEv_dram (l : Lane) (p b o r : Nat) : (l.logEv p b o r).dram = l.dram := by rw [Lane.logEv, Lane.log1_dram]
@[simp] theorem Lane.putWin_dram (l : Lane) (a : Nat) (w : Word) : (l.putWin a w).dram = l.dram := (rfl)
@[simp] theorem Lane.putImg_dram (l : Lane) (o n v : Nat) : (l.putImg o n v).dram = l.dram := (rfl)
@[simp] theorem Lane.wr_acc (l : Lane) (a : Nat) (w : Word) : (l.wr a w).acc = l.acc := (rfl)
@[simp] theorem Lane.set_acc (l : Lane) (f : Fld) (v : Nat) : (l.set f v).acc = l.acc := (rfl)
@[simp] theorem Lane.setB_acc (l : Lane) (f : Fld) (b : Bool) : (l.setB f b).acc = l.acc := (rfl)
@[simp] theorem Lane.cnt_acc (l : Lane) (f : Fld) (n : Nat) : (l.cnt f n).acc = l.acc := (rfl)
@[simp] theorem Lane.inc_acc (l : Lane) (a n : Nat) : (l.inc a n).acc = l.acc := (rfl)
@[simp] theorem Lane.set64_acc (l : Lane) (a b v : Nat) : (l.set64 a b v).acc = l.acc := (rfl)
@[simp] theorem Lane.ev_acc (l : Lane) (p b : Nat) : (l.ev p b).acc = l.acc := (rfl)
@[simp] theorem Lane.errAt_acc (l : Lane) (p c s a : Nat) (d : Bool) : (l.errAt p c s a d).acc = l.acc := by unfold Lane.errAt; dsimp only; split <;> simp only [Lane.ev_acc, Lane.wr_acc, Lane.setB_acc, Lane.set_acc]
@[simp] theorem Lane.err_acc (l : Lane) (p c s a : Nat) : (l.err p c s a).acc = l.acc := by rw [Lane.err, Lane.errAt_acc]
@[simp] theorem Lane.logAt_acc (l : Lane) (n t i c : Nat) (d : List (Nat × Nat)) : (l.logAt n t i c d).acc = l.acc := by unfold Lane.logAt; dsimp only; split <;> rfl
@[simp] theorem Lane.log1_acc (l : Lane) (t i c : Nat) (d : List (Nat × Nat)) : (l.log1 t i c d).acc = l.acc := by rw [Lane.log1, Lane.logAt_acc]
@[simp] theorem Lane.logEv_acc (l : Lane) (p b o r : Nat) : (l.logEv p b o r).acc = l.acc := by rw [Lane.logEv, Lane.log1_acc]
@[simp] theorem Lane.putWin_acc (l : Lane) (a : Nat) (w : Word) : (l.putWin a w).acc = l.acc := (rfl)
@[simp] theorem Lane.putImg_acc (l : Lane) (o n v : Nat) : (l.putImg o n v).acc = l.acc := (rfl)
@[simp] theorem Lane.putDram_acc (l : Lane) (o n v : Nat) : (l.putDram o n v).acc = l.acc := (rfl)
@[simp] theorem Lane.wr_time (l : Lane) (a : Nat) (w : Word) : (l.wr a w).time = l.time := (rfl)
@[simp] theorem Lane.set_time (l : Lane) (f : Fld) (v : Nat) : (l.set f v).time = l.time := (rfl)
@[simp] theorem Lane.setB_time (l : Lane) (f : Fld) (b : Bool) : (l.setB f b).time = l.time := (rfl)
@[simp] theorem Lane.cnt_time (l : Lane) (f : Fld) (n : Nat) : (l.cnt f n).time = l.time := (rfl)
@[simp] theorem Lane.inc_time (l : Lane) (a n : Nat) : (l.inc a n).time = l.time := (rfl)
@[simp] theorem Lane.set64_time (l : Lane) (a b v : Nat) : (l.set64 a b v).time = l.time := (rfl)
@[simp] theorem Lane.ev_time (l : Lane) (p b : Nat) : (l.ev p b).time = l.time := (rfl)
@[simp] theorem Lane.errAt_time (l : Lane) (p c s a : Nat) (d : Bool) : (l.errAt p c s a d).time = l.time := by unfold Lane.errAt; dsimp only; split <;> simp only [Lane.ev_time, Lane.wr_time, Lane.setB_time, Lane.set_time]
@[simp] theorem Lane.err_time (l : Lane) (p c s a : Nat) : (l.err p c s a).time = l.time := by rw [Lane.err, Lane.errAt_time]
@[simp] theorem Lane.logAt_time (l : Lane) (n t i c : Nat) (d : List (Nat × Nat)) : (l.logAt n t i c d).time = l.time := by unfold Lane.logAt; dsimp only; split <;> rfl
@[simp] theorem Lane.log1_time (l : Lane) (t i c : Nat) (d : List (Nat × Nat)) : (l.log1 t i c d).time = l.time := by rw [Lane.log1, Lane.logAt_time]
@[simp] theorem Lane.logEv_time (l : Lane) (p b o r : Nat) : (l.logEv p b o r).time = l.time := by rw [Lane.logEv, Lane.log1_time]
@[simp] theorem Lane.putWin_time (l : Lane) (a : Nat) (w : Word) : (l.putWin a w).time = l.time := (rfl)
@[simp] theorem Lane.putImg_time (l : Lane) (o n v : Nat) : (l.putImg o n v).time = l.time := (rfl)
@[simp] theorem Lane.putDram_time (l : Lane) (o n v : Nat) : (l.putDram o n v).time = l.time := (rfl)
@[simp] theorem Lane.wr_sup (l : Lane) (a : Nat) (w : Word) : (l.wr a w).sup = l.sup := (rfl)
@[simp] theorem Lane.set_sup (l : Lane) (f : Fld) (v : Nat) : (l.set f v).sup = l.sup := (rfl)
@[simp] theorem Lane.setB_sup (l : Lane) (f : Fld) (b : Bool) : (l.setB f b).sup = l.sup := (rfl)
@[simp] theorem Lane.cnt_sup (l : Lane) (f : Fld) (n : Nat) : (l.cnt f n).sup = l.sup := (rfl)
@[simp] theorem Lane.inc_sup (l : Lane) (a n : Nat) : (l.inc a n).sup = l.sup := (rfl)
@[simp] theorem Lane.set64_sup (l : Lane) (a b v : Nat) : (l.set64 a b v).sup = l.sup := (rfl)
@[simp] theorem Lane.ev_sup (l : Lane) (p b : Nat) : (l.ev p b).sup = l.sup := (rfl)
@[simp] theorem Lane.errAt_sup (l : Lane) (p c s a : Nat) (d : Bool) : (l.errAt p c s a d).sup = l.sup := by unfold Lane.errAt; dsimp only; split <;> simp only [Lane.ev_sup, Lane.wr_sup, Lane.setB_sup, Lane.set_sup]
@[simp] theorem Lane.err_sup (l : Lane) (p c s a : Nat) : (l.err p c s a).sup = l.sup := by rw [Lane.err, Lane.errAt_sup]
@[simp] theorem Lane.logAt_sup (l : Lane) (n t i c : Nat) (d : List (Nat × Nat)) : (l.logAt n t i c d).sup = l.sup := by unfold Lane.logAt; dsimp only; split <;> rfl
@[simp] theorem Lane.log1_sup (l : Lane) (t i c : Nat) (d : List (Nat × Nat)) : (l.log1 t i c d).sup = l.sup := by rw [Lane.log1, Lane.logAt_sup]
@[simp] theorem Lane.logEv_sup (l : Lane) (p b o r : Nat) : (l.logEv p b o r).sup = l.sup := by rw [Lane.logEv, Lane.log1_sup]
@[simp] theorem Lane.putWin_sup (l : Lane) (a : Nat) (w : Word) : (l.putWin a w).sup = l.sup := (rfl)
@[simp] theorem Lane.putImg_sup (l : Lane) (o n v : Nat) : (l.putImg o n v).sup = l.sup := (rfl)
@[simp] theorem Lane.putDram_sup (l : Lane) (o n v : Nat) : (l.putDram o n v).sup = l.sup := (rfl)
@[simp] theorem Lane.wr_start (l : Lane) (a : Nat) (w : Word) : (l.wr a w).start = l.start := (rfl)
@[simp] theorem Lane.set_start (l : Lane) (f : Fld) (v : Nat) : (l.set f v).start = l.start := (rfl)
@[simp] theorem Lane.setB_start (l : Lane) (f : Fld) (b : Bool) : (l.setB f b).start = l.start := (rfl)
@[simp] theorem Lane.cnt_start (l : Lane) (f : Fld) (n : Nat) : (l.cnt f n).start = l.start := (rfl)
@[simp] theorem Lane.inc_start (l : Lane) (a n : Nat) : (l.inc a n).start = l.start := (rfl)
@[simp] theorem Lane.set64_start (l : Lane) (a b v : Nat) : (l.set64 a b v).start = l.start := (rfl)
@[simp] theorem Lane.ev_start (l : Lane) (p b : Nat) : (l.ev p b).start = l.start := (rfl)
@[simp] theorem Lane.errAt_start (l : Lane) (p c s a : Nat) (d : Bool) : (l.errAt p c s a d).start = l.start := by unfold Lane.errAt; dsimp only; split <;> simp only [Lane.ev_start, Lane.wr_start, Lane.setB_start, Lane.set_start]
@[simp] theorem Lane.err_start (l : Lane) (p c s a : Nat) : (l.err p c s a).start = l.start := by rw [Lane.err, Lane.errAt_start]
@[simp] theorem Lane.logAt_start (l : Lane) (n t i c : Nat) (d : List (Nat × Nat)) : (l.logAt n t i c d).start = l.start := by unfold Lane.logAt; dsimp only; split <;> rfl
@[simp] theorem Lane.log1_start (l : Lane) (t i c : Nat) (d : List (Nat × Nat)) : (l.log1 t i c d).start = l.start := by rw [Lane.log1, Lane.logAt_start]
@[simp] theorem Lane.logEv_start (l : Lane) (p b o r : Nat) : (l.logEv p b o r).start = l.start := by rw [Lane.logEv, Lane.log1_start]
@[simp] theorem Lane.putWin_start (l : Lane) (a : Nat) (w : Word) : (l.putWin a w).start = l.start := (rfl)
@[simp] theorem Lane.putImg_start (l : Lane) (o n v : Nat) : (l.putImg o n v).start = l.start := (rfl)
@[simp] theorem Lane.putDram_start (l : Lane) (o n v : Nat) : (l.putDram o n v).start = l.start := (rfl)
@[simp] theorem Lane.wr_ledger (l : Lane) (a : Nat) (w : Word) : (l.wr a w).ledger = l.ledger := (rfl)
@[simp] theorem Lane.set_ledger (l : Lane) (f : Fld) (v : Nat) : (l.set f v).ledger = l.ledger := (rfl)
@[simp] theorem Lane.setB_ledger (l : Lane) (f : Fld) (b : Bool) : (l.setB f b).ledger = l.ledger := (rfl)
@[simp] theorem Lane.cnt_ledger (l : Lane) (f : Fld) (n : Nat) : (l.cnt f n).ledger = l.ledger := (rfl)
@[simp] theorem Lane.inc_ledger (l : Lane) (a n : Nat) : (l.inc a n).ledger = l.ledger := (rfl)
@[simp] theorem Lane.set64_ledger (l : Lane) (a b v : Nat) : (l.set64 a b v).ledger = l.ledger := (rfl)
@[simp] theorem Lane.ev_ledger (l : Lane) (p b : Nat) : (l.ev p b).ledger = l.ledger := (rfl)
@[simp] theorem Lane.errAt_ledger (l : Lane) (p c s a : Nat) (d : Bool) : (l.errAt p c s a d).ledger = l.ledger := by unfold Lane.errAt; dsimp only; split <;> simp only [Lane.ev_ledger, Lane.wr_ledger, Lane.setB_ledger, Lane.set_ledger]
@[simp] theorem Lane.err_ledger (l : Lane) (p c s a : Nat) : (l.err p c s a).ledger = l.ledger := by rw [Lane.err, Lane.errAt_ledger]
@[simp] theorem Lane.logAt_ledger (l : Lane) (n t i c : Nat) (d : List (Nat × Nat)) : (l.logAt n t i c d).ledger = l.ledger := by unfold Lane.logAt; dsimp only; split <;> rfl
@[simp] theorem Lane.log1_ledger (l : Lane) (t i c : Nat) (d : List (Nat × Nat)) : (l.log1 t i c d).ledger = l.ledger := by rw [Lane.log1, Lane.logAt_ledger]
@[simp] theorem Lane.logEv_ledger (l : Lane) (p b o r : Nat) : (l.logEv p b o r).ledger = l.ledger := by rw [Lane.logEv, Lane.log1_ledger]
@[simp] theorem Lane.putWin_ledger (l : Lane) (a : Nat) (w : Word) : (l.putWin a w).ledger = l.ledger := (rfl)
@[simp] theorem Lane.putImg_ledger (l : Lane) (o n v : Nat) : (l.putImg o n v).ledger = l.ledger := (rfl)
@[simp] theorem Lane.putDram_ledger (l : Lane) (o n v : Nat) : (l.putDram o n v).ledger = l.ledger := (rfl)
@[simp] theorem Lane.wr_pair (l : Lane) (a : Nat) (w : Word) : (l.wr a w).pair = l.pair := (rfl)
@[simp] theorem Lane.set_pair (l : Lane) (f : Fld) (v : Nat) : (l.set f v).pair = l.pair := (rfl)
@[simp] theorem Lane.setB_pair (l : Lane) (f : Fld) (b : Bool) : (l.setB f b).pair = l.pair := (rfl)
@[simp] theorem Lane.cnt_pair (l : Lane) (f : Fld) (n : Nat) : (l.cnt f n).pair = l.pair := (rfl)
@[simp] theorem Lane.inc_pair (l : Lane) (a n : Nat) : (l.inc a n).pair = l.pair := (rfl)
@[simp] theorem Lane.set64_pair (l : Lane) (a b v : Nat) : (l.set64 a b v).pair = l.pair := (rfl)
@[simp] theorem Lane.ev_pair (l : Lane) (p b : Nat) : (l.ev p b).pair = l.pair := (rfl)
@[simp] theorem Lane.errAt_pair (l : Lane) (p c s a : Nat) (d : Bool) : (l.errAt p c s a d).pair = l.pair := by unfold Lane.errAt; dsimp only; split <;> simp only [Lane.ev_pair, Lane.wr_pair, Lane.setB_pair, Lane.set_pair]
@[simp] theorem Lane.err_pair (l : Lane) (p c s a : Nat) : (l.err p c s a).pair = l.pair := by rw [Lane.err, Lane.errAt_pair]
@[simp] theorem Lane.logAt_pair (l : Lane) (n t i c : Nat) (d : List (Nat × Nat)) : (l.logAt n t i c d).pair = l.pair := by unfold Lane.logAt; dsimp only; split <;> rfl
@[simp] theorem Lane.log1_pair (l : Lane) (t i c : Nat) (d : List (Nat × Nat)) : (l.log1 t i c d).pair = l.pair := by rw [Lane.log1, Lane.logAt_pair]
@[simp] theorem Lane.logEv_pair (l : Lane) (p b o r : Nat) : (l.logEv p b o r).pair = l.pair := by rw [Lane.logEv, Lane.log1_pair]
@[simp] theorem Lane.putWin_pair (l : Lane) (a : Nat) (w : Word) : (l.putWin a w).pair = l.pair := (rfl)
@[simp] theorem Lane.putImg_pair (l : Lane) (o n v : Nat) : (l.putImg o n v).pair = l.pair := (rfl)
@[simp] theorem Lane.putDram_pair (l : Lane) (o n v : Nat) : (l.putDram o n v).pair = l.pair := (rfl)
@[simp] theorem Lane.wr_cyc (l : Lane) (a : Nat) (w : Word) : (l.wr a w).cyc = l.cyc := (rfl)
@[simp] theorem Lane.set_cyc (l : Lane) (f : Fld) (v : Nat) : (l.set f v).cyc = l.cyc := (rfl)
@[simp] theorem Lane.setB_cyc (l : Lane) (f : Fld) (b : Bool) : (l.setB f b).cyc = l.cyc := (rfl)
@[simp] theorem Lane.cnt_cyc (l : Lane) (f : Fld) (n : Nat) : (l.cnt f n).cyc = l.cyc := (rfl)
@[simp] theorem Lane.inc_cyc (l : Lane) (a n : Nat) : (l.inc a n).cyc = l.cyc := (rfl)
@[simp] theorem Lane.set64_cyc (l : Lane) (a b v : Nat) : (l.set64 a b v).cyc = l.cyc := (rfl)
@[simp] theorem Lane.ev_cyc (l : Lane) (p b : Nat) : (l.ev p b).cyc = l.cyc := (rfl)
@[simp] theorem Lane.errAt_cyc (l : Lane) (p c s a : Nat) (d : Bool) : (l.errAt p c s a d).cyc = l.cyc := by unfold Lane.errAt; dsimp only; split <;> simp only [Lane.ev_cyc, Lane.wr_cyc, Lane.setB_cyc, Lane.set_cyc]
@[simp] theorem Lane.err_cyc (l : Lane) (p c s a : Nat) : (l.err p c s a).cyc = l.cyc := by rw [Lane.err, Lane.errAt_cyc]
@[simp] theorem Lane.logAt_cyc (l : Lane) (n t i c : Nat) (d : List (Nat × Nat)) : (l.logAt n t i c d).cyc = l.cyc := by unfold Lane.logAt; dsimp only; split <;> rfl
@[simp] theorem Lane.log1_cyc (l : Lane) (t i c : Nat) (d : List (Nat × Nat)) : (l.log1 t i c d).cyc = l.cyc := by rw [Lane.log1, Lane.logAt_cyc]
@[simp] theorem Lane.logEv_cyc (l : Lane) (p b o r : Nat) : (l.logEv p b o r).cyc = l.cyc := by rw [Lane.logEv, Lane.log1_cyc]
@[simp] theorem Lane.putWin_cyc (l : Lane) (a : Nat) (w : Word) : (l.putWin a w).cyc = l.cyc := (rfl)
@[simp] theorem Lane.putImg_cyc (l : Lane) (o n v : Nat) : (l.putImg o n v).cyc = l.cyc := (rfl)
@[simp] theorem Lane.putDram_cyc (l : Lane) (o n v : Nat) : (l.putDram o n v).cyc = l.cyc := (rfl)
@[simp] theorem Lane.wr_ring (l : Lane) (a : Nat) (w : Word) : (l.wr a w).ring = l.ring := (rfl)
@[simp] theorem Lane.set_ring (l : Lane) (f : Fld) (v : Nat) : (l.set f v).ring = l.ring := (rfl)
@[simp] theorem Lane.setB_ring (l : Lane) (f : Fld) (b : Bool) : (l.setB f b).ring = l.ring := (rfl)
@[simp] theorem Lane.cnt_ring (l : Lane) (f : Fld) (n : Nat) : (l.cnt f n).ring = l.ring := (rfl)
@[simp] theorem Lane.inc_ring (l : Lane) (a n : Nat) : (l.inc a n).ring = l.ring := (rfl)
@[simp] theorem Lane.set64_ring (l : Lane) (a b v : Nat) : (l.set64 a b v).ring = l.ring := (rfl)
@[simp] theorem Lane.ev_ring (l : Lane) (p b : Nat) : (l.ev p b).ring = l.ring := (rfl)
@[simp] theorem Lane.errAt_ring (l : Lane) (p c s a : Nat) (d : Bool) : (l.errAt p c s a d).ring = l.ring := by unfold Lane.errAt; dsimp only; split <;> simp only [Lane.ev_ring, Lane.wr_ring, Lane.setB_ring, Lane.set_ring]
@[simp] theorem Lane.err_ring (l : Lane) (p c s a : Nat) : (l.err p c s a).ring = l.ring := by rw [Lane.err, Lane.errAt_ring]
@[simp] theorem Lane.logAt_ring (l : Lane) (n t i c : Nat) (d : List (Nat × Nat)) : (l.logAt n t i c d).ring = l.ring := by unfold Lane.logAt; dsimp only; split <;> rfl
@[simp] theorem Lane.log1_ring (l : Lane) (t i c : Nat) (d : List (Nat × Nat)) : (l.log1 t i c d).ring = l.ring := by rw [Lane.log1, Lane.logAt_ring]
@[simp] theorem Lane.logEv_ring (l : Lane) (p b o r : Nat) : (l.logEv p b o r).ring = l.ring := by rw [Lane.logEv, Lane.log1_ring]
@[simp] theorem Lane.putWin_ring (l : Lane) (a : Nat) (w : Word) : (l.putWin a w).ring = l.ring := (rfl)
@[simp] theorem Lane.putImg_ring (l : Lane) (o n v : Nat) : (l.putImg o n v).ring = l.ring := (rfl)
@[simp] theorem Lane.putDram_ring (l : Lane) (o n v : Nat) : (l.putDram o n v).ring = l.ring := (rfl)
@[simp] theorem Lane.wr_ain (l : Lane) (a : Nat) (w : Word) : (l.wr a w).ain = l.ain := (rfl)
@[simp] theorem Lane.set_ain (l : Lane) (f : Fld) (v : Nat) : (l.set f v).ain = l.ain := (rfl)
@[simp] theorem Lane.setB_ain (l : Lane) (f : Fld) (b : Bool) : (l.setB f b).ain = l.ain := (rfl)
@[simp] theorem Lane.cnt_ain (l : Lane) (f : Fld) (n : Nat) : (l.cnt f n).ain = l.ain := (rfl)
@[simp] theorem Lane.inc_ain (l : Lane) (a n : Nat) : (l.inc a n).ain = l.ain := (rfl)
@[simp] theorem Lane.set64_ain (l : Lane) (a b v : Nat) : (l.set64 a b v).ain = l.ain := (rfl)
@[simp] theorem Lane.ev_ain (l : Lane) (p b : Nat) : (l.ev p b).ain = l.ain := (rfl)
@[simp] theorem Lane.errAt_ain (l : Lane) (p c s a : Nat) (d : Bool) : (l.errAt p c s a d).ain = l.ain := by unfold Lane.errAt; dsimp only; split <;> simp only [Lane.ev_ain, Lane.wr_ain, Lane.setB_ain, Lane.set_ain]
@[simp] theorem Lane.err_ain (l : Lane) (p c s a : Nat) : (l.err p c s a).ain = l.ain := by rw [Lane.err, Lane.errAt_ain]
@[simp] theorem Lane.logAt_ain (l : Lane) (n t i c : Nat) (d : List (Nat × Nat)) : (l.logAt n t i c d).ain = l.ain := by unfold Lane.logAt; dsimp only; split <;> rfl
@[simp] theorem Lane.log1_ain (l : Lane) (t i c : Nat) (d : List (Nat × Nat)) : (l.log1 t i c d).ain = l.ain := by rw [Lane.log1, Lane.logAt_ain]
@[simp] theorem Lane.logEv_ain (l : Lane) (p b o r : Nat) : (l.logEv p b o r).ain = l.ain := by rw [Lane.logEv, Lane.log1_ain]
@[simp] theorem Lane.putWin_ain (l : Lane) (a : Nat) (w : Word) : (l.putWin a w).ain = l.ain := (rfl)
@[simp] theorem Lane.putImg_ain (l : Lane) (o n v : Nat) : (l.putImg o n v).ain = l.ain := (rfl)
@[simp] theorem Lane.putDram_ain (l : Lane) (o n v : Nat) : (l.putDram o n v).ain = l.ain := (rfl)
@[simp] theorem Lane.wr_axis (l : Lane) (a : Nat) (w : Word) : (l.wr a w).axis = l.axis := (rfl)
@[simp] theorem Lane.set_axis (l : Lane) (f : Fld) (v : Nat) : (l.set f v).axis = l.axis := (rfl)
@[simp] theorem Lane.setB_axis (l : Lane) (f : Fld) (b : Bool) : (l.setB f b).axis = l.axis := (rfl)
@[simp] theorem Lane.cnt_axis (l : Lane) (f : Fld) (n : Nat) : (l.cnt f n).axis = l.axis := (rfl)
@[simp] theorem Lane.inc_axis (l : Lane) (a n : Nat) : (l.inc a n).axis = l.axis := (rfl)
@[simp] theorem Lane.set64_axis (l : Lane) (a b v : Nat) : (l.set64 a b v).axis = l.axis := (rfl)
@[simp] theorem Lane.ev_axis (l : Lane) (p b : Nat) : (l.ev p b).axis = l.axis := (rfl)
@[simp] theorem Lane.errAt_axis (l : Lane) (p c s a : Nat) (d : Bool) : (l.errAt p c s a d).axis = l.axis := by unfold Lane.errAt; dsimp only; split <;> simp only [Lane.ev_axis, Lane.wr_axis, Lane.setB_axis, Lane.set_axis]
@[simp] theorem Lane.err_axis (l : Lane) (p c s a : Nat) : (l.err p c s a).axis = l.axis := by rw [Lane.err, Lane.errAt_axis]
@[simp] theorem Lane.logAt_axis (l : Lane) (n t i c : Nat) (d : List (Nat × Nat)) : (l.logAt n t i c d).axis = l.axis := by unfold Lane.logAt; dsimp only; split <;> rfl
@[simp] theorem Lane.log1_axis (l : Lane) (t i c : Nat) (d : List (Nat × Nat)) : (l.log1 t i c d).axis = l.axis := by rw [Lane.log1, Lane.logAt_axis]
@[simp] theorem Lane.logEv_axis (l : Lane) (p b o r : Nat) : (l.logEv p b o r).axis = l.axis := by rw [Lane.logEv, Lane.log1_axis]
@[simp] theorem Lane.putWin_axis (l : Lane) (a : Nat) (w : Word) : (l.putWin a w).axis = l.axis := (rfl)
@[simp] theorem Lane.putImg_axis (l : Lane) (o n v : Nat) : (l.putImg o n v).axis = l.axis := (rfl)
@[simp] theorem Lane.putDram_axis (l : Lane) (o n v : Nat) : (l.putDram o n v).axis = l.axis := (rfl)
@[simp] theorem Lane.wr_pbus (l : Lane) (a : Nat) (w : Word) : (l.wr a w).pbus = l.pbus := (rfl)
@[simp] theorem Lane.set_pbus (l : Lane) (f : Fld) (v : Nat) : (l.set f v).pbus = l.pbus := (rfl)
@[simp] theorem Lane.setB_pbus (l : Lane) (f : Fld) (b : Bool) : (l.setB f b).pbus = l.pbus := (rfl)
@[simp] theorem Lane.cnt_pbus (l : Lane) (f : Fld) (n : Nat) : (l.cnt f n).pbus = l.pbus := (rfl)
@[simp] theorem Lane.inc_pbus (l : Lane) (a n : Nat) : (l.inc a n).pbus = l.pbus := (rfl)
@[simp] theorem Lane.set64_pbus (l : Lane) (a b v : Nat) : (l.set64 a b v).pbus = l.pbus := (rfl)
@[simp] theorem Lane.ev_pbus (l : Lane) (p b : Nat) : (l.ev p b).pbus = l.pbus := (rfl)
@[simp] theorem Lane.errAt_pbus (l : Lane) (p c s a : Nat) (d : Bool) : (l.errAt p c s a d).pbus = l.pbus := by unfold Lane.errAt; dsimp only; split <;> simp only [Lane.ev_pbus, Lane.wr_pbus, Lane.setB_pbus, Lane.set_pbus]
@[simp] theorem Lane.err_pbus (l : Lane) (p c s a : Nat) : (l.err p c s a).pbus = l.pbus := by rw [Lane.err, Lane.errAt_pbus]
@[simp] theorem Lane.logAt_pbus (l : Lane) (n t i c : Nat) (d : List (Nat × Nat)) : (l.logAt n t i c d).pbus = l.pbus := by unfold Lane.logAt; dsimp only; split <;> rfl
@[simp] theorem Lane.log1_pbus (l : Lane) (t i c : Nat) (d : List (Nat × Nat)) : (l.log1 t i c d).pbus = l.pbus := by rw [Lane.log1, Lane.logAt_pbus]
@[simp] theorem Lane.logEv_pbus (l : Lane) (p b o r : Nat) : (l.logEv p b o r).pbus = l.pbus := by rw [Lane.logEv, Lane.log1_pbus]
@[simp] theorem Lane.putWin_pbus (l : Lane) (a : Nat) (w : Word) : (l.putWin a w).pbus = l.pbus := (rfl)
@[simp] theorem Lane.putImg_pbus (l : Lane) (o n v : Nat) : (l.putImg o n v).pbus = l.pbus := (rfl)
@[simp] theorem Lane.putDram_pbus (l : Lane) (o n v : Nat) : (l.putDram o n v).pbus = l.pbus := (rfl)
@[simp] theorem Lane.wr_capt (l : Lane) (a : Nat) (w : Word) : (l.wr a w).capt = l.capt := (rfl)
@[simp] theorem Lane.set_capt (l : Lane) (f : Fld) (v : Nat) : (l.set f v).capt = l.capt := (rfl)
@[simp] theorem Lane.setB_capt (l : Lane) (f : Fld) (b : Bool) : (l.setB f b).capt = l.capt := (rfl)
@[simp] theorem Lane.cnt_capt (l : Lane) (f : Fld) (n : Nat) : (l.cnt f n).capt = l.capt := (rfl)
@[simp] theorem Lane.inc_capt (l : Lane) (a n : Nat) : (l.inc a n).capt = l.capt := (rfl)
@[simp] theorem Lane.set64_capt (l : Lane) (a b v : Nat) : (l.set64 a b v).capt = l.capt := (rfl)
@[simp] theorem Lane.ev_capt (l : Lane) (p b : Nat) : (l.ev p b).capt = l.capt := (rfl)
@[simp] theorem Lane.errAt_capt (l : Lane) (p c s a : Nat) (d : Bool) : (l.errAt p c s a d).capt = l.capt := by unfold Lane.errAt; dsimp only; split <;> simp only [Lane.ev_capt, Lane.wr_capt, Lane.setB_capt, Lane.set_capt]
@[simp] theorem Lane.err_capt (l : Lane) (p c s a : Nat) : (l.err p c s a).capt = l.capt := by rw [Lane.err, Lane.errAt_capt]
@[simp] theorem Lane.logAt_capt (l : Lane) (n t i c : Nat) (d : List (Nat × Nat)) : (l.logAt n t i c d).capt = l.capt := by unfold Lane.logAt; dsimp only; split <;> rfl
@[simp] theorem Lane.log1_capt (l : Lane) (t i c : Nat) (d : List (Nat × Nat)) : (l.log1 t i c d).capt = l.capt := by rw [Lane.log1, Lane.logAt_capt]
@[simp] theorem Lane.logEv_capt (l : Lane) (p b o r : Nat) : (l.logEv p b o r).capt = l.capt := by rw [Lane.logEv, Lane.log1_capt]
@[simp] theorem Lane.putWin_capt (l : Lane) (a : Nat) (w : Word) : (l.putWin a w).capt = l.capt := (rfl)
@[simp] theorem Lane.putImg_capt (l : Lane) (o n v : Nat) : (l.putImg o n v).capt = l.capt := (rfl)
@[simp] theorem Lane.putDram_capt (l : Lane) (o n v : Nat) : (l.putDram o n v).capt = l.capt := (rfl)
@[simp] theorem Lane.wr_recd (l : Lane) (a : Nat) (w : Word) : (l.wr a w).recd = l.recd := (rfl)
@[simp] theorem Lane.set_recd (l : Lane) (f : Fld) (v : Nat) : (l.set f v).recd = l.recd := (rfl)
@[simp] theorem Lane.setB_recd (l : Lane) (f : Fld) (b : Bool) : (l.setB f b).recd = l.recd := (rfl)
@[simp] theorem Lane.cnt_recd (l : Lane) (f : Fld) (n : Nat) : (l.cnt f n).recd = l.recd := (rfl)
@[simp] theorem Lane.inc_recd (l : Lane) (a n : Nat) : (l.inc a n).recd = l.recd := (rfl)
@[simp] theorem Lane.set64_recd (l : Lane) (a b v : Nat) : (l.set64 a b v).recd = l.recd := (rfl)
@[simp] theorem Lane.ev_recd (l : Lane) (p b : Nat) : (l.ev p b).recd = l.recd := (rfl)
@[simp] theorem Lane.errAt_recd (l : Lane) (p c s a : Nat) (d : Bool) : (l.errAt p c s a d).recd = l.recd := by unfold Lane.errAt; dsimp only; split <;> simp only [Lane.ev_recd, Lane.wr_recd, Lane.setB_recd, Lane.set_recd]
@[simp] theorem Lane.err_recd (l : Lane) (p c s a : Nat) : (l.err p c s a).recd = l.recd := by rw [Lane.err, Lane.errAt_recd]
@[simp] theorem Lane.logAt_recd (l : Lane) (n t i c : Nat) (d : List (Nat × Nat)) : (l.logAt n t i c d).recd = l.recd := by unfold Lane.logAt; dsimp only; split <;> rfl
@[simp] theorem Lane.log1_recd (l : Lane) (t i c : Nat) (d : List (Nat × Nat)) : (l.log1 t i c d).recd = l.recd := by rw [Lane.log1, Lane.logAt_recd]
@[simp] theorem Lane.logEv_recd (l : Lane) (p b o r : Nat) : (l.logEv p b o r).recd = l.recd := by rw [Lane.logEv, Lane.log1_recd]
@[simp] theorem Lane.putWin_recd (l : Lane) (a : Nat) (w : Word) : (l.putWin a w).recd = l.recd := (rfl)
@[simp] theorem Lane.putImg_recd (l : Lane) (o n v : Nat) : (l.putImg o n v).recd = l.recd := (rfl)
@[simp] theorem Lane.putDram_recd (l : Lane) (o n v : Nat) : (l.putDram o n v).recd = l.recd := (rfl)
@[simp] theorem Lane.wr_fifos (l : Lane) (a : Nat) (w : Word) : (l.wr a w).fifos = l.fifos := (rfl)
@[simp] theorem Lane.set_fifos (l : Lane) (f : Fld) (v : Nat) : (l.set f v).fifos = l.fifos := (rfl)
@[simp] theorem Lane.setB_fifos (l : Lane) (f : Fld) (b : Bool) : (l.setB f b).fifos = l.fifos := (rfl)
@[simp] theorem Lane.cnt_fifos (l : Lane) (f : Fld) (n : Nat) : (l.cnt f n).fifos = l.fifos := (rfl)
@[simp] theorem Lane.inc_fifos (l : Lane) (a n : Nat) : (l.inc a n).fifos = l.fifos := (rfl)
@[simp] theorem Lane.set64_fifos (l : Lane) (a b v : Nat) : (l.set64 a b v).fifos = l.fifos := (rfl)
@[simp] theorem Lane.ev_fifos (l : Lane) (p b : Nat) : (l.ev p b).fifos = l.fifos := (rfl)
@[simp] theorem Lane.errAt_fifos (l : Lane) (p c s a : Nat) (d : Bool) : (l.errAt p c s a d).fifos = l.fifos := by unfold Lane.errAt; dsimp only; split <;> simp only [Lane.ev_fifos, Lane.wr_fifos, Lane.setB_fifos, Lane.set_fifos]
@[simp] theorem Lane.err_fifos (l : Lane) (p c s a : Nat) : (l.err p c s a).fifos = l.fifos := by rw [Lane.err, Lane.errAt_fifos]
@[simp] theorem Lane.logAt_fifos (l : Lane) (n t i c : Nat) (d : List (Nat × Nat)) : (l.logAt n t i c d).fifos = l.fifos := by unfold Lane.logAt; dsimp only; split <;> rfl
@[simp] theorem Lane.log1_fifos (l : Lane) (t i c : Nat) (d : List (Nat × Nat)) : (l.log1 t i c d).fifos = l.fifos := by rw [Lane.log1, Lane.logAt_fifos]
@[simp] theorem Lane.logEv_fifos (l : Lane) (p b o r : Nat) : (l.logEv p b o r).fifos = l.fifos := by rw [Lane.logEv, Lane.log1_fifos]
@[simp] theorem Lane.putWin_fifos (l : Lane) (a : Nat) (w : Word) : (l.putWin a w).fifos = l.fifos := (rfl)
@[simp] theorem Lane.putImg_fifos (l : Lane) (o n v : Nat) : (l.putImg o n v).fifos = l.fifos := (rfl)
@[simp] theorem Lane.putDram_fifos (l : Lane) (o n v : Nat) : (l.putDram o n v).fifos = l.fifos := (rfl)
@[simp] theorem Lane.wr_work (l : Lane) (a : Nat) (w : Word) : (l.wr a w).work = l.work := (rfl)
@[simp] theorem Lane.set_work (l : Lane) (f : Fld) (v : Nat) : (l.set f v).work = l.work := (rfl)
@[simp] theorem Lane.setB_work (l : Lane) (f : Fld) (b : Bool) : (l.setB f b).work = l.work := (rfl)
@[simp] theorem Lane.cnt_work (l : Lane) (f : Fld) (n : Nat) : (l.cnt f n).work = l.work := (rfl)
@[simp] theorem Lane.inc_work (l : Lane) (a n : Nat) : (l.inc a n).work = l.work := (rfl)
@[simp] theorem Lane.set64_work (l : Lane) (a b v : Nat) : (l.set64 a b v).work = l.work := (rfl)
@[simp] theorem Lane.ev_work (l : Lane) (p b : Nat) : (l.ev p b).work = l.work := (rfl)
@[simp] theorem Lane.errAt_work (l : Lane) (p c s a : Nat) (d : Bool) : (l.errAt p c s a d).work = l.work := by unfold Lane.errAt; dsimp only; split <;> simp only [Lane.ev_work, Lane.wr_work, Lane.setB_work, Lane.set_work]
@[simp] theorem Lane.err_work (l : Lane) (p c s a : Nat) : (l.err p c s a).work = l.work := by rw [Lane.err, Lane.errAt_work]
@[simp] theorem Lane.logAt_work (l : Lane) (n t i c : Nat) (d : List (Nat × Nat)) : (l.logAt n t i c d).work = l.work := by unfold Lane.logAt; dsimp only; split <;> rfl
@[simp] theorem Lane.log1_work (l : Lane) (t i c : Nat) (d : List (Nat × Nat)) : (l.log1 t i c d).work = l.work := by rw [Lane.log1, Lane.logAt_work]
@[simp] theorem Lane.logEv_work (l : Lane) (p b o r : Nat) : (l.logEv p b o r).work = l.work := by rw [Lane.logEv, Lane.log1_work]
@[simp] theorem Lane.putWin_work (l : Lane) (a : Nat) (w : Word) : (l.putWin a w).work = l.work := (rfl)
@[simp] theorem Lane.putImg_work (l : Lane) (o n v : Nat) : (l.putImg o n v).work = l.work := (rfl)
@[simp] theorem Lane.putDram_work (l : Lane) (o n v : Nat) : (l.putDram o n v).work = l.work := (rfl)
@[simp] theorem Lane.wr_irq (l : Lane) (a : Nat) (w : Word) : (l.wr a w).irq = l.irq := (rfl)
@[simp] theorem Lane.set_irq (l : Lane) (f : Fld) (v : Nat) : (l.set f v).irq = l.irq := (rfl)
@[simp] theorem Lane.setB_irq (l : Lane) (f : Fld) (b : Bool) : (l.setB f b).irq = l.irq := (rfl)
@[simp] theorem Lane.cnt_irq (l : Lane) (f : Fld) (n : Nat) : (l.cnt f n).irq = l.irq := (rfl)
@[simp] theorem Lane.inc_irq (l : Lane) (a n : Nat) : (l.inc a n).irq = l.irq := (rfl)
@[simp] theorem Lane.set64_irq (l : Lane) (a b v : Nat) : (l.set64 a b v).irq = l.irq := (rfl)
@[simp] theorem Lane.ev_irq (l : Lane) (p b : Nat) : (l.ev p b).irq = l.irq := (rfl)
@[simp] theorem Lane.errAt_irq (l : Lane) (p c s a : Nat) (d : Bool) : (l.errAt p c s a d).irq = l.irq := by unfold Lane.errAt; dsimp only; split <;> simp only [Lane.ev_irq, Lane.wr_irq, Lane.setB_irq, Lane.set_irq]
@[simp] theorem Lane.err_irq (l : Lane) (p c s a : Nat) : (l.err p c s a).irq = l.irq := by rw [Lane.err, Lane.errAt_irq]
@[simp] theorem Lane.logAt_irq (l : Lane) (n t i c : Nat) (d : List (Nat × Nat)) : (l.logAt n t i c d).irq = l.irq := by unfold Lane.logAt; dsimp only; split <;> rfl
@[simp] theorem Lane.log1_irq (l : Lane) (t i c : Nat) (d : List (Nat × Nat)) : (l.log1 t i c d).irq = l.irq := by rw [Lane.log1, Lane.logAt_irq]
@[simp] theorem Lane.logEv_irq (l : Lane) (p b o r : Nat) : (l.logEv p b o r).irq = l.irq := by rw [Lane.logEv, Lane.log1_irq]
@[simp] theorem Lane.putWin_irq (l : Lane) (a : Nat) (w : Word) : (l.putWin a w).irq = l.irq := (rfl)
@[simp] theorem Lane.putImg_irq (l : Lane) (o n v : Nat) : (l.putImg o n v).irq = l.irq := (rfl)
@[simp] theorem Lane.putDram_irq (l : Lane) (o n v : Nat) : (l.putDram o n v).irq = l.irq := (rfl)
@[simp] theorem Lane.wr_dma (l : Lane) (a : Nat) (w : Word) : (l.wr a w).dma = l.dma := (rfl)
@[simp] theorem Lane.set_dma (l : Lane) (f : Fld) (v : Nat) : (l.set f v).dma = l.dma := (rfl)
@[simp] theorem Lane.setB_dma (l : Lane) (f : Fld) (b : Bool) : (l.setB f b).dma = l.dma := (rfl)
@[simp] theorem Lane.cnt_dma (l : Lane) (f : Fld) (n : Nat) : (l.cnt f n).dma = l.dma := (rfl)
@[simp] theorem Lane.inc_dma (l : Lane) (a n : Nat) : (l.inc a n).dma = l.dma := (rfl)
@[simp] theorem Lane.set64_dma (l : Lane) (a b v : Nat) : (l.set64 a b v).dma = l.dma := (rfl)
@[simp] theorem Lane.ev_dma (l : Lane) (p b : Nat) : (l.ev p b).dma = l.dma := (rfl)
@[simp] theorem Lane.errAt_dma (l : Lane) (p c s a : Nat) (d : Bool) : (l.errAt p c s a d).dma = l.dma := by unfold Lane.errAt; dsimp only; split <;> simp only [Lane.ev_dma, Lane.wr_dma, Lane.setB_dma, Lane.set_dma]
@[simp] theorem Lane.err_dma (l : Lane) (p c s a : Nat) : (l.err p c s a).dma = l.dma := by rw [Lane.err, Lane.errAt_dma]
@[simp] theorem Lane.logAt_dma (l : Lane) (n t i c : Nat) (d : List (Nat × Nat)) : (l.logAt n t i c d).dma = l.dma := by unfold Lane.logAt; dsimp only; split <;> rfl
@[simp] theorem Lane.log1_dma (l : Lane) (t i c : Nat) (d : List (Nat × Nat)) : (l.log1 t i c d).dma = l.dma := by rw [Lane.log1, Lane.logAt_dma]
@[simp] theorem Lane.logEv_dma (l : Lane) (p b o r : Nat) : (l.logEv p b o r).dma = l.dma := by rw [Lane.logEv, Lane.log1_dma]
@[simp] theorem Lane.putWin_dma (l : Lane) (a : Nat) (w : Word) : (l.putWin a w).dma = l.dma := (rfl)
@[simp] theorem Lane.putImg_dma (l : Lane) (o n v : Nat) : (l.putImg o n v).dma = l.dma := (rfl)
@[simp] theorem Lane.putDram_dma (l : Lane) (o n v : Nat) : (l.putDram o n v).dma = l.dma := (rfl)
@[simp] theorem Lane.wr_host (l : Lane) (a : Nat) (w : Word) : (l.wr a w).host = l.host := (rfl)
@[simp] theorem Lane.set_host (l : Lane) (f : Fld) (v : Nat) : (l.set f v).host = l.host := (rfl)
@[simp] theorem Lane.setB_host (l : Lane) (f : Fld) (b : Bool) : (l.setB f b).host = l.host := (rfl)
@[simp] theorem Lane.cnt_host (l : Lane) (f : Fld) (n : Nat) : (l.cnt f n).host = l.host := (rfl)
@[simp] theorem Lane.inc_host (l : Lane) (a n : Nat) : (l.inc a n).host = l.host := (rfl)
@[simp] theorem Lane.set64_host (l : Lane) (a b v : Nat) : (l.set64 a b v).host = l.host := (rfl)
@[simp] theorem Lane.ev_host (l : Lane) (p b : Nat) : (l.ev p b).host = l.host := (rfl)
@[simp] theorem Lane.errAt_host (l : Lane) (p c s a : Nat) (d : Bool) : (l.errAt p c s a d).host = l.host := by unfold Lane.errAt; dsimp only; split <;> simp only [Lane.ev_host, Lane.wr_host, Lane.setB_host, Lane.set_host]
@[simp] theorem Lane.err_host (l : Lane) (p c s a : Nat) : (l.err p c s a).host = l.host := by rw [Lane.err, Lane.errAt_host]
@[simp] theorem Lane.logAt_host (l : Lane) (n t i c : Nat) (d : List (Nat × Nat)) : (l.logAt n t i c d).host = l.host := by unfold Lane.logAt; dsimp only; split <;> rfl
@[simp] theorem Lane.log1_host (l : Lane) (t i c : Nat) (d : List (Nat × Nat)) : (l.log1 t i c d).host = l.host := by rw [Lane.log1, Lane.logAt_host]
@[simp] theorem Lane.logEv_host (l : Lane) (p b o r : Nat) : (l.logEv p b o r).host = l.host := by rw [Lane.logEv, Lane.log1_host]
@[simp] theorem Lane.putWin_host (l : Lane) (a : Nat) (w : Word) : (l.putWin a w).host = l.host := (rfl)
@[simp] theorem Lane.putImg_host (l : Lane) (o n v : Nat) : (l.putImg o n v).host = l.host := (rfl)
@[simp] theorem Lane.putDram_host (l : Lane) (o n v : Nat) : (l.putDram o n v).host = l.host := (rfl)
@[simp] theorem Lane.wr_memi (l : Lane) (a : Nat) (w : Word) : (l.wr a w).memi = l.memi := (rfl)
@[simp] theorem Lane.set_memi (l : Lane) (f : Fld) (v : Nat) : (l.set f v).memi = l.memi := (rfl)
@[simp] theorem Lane.setB_memi (l : Lane) (f : Fld) (b : Bool) : (l.setB f b).memi = l.memi := (rfl)
@[simp] theorem Lane.cnt_memi (l : Lane) (f : Fld) (n : Nat) : (l.cnt f n).memi = l.memi := (rfl)
@[simp] theorem Lane.inc_memi (l : Lane) (a n : Nat) : (l.inc a n).memi = l.memi := (rfl)
@[simp] theorem Lane.set64_memi (l : Lane) (a b v : Nat) : (l.set64 a b v).memi = l.memi := (rfl)
@[simp] theorem Lane.ev_memi (l : Lane) (p b : Nat) : (l.ev p b).memi = l.memi := (rfl)
@[simp] theorem Lane.errAt_memi (l : Lane) (p c s a : Nat) (d : Bool) : (l.errAt p c s a d).memi = l.memi := by unfold Lane.errAt; dsimp only; split <;> simp only [Lane.ev_memi, Lane.wr_memi, Lane.setB_memi, Lane.set_memi]
@[simp] theorem Lane.err_memi (l : Lane) (p c s a : Nat) : (l.err p c s a).memi = l.memi := by rw [Lane.err, Lane.errAt_memi]
@[simp] theorem Lane.logAt_memi (l : Lane) (n t i c : Nat) (d : List (Nat × Nat)) : (l.logAt n t i c d).memi = l.memi := by unfold Lane.logAt; dsimp only; split <;> rfl
@[simp] theorem Lane.log1_memi (l : Lane) (t i c : Nat) (d : List (Nat × Nat)) : (l.log1 t i c d).memi = l.memi := by rw [Lane.log1, Lane.logAt_memi]
@[simp] theorem Lane.logEv_memi (l : Lane) (p b o r : Nat) : (l.logEv p b o r).memi = l.memi := by rw [Lane.logEv, Lane.log1_memi]
@[simp] theorem Lane.putWin_memi (l : Lane) (a : Nat) (w : Word) : (l.putWin a w).memi = l.memi := (rfl)
@[simp] theorem Lane.putImg_memi (l : Lane) (o n v : Nat) : (l.putImg o n v).memi = l.memi := (rfl)
@[simp] theorem Lane.putDram_memi (l : Lane) (o n v : Nat) : (l.putDram o n v).memi = l.memi := (rfl)
@[simp] theorem Lane.wr_pip (l : Lane) (a : Nat) (w : Word) : (l.wr a w).pip = l.pip := (rfl)
@[simp] theorem Lane.set_pip (l : Lane) (f : Fld) (v : Nat) : (l.set f v).pip = l.pip := (rfl)
@[simp] theorem Lane.setB_pip (l : Lane) (f : Fld) (b : Bool) : (l.setB f b).pip = l.pip := (rfl)
@[simp] theorem Lane.cnt_pip (l : Lane) (f : Fld) (n : Nat) : (l.cnt f n).pip = l.pip := (rfl)
@[simp] theorem Lane.inc_pip (l : Lane) (a n : Nat) : (l.inc a n).pip = l.pip := (rfl)
@[simp] theorem Lane.set64_pip (l : Lane) (a b v : Nat) : (l.set64 a b v).pip = l.pip := (rfl)
@[simp] theorem Lane.ev_pip (l : Lane) (p b : Nat) : (l.ev p b).pip = l.pip := (rfl)
@[simp] theorem Lane.errAt_pip (l : Lane) (p c s a : Nat) (d : Bool) : (l.errAt p c s a d).pip = l.pip := by unfold Lane.errAt; dsimp only; split <;> simp only [Lane.ev_pip, Lane.wr_pip, Lane.setB_pip, Lane.set_pip]
@[simp] theorem Lane.err_pip (l : Lane) (p c s a : Nat) : (l.err p c s a).pip = l.pip := by rw [Lane.err, Lane.errAt_pip]
@[simp] theorem Lane.logAt_pip (l : Lane) (n t i c : Nat) (d : List (Nat × Nat)) : (l.logAt n t i c d).pip = l.pip := by unfold Lane.logAt; dsimp only; split <;> rfl
@[simp] theorem Lane.log1_pip (l : Lane) (t i c : Nat) (d : List (Nat × Nat)) : (l.log1 t i c d).pip = l.pip := by rw [Lane.log1, Lane.logAt_pip]
@[simp] theorem Lane.logEv_pip (l : Lane) (p b o r : Nat) : (l.logEv p b o r).pip = l.pip := by rw [Lane.logEv, Lane.log1_pip]
@[simp] theorem Lane.putWin_pip (l : Lane) (a : Nat) (w : Word) : (l.putWin a w).pip = l.pip := (rfl)
@[simp] theorem Lane.putImg_pip (l : Lane) (o n v : Nat) : (l.putImg o n v).pip = l.pip := (rfl)
@[simp] theorem Lane.putDram_pip (l : Lane) (o n v : Nat) : (l.putDram o n v).pip = l.pip := (rfl)
@[simp] theorem Lane.wr_slots (l : Lane) (a : Nat) (w : Word) : (l.wr a w).slots = l.slots := (rfl)
@[simp] theorem Lane.set_slots (l : Lane) (f : Fld) (v : Nat) : (l.set f v).slots = l.slots := (rfl)
@[simp] theorem Lane.setB_slots (l : Lane) (f : Fld) (b : Bool) : (l.setB f b).slots = l.slots := (rfl)
@[simp] theorem Lane.cnt_slots (l : Lane) (f : Fld) (n : Nat) : (l.cnt f n).slots = l.slots := (rfl)
@[simp] theorem Lane.inc_slots (l : Lane) (a n : Nat) : (l.inc a n).slots = l.slots := (rfl)
@[simp] theorem Lane.set64_slots (l : Lane) (a b v : Nat) : (l.set64 a b v).slots = l.slots := (rfl)
@[simp] theorem Lane.ev_slots (l : Lane) (p b : Nat) : (l.ev p b).slots = l.slots := (rfl)
@[simp] theorem Lane.errAt_slots (l : Lane) (p c s a : Nat) (d : Bool) : (l.errAt p c s a d).slots = l.slots := by unfold Lane.errAt; dsimp only; split <;> simp only [Lane.ev_slots, Lane.wr_slots, Lane.setB_slots, Lane.set_slots]
@[simp] theorem Lane.err_slots (l : Lane) (p c s a : Nat) : (l.err p c s a).slots = l.slots := by rw [Lane.err, Lane.errAt_slots]
@[simp] theorem Lane.logAt_slots (l : Lane) (n t i c : Nat) (d : List (Nat × Nat)) : (l.logAt n t i c d).slots = l.slots := by unfold Lane.logAt; dsimp only; split <;> rfl
@[simp] theorem Lane.log1_slots (l : Lane) (t i c : Nat) (d : List (Nat × Nat)) : (l.log1 t i c d).slots = l.slots := by rw [Lane.log1, Lane.logAt_slots]
@[simp] theorem Lane.logEv_slots (l : Lane) (p b o r : Nat) : (l.logEv p b o r).slots = l.slots := by rw [Lane.logEv, Lane.log1_slots]
@[simp] theorem Lane.putWin_slots (l : Lane) (a : Nat) (w : Word) : (l.putWin a w).slots = l.slots := (rfl)
@[simp] theorem Lane.putImg_slots (l : Lane) (o n v : Nat) : (l.putImg o n v).slots = l.slots := (rfl)
@[simp] theorem Lane.putDram_slots (l : Lane) (o n v : Nat) : (l.putDram o n v).slots = l.slots := (rfl)
@[simp] theorem Lane.wr_image (l : Lane) (a : Nat) (w : Word) : (l.wr a w).image = l.image := (rfl)
@[simp] theorem Lane.set_image (l : Lane) (f : Fld) (v : Nat) : (l.set f v).image = l.image := (rfl)
@[simp] theorem Lane.setB_image (l : Lane) (f : Fld) (b : Bool) : (l.setB f b).image = l.image := (rfl)
@[simp] theorem Lane.cnt_image (l : Lane) (f : Fld) (n : Nat) : (l.cnt f n).image = l.image := (rfl)
@[simp] theorem Lane.inc_image (l : Lane) (a n : Nat) : (l.inc a n).image = l.image := (rfl)
@[simp] theorem Lane.set64_image (l : Lane) (a b v : Nat) : (l.set64 a b v).image = l.image := (rfl)
@[simp] theorem Lane.ev_image (l : Lane) (p b : Nat) : (l.ev p b).image = l.image := (rfl)
@[simp] theorem Lane.errAt_image (l : Lane) (p c s a : Nat) (d : Bool) : (l.errAt p c s a d).image = l.image := by unfold Lane.errAt; dsimp only; split <;> simp only [Lane.ev_image, Lane.wr_image, Lane.setB_image, Lane.set_image]
@[simp] theorem Lane.err_image (l : Lane) (p c s a : Nat) : (l.err p c s a).image = l.image := by rw [Lane.err, Lane.errAt_image]
@[simp] theorem Lane.logAt_image (l : Lane) (n t i c : Nat) (d : List (Nat × Nat)) : (l.logAt n t i c d).image = l.image := by unfold Lane.logAt; dsimp only; split <;> rfl
@[simp] theorem Lane.log1_image (l : Lane) (t i c : Nat) (d : List (Nat × Nat)) : (l.log1 t i c d).image = l.image := by rw [Lane.log1, Lane.logAt_image]
@[simp] theorem Lane.logEv_image (l : Lane) (p b o r : Nat) : (l.logEv p b o r).image = l.image := by rw [Lane.logEv, Lane.log1_image]
@[simp] theorem Lane.putWin_image (l : Lane) (a : Nat) (w : Word) : (l.putWin a w).image = l.image := (rfl)
@[simp] theorem Lane.putImg_image (l : Lane) (o n v : Nat) : (l.putImg o n v).image = l.image := (rfl)
@[simp] theorem Lane.putDram_image (l : Lane) (o n v : Nat) : (l.putDram o n v).image = l.image := (rfl)
@[simp] theorem Lane.wr_log (l : Lane) (a : Nat) (w : Word) : (l.wr a w).log = l.log := (rfl)
@[simp] theorem Lane.set_log (l : Lane) (f : Fld) (v : Nat) : (l.set f v).log = l.log := (rfl)
@[simp] theorem Lane.setB_log (l : Lane) (f : Fld) (b : Bool) : (l.setB f b).log = l.log := (rfl)
@[simp] theorem Lane.cnt_log (l : Lane) (f : Fld) (n : Nat) : (l.cnt f n).log = l.log := (rfl)
@[simp] theorem Lane.inc_log (l : Lane) (a n : Nat) : (l.inc a n).log = l.log := (rfl)
@[simp] theorem Lane.set64_log (l : Lane) (a b v : Nat) : (l.set64 a b v).log = l.log := (rfl)
@[simp] theorem Lane.ev_log (l : Lane) (p b : Nat) : (l.ev p b).log = l.log := (rfl)
@[simp] theorem Lane.errAt_log (l : Lane) (p c s a : Nat) (d : Bool) : (l.errAt p c s a d).log = l.log := by unfold Lane.errAt; dsimp only; split <;> simp only [Lane.ev_log, Lane.wr_log, Lane.setB_log, Lane.set_log]
@[simp] theorem Lane.err_log (l : Lane) (p c s a : Nat) : (l.err p c s a).log = l.log := by rw [Lane.err, Lane.errAt_log]
@[simp] theorem Lane.putWin_log (l : Lane) (a : Nat) (w : Word) : (l.putWin a w).log = l.log := (rfl)
@[simp] theorem Lane.putImg_log (l : Lane) (o n v : Nat) : (l.putImg o n v).log = l.log := (rfl)
@[simp] theorem Lane.putDram_log (l : Lane) (o n v : Nat) : (l.putDram o n v).log = l.log := (rfl)
@[simp] theorem Lane.wr_store (l : Lane) (a : Nat) (w : Word) : (l.wr a w).store = l.store := (rfl)
@[simp] theorem Lane.set_store (l : Lane) (f : Fld) (v : Nat) : (l.set f v).store = l.store := (rfl)
@[simp] theorem Lane.setB_store (l : Lane) (f : Fld) (b : Bool) : (l.setB f b).store = l.store := (rfl)
@[simp] theorem Lane.cnt_store (l : Lane) (f : Fld) (n : Nat) : (l.cnt f n).store = l.store := (rfl)
@[simp] theorem Lane.inc_store (l : Lane) (a n : Nat) : (l.inc a n).store = l.store := (rfl)
@[simp] theorem Lane.set64_store (l : Lane) (a b v : Nat) : (l.set64 a b v).store = l.store := (rfl)
@[simp] theorem Lane.ev_store (l : Lane) (p b : Nat) : (l.ev p b).store = l.store := (rfl)
@[simp] theorem Lane.errAt_store (l : Lane) (p c s a : Nat) (d : Bool) : (l.errAt p c s a d).store = l.store := by unfold Lane.errAt; dsimp only; split <;> simp only [Lane.ev_store, Lane.wr_store, Lane.setB_store, Lane.set_store]
@[simp] theorem Lane.err_store (l : Lane) (p c s a : Nat) : (l.err p c s a).store = l.store := by rw [Lane.err, Lane.errAt_store]
@[simp] theorem Lane.logAt_store (l : Lane) (n t i c : Nat) (d : List (Nat × Nat)) : (l.logAt n t i c d).store = l.store := by unfold Lane.logAt; dsimp only; split <;> rfl
@[simp] theorem Lane.log1_store (l : Lane) (t i c : Nat) (d : List (Nat × Nat)) : (l.log1 t i c d).store = l.store := by rw [Lane.log1, Lane.logAt_store]
@[simp] theorem Lane.logEv_store (l : Lane) (p b o r : Nat) : (l.logEv p b o r).store = l.store := by rw [Lane.logEv, Lane.log1_store]
@[simp] theorem Lane.putWin_store (l : Lane) (a : Nat) (w : Word) : (l.putWin a w).store = l.store := (rfl)
@[simp] theorem Lane.putImg_store (l : Lane) (o n v : Nat) : (l.putImg o n v).store = l.store := (rfl)
@[simp] theorem Lane.putDram_store (l : Lane) (o n v : Nat) : (l.putDram o n v).store = l.store := (rfl)
@[simp] theorem Lane.wr_trial (l : Lane) (a : Nat) (w : Word) : (l.wr a w).trial = l.trial := (rfl)
@[simp] theorem Lane.set_trial (l : Lane) (f : Fld) (v : Nat) : (l.set f v).trial = l.trial := (rfl)
@[simp] theorem Lane.setB_trial (l : Lane) (f : Fld) (b : Bool) : (l.setB f b).trial = l.trial := (rfl)
@[simp] theorem Lane.cnt_trial (l : Lane) (f : Fld) (n : Nat) : (l.cnt f n).trial = l.trial := (rfl)
@[simp] theorem Lane.inc_trial (l : Lane) (a n : Nat) : (l.inc a n).trial = l.trial := (rfl)
@[simp] theorem Lane.set64_trial (l : Lane) (a b v : Nat) : (l.set64 a b v).trial = l.trial := (rfl)
@[simp] theorem Lane.ev_trial (l : Lane) (p b : Nat) : (l.ev p b).trial = l.trial := (rfl)
@[simp] theorem Lane.errAt_trial (l : Lane) (p c s a : Nat) (d : Bool) : (l.errAt p c s a d).trial = l.trial := by unfold Lane.errAt; dsimp only; split <;> simp only [Lane.ev_trial, Lane.wr_trial, Lane.setB_trial, Lane.set_trial]
@[simp] theorem Lane.err_trial (l : Lane) (p c s a : Nat) : (l.err p c s a).trial = l.trial := by rw [Lane.err, Lane.errAt_trial]
@[simp] theorem Lane.logAt_trial (l : Lane) (n t i c : Nat) (d : List (Nat × Nat)) : (l.logAt n t i c d).trial = l.trial := by unfold Lane.logAt; dsimp only; split <;> rfl
@[simp] theorem Lane.log1_trial (l : Lane) (t i c : Nat) (d : List (Nat × Nat)) : (l.log1 t i c d).trial = l.trial := by rw [Lane.log1, Lane.logAt_trial]
@[simp] theorem Lane.logEv_trial (l : Lane) (p b o r : Nat) : (l.logEv p b o r).trial = l.trial := by rw [Lane.logEv, Lane.log1_trial]
@[simp] theorem Lane.putWin_trial (l : Lane) (a : Nat) (w : Word) : (l.putWin a w).trial = l.trial := (rfl)
@[simp] theorem Lane.putImg_trial (l : Lane) (o n v : Nat) : (l.putImg o n v).trial = l.trial := (rfl)
@[simp] theorem Lane.putDram_trial (l : Lane) (o n v : Nat) : (l.putDram o n v).trial = l.trial := (rfl)

/-! ### The two lanes -/

@[simp] theorem State.setLane_base (s : State) (i : LaneId) (l : Lane) : (s.setLane i l).base = s.base := by cases i <;> rfl
@[simp] theorem State.on_base (s : State) (i : LaneId) (f : Lane → Lane) : (s.on i f).base = s.base := by cases i <;> rfl
@[simp] theorem State.setLane_now (s : State) (i : LaneId) (l : Lane) : (s.setLane i l).now = s.now := by cases i <;> rfl
@[simp] theorem State.on_now (s : State) (i : LaneId) (f : Lane → Lane) : (s.on i f).now = s.now := by cases i <;> rfl
@[simp] theorem State.setLane_free (s : State) (i : LaneId) (l : Lane) : (s.setLane i l).free = s.free := by cases i <;> rfl
@[simp] theorem State.on_free (s : State) (i : LaneId) (f : Lane → Lane) : (s.on i f).free = s.free := by cases i <;> rfl
@[simp] theorem State.setLane_pending (s : State) (i : LaneId) (l : Lane) : (s.setLane i l).pending = s.pending := by cases i <;> rfl
@[simp] theorem State.on_pending (s : State) (i : LaneId) (f : Lane → Lane) : (s.on i f).pending = s.pending := by cases i <;> rfl
@[simp] theorem LaneId.other_other (i : LaneId) : i.other.other = i := by cases i <;> rfl
@[simp] theorem LaneId.other_ne (i : LaneId) : i.other ≠ i := by cases i <;> decide
@[simp] theorem LaneId.ne_other (i : LaneId) : i ≠ i.other := by cases i <;> decide
@[simp] theorem State.setLane_same (s : State) (i : LaneId) (l : Lane) : (s.setLane i l).lane i = l := by cases i <;> rfl
@[simp] theorem State.setLane_other (s : State) (i : LaneId) (l : Lane) : (s.setLane i l).lane i.other = s.lane i.other := by cases i <;> rfl
@[simp] theorem State.setLane_mine (s : State) (i : LaneId) (l : Lane) : (s.setLane i.other l).lane i = s.lane i := by cases i <;> rfl
@[simp] theorem State.on_same (s : State) (i : LaneId) (f : Lane → Lane) : (s.on i f).lane i = f (s.lane i) := by cases i <;> rfl
@[simp] theorem State.on_other (s : State) (i : LaneId) (f : Lane → Lane) : (s.on i f).lane i.other = s.lane i.other := by cases i <;> rfl
@[simp] theorem State.on_mine (s : State) (i : LaneId) (f : Lane → Lane) : (s.on i.other f).lane i = s.lane i := by cases i <;> rfl

/-- Replacing a lane by itself changes nothing. -/
theorem State.setLane_self (s : State) (i : LaneId) : s.setLane i (s.lane i) = s := by cases i <;> rfl

/-- Two states with the same lanes, base, time, free values and queue are one. -/
theorem State.eq_of_lanes {s t : State} (i : LaneId) (h1 : s.lane i = t.lane i) (h2 : s.lane i.other = t.lane i.other)
    (h3 : s.base = t.base) (h4 : s.now = t.now) (h5 : s.free = t.free) (h6 : s.pending = t.pending) : s = t := by
  cases s; cases t; cases i <;> simp_all [State.lane, LaneId.other]

end Sys2Proof.Machine
end

