-- ==== Sys2Proof/Laws/Regs.lean ====
section
/-! SUPPORT. Registers and fields of a lane: a read after a write, fields of one word, events and errors. -/

namespace Sys2Proof.Machine

@[simp] theorem Lane.rd_wr_same (l : Lane) (a : Nat) (w : Word) : (l.wr a w).rd a = w := Sparse.find_put_same resetWord l.regs a w

theorem Lane.rd_wr_ne (l : Lane) (a b : Nat) (w : Word) (h : a ≠ b) : (l.wr a w).rd b = l.rd b :=
  Sparse.find_put_ne resetWord l.regs a b w h

theorem Lane.rd_wr (l : Lane) (a b : Nat) (w : Word) : (l.wr a w).rd b = if a = b then w else l.rd b := by
  split
  · rename_i h; rw [← h, Lane.rd_wr_same]
  · rename_i h; exact Lane.rd_wr_ne l a b w h

/-- A register's word depends on the register map alone. -/
theorem Lane.rd_of_regs {l m : Lane} (h : l.regs = m.regs) (a : Nat) : l.rd a = m.rd a := by unfold Lane.rd; rw [h]

@[simp] theorem Lane.rd_putWin (l : Lane) (a b : Nat) (w : Word) : (l.putWin a w).rd b = l.rd b := rfl
@[simp] theorem Lane.rd_putImg (l : Lane) (o n v b : Nat) : (l.putImg o n v).rd b = l.rd b := rfl
@[simp] theorem Lane.rd_putDram (l : Lane) (o n v b : Nat) : (l.putDram o n v).rd b = l.rd b := rfl
@[simp] theorem Lane.rd_log1 (l : Lane) (t i c : Nat) (d : List (Nat × Nat)) (b : Nat) : (l.log1 t i c d).rd b = l.rd b :=
  Lane.rd_of_regs (Lane.log1_regs ..) b
@[simp] theorem Lane.rd_logEv (l : Lane) (p e o r b : Nat) : (l.logEv p e o r).rd b = l.rd b := Lane.rd_of_regs (Lane.logEv_regs ..) b

/-! ### Fields -/

theorem bits_lt (w : Word) (hi lo : Nat) : bits w hi lo < 2 ^ (hi - lo + 1) := Nat.mod_lt _ (Nat.two_pow_pos _)

/-- The bits of a word below, in and above a field make up the word. -/
theorem bits_split (w : Word) (hi lo : Nat) :
    w.toNat = w.toNat / 2 ^ lo / 2 ^ (hi - lo + 1) * 2 ^ (hi - lo + 1) * 2 ^ lo + bits w hi lo * 2 ^ lo + w.toNat % 2 ^ lo := by
  unfold bits
  have h1 := Nat.div_add_mod w.toNat (2 ^ lo)
  have h2 := Nat.div_add_mod (w.toNat / 2 ^ lo) (2 ^ (hi - lo + 1))
  have h3 : (w.toNat / 2 ^ lo / 2 ^ (hi - lo + 1) * 2 ^ (hi - lo + 1) + w.toNat / 2 ^ lo % 2 ^ (hi - lo + 1)) * 2 ^ lo =
      w.toNat / 2 ^ lo * 2 ^ lo := by
    congr 1
    rw [Nat.mul_comm] at h2
    exact h2
  rw [Nat.add_mul] at h3
  rw [h3, Nat.mul_comm]
  exact h1.symm

theorem withBits_toNat (w : Word) (hi lo v : Nat) (h : lo ≤ hi) (h31 : hi < 32) :
    (withBits w hi lo v).toNat =
      w.toNat / 2 ^ lo / 2 ^ (hi - lo + 1) * 2 ^ (hi - lo + 1) * 2 ^ lo + v % 2 ^ (hi - lo + 1) * 2 ^ lo + w.toNat % 2 ^ lo := by
  have hs := bits_split w hi lo
  have hv : v % 2 ^ (hi - lo + 1) < 2 ^ (hi - lo + 1) := Nat.mod_lt _ (Nat.two_pow_pos _)
  have hw : w.toNat < 2 ^ 32 := w.isLt
  have hr : w.toNat % 2 ^ lo < 2 ^ lo := Nat.mod_lt _ (Nat.two_pow_pos _)
  have hb := bits_lt w hi lo
  generalize hA : w.toNat / 2 ^ lo / 2 ^ (hi - lo + 1) = A at *
  generalize hB : bits w hi lo = B at *
  generalize hR : w.toNat % 2 ^ lo = R at *
  generalize hV : v % 2 ^ (hi - lo + 1) = V at *
  have e32 : 2 ^ 32 = 2 ^ (32 - hi - 1) * (2 ^ (hi - lo + 1) * 2 ^ lo) := by
    rw [← Nat.pow_add, ← Nat.pow_add]
    congr 1
    omega
  have hA' : A < 2 ^ (32 - hi - 1) := by
    rw [← hA, Nat.div_div_eq_div_mul, Nat.div_lt_iff_lt_mul (Nat.mul_pos (Nat.two_pow_pos _) (Nat.two_pow_pos _)), Nat.mul_comm (2 ^ lo),
      ← e32]
    exact hw
  have hfield : V * 2 ^ lo + R < 2 ^ (hi - lo + 1) * 2 ^ lo := by
    calc V * 2 ^ lo + R < V * 2 ^ lo + 2 ^ lo := by omega
      _ = (V + 1) * 2 ^ lo := by rw [Nat.add_mul, Nat.one_mul]
      _ ≤ 2 ^ (hi - lo + 1) * 2 ^ lo := Nat.mul_le_mul_right _ hv
  have hlt : A * 2 ^ (hi - lo + 1) * 2 ^ lo + V * 2 ^ lo + R < 2 ^ 32 := by
    rw [e32]
    calc A * 2 ^ (hi - lo + 1) * 2 ^ lo + V * 2 ^ lo + R < A * 2 ^ (hi - lo + 1) * 2 ^ lo + 2 ^ (hi - lo + 1) * 2 ^ lo := by omega
      _ = (A + 1) * (2 ^ (hi - lo + 1) * 2 ^ lo) := by rw [Nat.add_mul, Nat.one_mul, Nat.mul_assoc]
      _ ≤ 2 ^ (32 - hi - 1) * (2 ^ (hi - lo + 1) * 2 ^ lo) := Nat.mul_le_mul_right _ hA'
  unfold withBits word
  rw [BitVec.toNat_ofNat, hB, hV]
  have : w.toNat - B * 2 ^ lo + V * 2 ^ lo = A * 2 ^ (hi - lo + 1) * 2 ^ lo + V * 2 ^ lo + R := by omega
  rw [this, Nat.mod_eq_of_lt hlt]

/-- A field reads what was written to it, as far as it is wide. -/
theorem bits_withBits_same (w : Word) (hi lo v : Nat) (h : lo ≤ hi) (h31 : hi < 32) :
    bits (withBits w hi lo v) hi lo = v % 2 ^ (hi - lo + 1) := by
  unfold bits
  rw [withBits_toNat w hi lo v h h31]
  have hr : w.toNat % 2 ^ lo < 2 ^ lo := Nat.mod_lt _ (Nat.two_pow_pos _)
  have hv : v % 2 ^ (hi - lo + 1) < 2 ^ (hi - lo + 1) := Nat.mod_lt _ (Nat.two_pow_pos _)
  rw [← Nat.add_mul, Nat.mul_comm, Nat.mul_add_div (Nat.two_pow_pos _), Nat.div_eq_of_lt hr, Nat.add_zero, Nat.add_comm,
    Nat.add_mul_mod_self_right, Nat.mod_eq_of_lt hv]

/-- A field written leaves a field above it alone. -/
theorem bits_withBits_above (w : Word) (hi lo h2 l2 v : Nat) (h : lo ≤ hi) (h31 : hi < 32) (hd : hi < l2) :
    bits (withBits w hi lo v) h2 l2 = bits w h2 l2 := by
  have key : ∀ x : Nat, x / 2 ^ l2 = x / 2 ^ lo / 2 ^ (hi - lo + 1) / 2 ^ (l2 - hi - 1) := by
    intro x
    rw [Nat.div_div_eq_div_mul, Nat.div_div_eq_div_mul, ← Nat.pow_add, ← Nat.pow_add]
    congr 2
    omega
  unfold bits
  rw [withBits_toNat w hi lo v h h31, key, key w.toNat]
  congr 2
  have hr : w.toNat % 2 ^ lo < 2 ^ lo := Nat.mod_lt _ (Nat.two_pow_pos _)
  have hv : v % 2 ^ (hi - lo + 1) < 2 ^ (hi - lo + 1) := Nat.mod_lt _ (Nat.two_pow_pos _)
  rw [← Nat.add_mul, Nat.mul_comm, Nat.mul_add_div (Nat.two_pow_pos _), Nat.div_eq_of_lt hr, Nat.add_zero, Nat.mul_comm,
    Nat.mul_add_div (Nat.two_pow_pos _), Nat.div_eq_of_lt hv, Nat.add_zero]

/-- A field written leaves a field below it alone. -/
theorem bits_withBits_below (w : Word) (hi lo h2 l2 v : Nat) (h : lo ≤ hi) (h31 : hi < 32) (hd : h2 < lo) (h2' : l2 ≤ h2) :
    bits (withBits w hi lo v) h2 l2 = bits w h2 l2 := by
  have key : ∀ x : Nat, x / 2 ^ l2 % 2 ^ (h2 - l2 + 1) = x % 2 ^ lo / 2 ^ l2 % 2 ^ (h2 - l2 + 1) := by
    intro x
    have e : 2 ^ lo = 2 ^ l2 * 2 ^ (lo - l2) := by rw [← Nat.pow_add]; congr 1; omega
    rw [e, Nat.mod_mul_right_div_self, Nat.mod_mod_of_dvd]
    exact Nat.pow_dvd_pow 2 (by omega)
  unfold bits
  rw [key, key w.toNat, withBits_toNat w hi lo v h h31]
  congr 2
  rw [← Nat.add_mul, Nat.mul_comm, Nat.mul_add_mod, Nat.mod_mod]

theorem Lane.get_of_rd {l m : Lane} (f : Fld) (h : l.rd f.addr = m.rd f.addr) : l.get f = m.get f := by unfold Lane.get; rw [h]

theorem Lane.get_of_regs {l m : Lane} (f : Fld) (h : l.regs = m.regs) : l.get f = m.get f := Lane.get_of_rd f (Lane.rd_of_regs h _)

/-- A field of a register reads what was written to it. -/
theorem Lane.get_set_same (l : Lane) (f : Fld) (v : Nat) (h : f.lo ≤ f.hi) (h31 : f.hi < 32) :
    (l.set f v).get f = v % 2 ^ (f.hi - f.lo + 1) := by
  unfold Lane.get Lane.set
  rw [Lane.rd_wr_same, bits_withBits_same _ _ _ _ h h31]

/-- A field of another register is left alone. -/
theorem Lane.get_set_ne (l : Lane) (f g : Fld) (v : Nat) (h : f.addr ≠ g.addr) : (l.set f v).get g = l.get g := by
  unfold Lane.get Lane.set
  rw [Lane.rd_wr_ne _ _ _ _ h]

theorem Lane.rd_set_ne (l : Lane) (f : Fld) (v a : Nat) (h : f.addr ≠ a) : (l.set f v).rd a = l.rd a := Lane.rd_wr_ne l _ _ _ h
theorem Lane.rd_setB_ne (l : Lane) (f : Fld) (b : Bool) (a : Nat) (h : f.addr ≠ a) : (l.setB f b).rd a = l.rd a := Lane.rd_wr_ne l _ _ _ h
theorem Lane.rd_cnt_ne (l : Lane) (f : Fld) (n a : Nat) (h : f.addr ≠ a) : (l.cnt f n).rd a = l.rd a := Lane.rd_wr_ne l _ _ _ h
theorem Lane.rd_inc_ne (l : Lane) (b n a : Nat) (h : b ≠ a) : (l.inc b n).rd a = l.rd a := Lane.rd_wr_ne l _ _ _ h
theorem Lane.rd_ev_ne (l : Lane) (p b a : Nat) (h : instPage p * 0x1000 + 0x10 ≠ a) : (l.ev p b).rd a = l.rd a := Lane.rd_wr_ne l _ _ _ h

/-- Setting an event bit sets that bit of EV_PEND. -/
theorem Lane.rd_ev_same (l : Lane) (p b : Nat) :
    (l.ev p b).rd (instPage p * 0x1000 + 0x10) = l.rd (instPage p * 0x1000 + 0x10) ||| word (2 ^ b) := Lane.rd_wr_same ..

theorem word_two_pow_getLsbD (b k : Nat) (hb : b < 32) : (word (2 ^ b)).getLsbD k = decide (k = b) := by
  unfold word
  rw [BitVec.getLsbD_ofNat, Nat.testBit_two_pow]
  by_cases h : b = k
  · subst h; simp [hb]
  · simp [h, Ne.symm h]

/-- After an event its bit of EV_PEND is 1 (R24). -/
theorem Lane.ev_pending (l : Lane) (p b : Nat) (hb : b < 32) : ((l.ev p b).rd (instPage p * 0x1000 + 0x10)).getLsbD b = true := by
  rw [Lane.rd_ev_same, BitVec.getLsbD_or, word_two_pow_getLsbD b b hb]
  simp

/-- An event takes no bit of EV_PEND away. -/
theorem Lane.ev_keeps (l : Lane) (p b k : Nat) (h : (l.rd (instPage p * 0x1000 + 0x10)).getLsbD k = true) :
    ((l.ev p b).rd (instPage p * 0x1000 + 0x10)).getLsbD k = true := by
  rw [Lane.rd_ev_same, BitVec.getLsbD_or, h, Bool.true_or]

end Sys2Proof.Machine
end

