-- ==== Sys2Proof/Laws/Lines.lean ====
section
/-! SUPPORT. What the shared operations of the commands leave alone: what a lane sees of the other, a change of one lane, the
ledger's answers. -/

namespace Sys2Proof.Machine

/-! ### Bits of a word -/

/-- Bit by bit, a word with a field written. -/
theorem withBits_getLsbD (w : Word) (hi lo v k : Nat) (h : lo ≤ hi) (h31 : hi < 32) :
    (withBits w hi lo v).getLsbD k = if lo ≤ k ∧ k ≤ hi then v.testBit (k - lo) else w.getLsbD k := by
  have hr : w.toNat % 2 ^ lo < 2 ^ lo := Nat.mod_lt _ (Nat.two_pow_pos _)
  have hv : v % 2 ^ (hi - lo + 1) < 2 ^ (hi - lo + 1) := Nat.mod_lt _ (Nat.two_pow_pos _)
  have e : (withBits w hi lo v).toNat =
      2 ^ lo * (2 ^ (hi - lo + 1) * (w.toNat / 2 ^ lo / 2 ^ (hi - lo + 1)) + v % 2 ^ (hi - lo + 1)) + w.toNat % 2 ^ lo := by
    rw [withBits_toNat w hi lo v h h31, Nat.mul_add]
    congr 2
    · rw [Nat.mul_comm (2 ^ lo), Nat.mul_comm (2 ^ (hi - lo + 1))]
    · rw [Nat.mul_comm]
  rw [BitVec.getLsbD, e, Nat.testBit_two_pow_mul_add _ hr, Nat.testBit_two_pow_mul_add _ hv]
  by_cases h1 : k < lo
  · have h2 : ¬(lo ≤ k ∧ k ≤ hi) := by omega
    rw [if_pos h1, if_neg h2, BitVec.getLsbD, Nat.testBit_mod_two_pow]
    simp [h1]
  · rw [if_neg h1]
    by_cases h2 : k - lo < hi - lo + 1
    · have h3 : lo ≤ k ∧ k ≤ hi := by omega
      rw [if_pos h2, if_pos h3, Nat.testBit_mod_two_pow]
      simp [h2]
    · have h3 : ¬(lo ≤ k ∧ k ≤ hi) := by omega
      rw [if_neg h2, if_neg h3, BitVec.getLsbD, Nat.testBit_div_two_pow, Nat.testBit_div_two_pow]
      congr 1
      omega

/-- A field written inside a mask leaves the bits outside the mask alone. -/
theorem withBits_mask (w m : Word) (hi lo v : Nat) (h : lo ≤ hi) (h31 : hi < 32) (hm : ∀ k, lo ≤ k → k ≤ hi → m.getLsbD k = true) :
    withBits w hi lo v &&& ~~~m = w &&& ~~~m := by
  apply BitVec.eq_of_getLsbD_eq
  intro k hk
  rw [BitVec.getLsbD_and, BitVec.getLsbD_and, BitVec.getLsbD_not, withBits_getLsbD w hi lo v k h h31]
  by_cases h1 : lo ≤ k ∧ k ≤ hi
  · simp [hm k h1.1 h1.2]
  · rw [if_neg h1]

/-- A field outside a mask reads the same in words that agree outside the mask. -/
theorem bits_mask (w x m : Word) (hi lo : Nat) (hl : lo ≤ hi) (hm : ∀ k, lo ≤ k → k ≤ hi → m.getLsbD k = false) (h : w &&& ~~~m = x &&& ~~~m) :
    bits w hi lo = bits x hi lo := by
  unfold bits
  apply Nat.eq_of_testBit_eq
  intro k
  rw [Nat.testBit_mod_two_pow, Nat.testBit_mod_two_pow, Nat.testBit_div_two_pow, Nat.testBit_div_two_pow]
  by_cases hk : k < hi - lo + 1
  · by_cases h32 : k + lo < 32
    · have hb := congrArg (fun z => BitVec.getLsbD z (k + lo)) h
      simp only [BitVec.getLsbD_and, BitVec.getLsbD_not, hm (k + lo) (by omega) (by omega), h32] at hb
      simp only [Bool.not_false, Bool.and_true, decide_true] at hb
      simpa [BitVec.getLsbD, hk] using hb
    · have h1 : w.toNat.testBit (k + lo) = false := Nat.testBit_lt_two_pow (Nat.lt_of_lt_of_le w.isLt (Nat.pow_le_pow_right (by omega) (by omega)))
      have h2 : x.toNat.testBit (k + lo) = false := Nat.testBit_lt_two_pow (Nat.lt_of_lt_of_le x.isLt (Nat.pow_le_pow_right (by omega) (by omega)))
      rw [h1, h2]
  · simp [hk]

/-! ### Likeness of lanes -/

theorem Lane.Like.refl (l : Lane) (rs : List Nat) : l.Like l rs := ⟨rfl, fun _ _ => rfl⟩

theorem Lane.Like.trans {l m n : Lane} {rs ss : List Nat} (h : l.Like m rs) (k : m.Like n ss) : l.Like n (rs ++ ss) :=
  ⟨h.1.trans k.1, fun a ha => (h.2 a (fun x => ha (List.mem_append_left _ x))).trans (k.2 a (fun x => ha (List.mem_append_right _ x)))⟩

theorem Lane.Like.mono {l m : Lane} {rs ss : List Nat} (h : l.Like m rs) (k : ∀ a ∈ rs, a ∈ ss) : l.Like m ss :=
  ⟨h.1, fun a ha => h.2 a (fun x => ha (k a x))⟩

/-- A field that no lane's sight changes reads alike. -/
theorem Lane.Like.get {l m : Lane} {rs : List Nat} (h : l.Like m rs) (f : Fld) (hf : f.addr ∉ rs) (hl : f.lo ≤ f.hi)
    (hm : ∀ k, f.lo ≤ k → k ≤ f.hi → (sightMask f.addr).getLsbD k = false) : l.get f = m.get f :=
  bits_mask _ _ _ _ _ hl hm (h.2 _ hf)

theorem Lane.Like.rd {l m : Lane} {rs : List Nat} (h : l.Like m rs) (a : Nat) (ha : a ∉ rs) (hm : sightMask a = 0#32) : l.rd a = m.rd a := by
  have := h.2 a ha
  have e : ∀ w : Word, w &&& ~~~(0#32) = w := fun w => by rw [BitVec.not_zero, BitVec.and_allOnes]
  rwa [hm, e, e] at this

/-- Words that agree outside the sight mask, after a field inside the mask is set. -/
theorem Lane.set_sight (l m : Lane) (f : Fld) (v : Nat) (h : f.lo ≤ f.hi) (h31 : f.hi < 32)
    (hm : ∀ k, f.lo ≤ k → k ≤ f.hi → (sightMask f.addr).getLsbD k = true)
    (hl : ∀ a, l.rd a &&& ~~~(sightMask a) = m.rd a &&& ~~~(sightMask a)) (a : Nat) :
    (l.set f v).rd a &&& ~~~(sightMask a) = m.rd a &&& ~~~(sightMask a) := by
  by_cases ha : f.addr = a
  · subst ha
    rw [Lane.set, Lane.rd_wr_same, withBits_mask _ _ _ _ _ h h31 hm]
    exact hl _
  · rw [Lane.rd_set_ne _ _ _ _ ha]
    exact hl a

/-! ### What register updates leave of a lane -/

@[simp] theorem Lane.inner_wr (l : Lane) (a : Nat) (w : Word) : (l.wr a w).inner = l.inner := (rfl)
@[simp] theorem Lane.inner_set (l : Lane) (f : Fld) (v : Nat) : (l.set f v).inner = l.inner := (rfl)
@[simp] theorem Lane.inner_setB (l : Lane) (f : Fld) (b : Bool) : (l.setB f b).inner = l.inner := (rfl)
@[simp] theorem Lane.inner_cnt (l : Lane) (f : Fld) (n : Nat) : (l.cnt f n).inner = l.inner := (rfl)
@[simp] theorem Lane.inner_inc (l : Lane) (a n : Nat) : (l.inc a n).inner = l.inner := (rfl)
@[simp] theorem Lane.inner_set64 (l : Lane) (a b v : Nat) : (l.set64 a b v).inner = l.inner := (rfl)
@[simp] theorem Lane.inner_ev (l : Lane) (p b : Nat) : (l.ev p b).inner = l.inner := (rfl)
@[simp] theorem Lane.inner_errAt (l : Lane) (p c s a : Nat) (d : Bool) : (l.errAt p c s a d).inner = l.inner := by
  unfold Lane.errAt
  dsimp only
  split <;> simp only [Lane.inner_ev, Lane.inner_wr, Lane.inner_setB, Lane.inner_set]
@[simp] theorem Lane.inner_err (l : Lane) (p c s a : Nat) : (l.err p c s a).inner = l.inner := by rw [Lane.err, Lane.inner_errAt]

theorem Lane.inner_up (l : Lane) (x y : Option Nat) : Lane.inner { l with pair := { l.pair with upSince := x, upAll := y } } = l.inner := (rfl)
theorem Lane.inner_oth (l : Lane) (x : Nat) : Lane.inner { l with pip := { l.pip with othId := x } } = l.inner := (rfl)

/-! ### Sight -/

/-- `Lane.Like` with no register excepted, as its two halves. -/
theorem Lane.like_nil {m l : Lane} : m.Like l [] ↔ m.inner = l.inner ∧ ∀ a, m.rd a &&& ~~~(sightMask a) = l.rd a &&& ~~~(sightMask a) :=
  ⟨fun h => ⟨h.1, fun a => h.2 a (by simp)⟩, fun h => ⟨h.1, fun a _ => h.2 a⟩⟩

theorem Lane.Like.set_sight {m l : Lane} (h : m.Like l []) (f : Fld) (v : Nat) (hl : f.lo ≤ f.hi) (h31 : f.hi < 32)
    (hm : ∀ k, f.lo ≤ k → k ≤ f.hi → (sightMask f.addr).getLsbD k = true) : (m.set f v).Like l [] :=
  Lane.like_nil.mpr ⟨(Lane.inner_set m f v).trans h.1, Lane.set_sight m l f v hl h31 hm (Lane.like_nil.mp h).2⟩

theorem Lane.Like.setB_sight {m l : Lane} (h : m.Like l []) (f : Fld) (b : Bool) (hl : f.lo ≤ f.hi) (h31 : f.hi < 32)
    (hm : ∀ k, f.lo ≤ k → k ≤ f.hi → (sightMask f.addr).getLsbD k = true) : (m.setB f b).Like l [] := h.set_sight f _ hl h31 hm

theorem sight_bits (f : Fld) (h31 : f.hi < 32) (h : ∀ k < 32, f.lo ≤ k → k ≤ f.hi → (sightMask f.addr).getLsbD k = true) :
    ∀ k, f.lo ≤ k → k ≤ f.hi → (sightMask f.addr).getLsbD k = true := fun k h1 h2 => h k (by omega) h1 h2

theorem sight_free (f : Fld) (h31 : f.hi < 32) (h : ∀ k < 32, f.lo ≤ k → k ≤ f.hi → (sightMask f.addr).getLsbD k = false) :
    ∀ k, f.lo ≤ k → k ≤ f.hi → (sightMask f.addr).getLsbD k = false := fun k h1 h2 => h k (by omega) h1 h2

theorem sight_OTHER_STATE : ∀ k, F.SYS_STATE.OTHER_STATE.lo ≤ k → k ≤ F.SYS_STATE.OTHER_STATE.hi → (sightMask F.SYS_STATE.OTHER_STATE.addr).getLsbD k = true :=
  sight_bits _ (by decide) (by decide)
theorem sight_COMPAT : ∀ k, F.PAIR_COMPAT.OTHER.lo ≤ k → k ≤ F.PAIR_COMPAT.OTHER.hi → (sightMask F.PAIR_COMPAT.OTHER.addr).getLsbD k = true :=
  sight_bits _ (by decide) (by decide)
theorem sight_EXCH : ∀ k, F.LOGIC_EXCH_STAT.OTHER.lo ≤ k → k ≤ F.LOGIC_EXCH_STAT.OTHER.hi → (sightMask F.LOGIC_EXCH_STAT.OTHER.addr).getLsbD k = true :=
  sight_bits _ (by decide) (by decide)
theorem sight_LOAD : ∀ k, F.SAFE_LOAD_STAT.OTHER.lo ≤ k → k ≤ F.SAFE_LOAD_STAT.OTHER.hi → (sightMask F.SAFE_LOAD_STAT.OTHER.addr).getLsbD k = true :=
  sight_bits _ (by decide) (by decide)
theorem sight_PRESENT : ∀ k, F.PAIR_STAT.OTHER_PRESENT.lo ≤ k → k ≤ F.PAIR_STAT.OTHER_PRESENT.hi → (sightMask F.PAIR_STAT.OTHER_PRESENT.addr).getLsbD k = true :=
  sight_bits _ (by decide) (by decide)
theorem sight_LINK : ∀ k, F.PAIR_STAT.LINK.lo ≤ k → k ≤ F.PAIR_STAT.LINK.hi → (sightMask F.PAIR_STAT.LINK.addr).getLsbD k = true :=
  sight_bits _ (by decide) (by decide)
theorem sight_PRIMACY : ∀ k, F.SYS_STATE.PRIMACY.lo ≤ k → k ≤ F.SYS_STATE.PRIMACY.hi → (sightMask F.SYS_STATE.PRIMACY.addr).getLsbD k = true :=
  sight_bits _ (by decide) (by decide)
theorem sight_PRIM : ∀ k, F.PAIR_STAT.PRIMACY.lo ≤ k → k ≤ F.PAIR_STAT.PRIMACY.hi → (sightMask F.PAIR_STAT.PRIMACY.addr).getLsbD k = true :=
  sight_bits _ (by decide) (by decide)
theorem sight_EJECT : ∀ k, F.PAIR_STAT.EJECT_SAFE.lo ≤ k → k ≤ F.PAIR_STAT.EJECT_SAFE.hi → (sightMask F.PAIR_STAT.EJECT_SAFE.addr).getLsbD k = true :=
  sight_bits _ (by decide) (by decide)
theorem sight_SEATED : ∀ k, F.SYS_ROLE.OTHER_SEATED.lo ≤ k → k ≤ F.SYS_ROLE.OTHER_SEATED.hi → (sightMask F.SYS_ROLE.OTHER_SEATED.addr).getLsbD k = true :=
  sight_bits _ (by decide) (by decide)
theorem sight_RELAY : ∀ k, F.HOST_TR_STAT.RELAY.lo ≤ k → k ≤ F.HOST_TR_STAT.RELAY.hi → (sightMask F.HOST_TR_STAT.RELAY.addr).getLsbD k = true :=
  sight_bits _ (by decide) (by decide)

theorem Lane.Like.seeLink {m l : Lane} (h : m.Like l []) (o : Lane) (now : Nat) : (m.seeLink o now).Like l [] := by
  have h0 := h.set_sight F.PAIR_STAT.LINK ((m.get F.PAIR_STAT.LINK).land (o.get F.PAIR_STAT.LINK)) (by decide) (by decide) sight_LINK
  exact Lane.like_nil.mpr ⟨(Lane.inner_up _ _ _).trans h0.1, (Lane.like_nil.mp h0).2⟩

theorem Lane.Like.seeOther {m l : Lane} (h1 : m.Like l []) (o : Lane) : (m.seeOther o).Like l [] := by
  unfold Lane.seeOther
  split
  · have h := (((h1.set_sight F.SYS_STATE.OTHER_STATE o.st.code (by decide) (by decide) sight_OTHER_STATE).set_sight F.PAIR_COMPAT.OTHER
      (o.get F.PAIR_COMPAT.OWN) (by decide) (by decide) sight_COMPAT).set_sight F.LOGIC_EXCH_STAT.OTHER (o.get F.LOGIC_EXCH_STAT.OWN)
      (by decide) (by decide) sight_EXCH).set_sight F.SAFE_LOAD_STAT.OTHER (o.get F.SAFE_LOAD_STAT.OWN) (by decide) (by decide) sight_LOAD
    exact Lane.like_nil.mpr ⟨(Lane.inner_oth _ _).trans h.1, (Lane.like_nil.mp h).2⟩
  · split
    · exact h1.set_sight _ _ (by decide) (by decide) sight_OTHER_STATE
    · exact h1

theorem Lane.Like.seeBase {m l : Lane} (h : m.Like l []) (o : Lane) (p r : Bool) : (m.seeBase o p r).Like l [] :=
  (((((h.setB_sight F.PAIR_STAT.OTHER_PRESENT _ (by decide) (by decide) sight_PRESENT).setB_sight F.SYS_STATE.PRIMACY _ (by decide) (by decide)
    sight_PRIMACY).setB_sight F.PAIR_STAT.PRIMACY _ (by decide) (by decide) sight_PRIM).setB_sight F.SYS_ROLE.OTHER_SEATED _ (by decide) (by decide)
    sight_SEATED).setB_sight F.HOST_TR_STAT.RELAY _ (by decide) (by decide) sight_RELAY).setB_sight F.PAIR_STAT.EJECT_SAFE _ (by decide) (by decide)
    sight_EJECT

/-- What a lane sees of the other and of the base changes nothing else of it. -/
theorem Lane.see_like (l o : Lane) (p r : Bool) (now : Nat) : (l.see o p r now).Like l [] :=
  (((Lane.Like.refl l []).seeLink o now).seeOther o).seeBase o p r

/-- `State.lines` changes only what the lanes see. -/
theorem State.lines_like (s : State) (i : LaneId) : (s.lines.lane i).Like (s.lane i) [] := by
  cases i <;> exact Lane.see_like _ _ _ _ _

@[simp] theorem State.lines_now (s : State) : s.lines.now = s.now := (rfl)
@[simp] theorem State.lines_free (s : State) : s.lines.free = s.free := (rfl)
@[simp] theorem State.lines_pending (s : State) : s.lines.pending = s.pending := (rfl)
theorem State.lines_base (s : State) : s.lines.base = { s.base with relays := s.lines.base.relays } := (rfl)

/-- A lane that has become `m` and no more, with what the lanes then see. -/
theorem State.makes_lines (s : State) (i : LaneId) (m : Lane) : s.Makes (s.setLane i m).lines i m [] := by
  refine ⟨?_, ?_, ?_, ?_, ?_, ?_⟩
  · have := (s.setLane i m).lines_like i
    rwa [State.setLane_same] at this
  · have := (s.setLane i m).lines_like i.other
    rwa [State.setLane_other] at this
  · rw [State.lines_base, State.setLane_base]
  · simp
  · simp
  · simp

/-- The change of a lane that keeps its state. -/
theorem State.leave_makes (s : State) (i : LaneId) (f : Lane → Lane) (h : (f (s.lane i)).st = (s.lane i).st) :
    s.Makes (s.leave i f) i (f (s.lane i)) [] := by
  have e : s.leave i f = (s.setLane i (f (s.lane i))).lines := by
    unfold State.leave
    dsimp only
    rw [h, if_neg (by simp), if_neg (by intro x; exact x.2.1 x.1)]
  rw [e]
  exact s.makes_lines i _

/-- With no answer of the ledger waiting there is nothing to settle. -/
theorem Lane.settle_calm (l : Lane) (now : Nat) (h : l.ledger.news = []) : l.settle now = l := by
  show settleAll now 8 l = l
  rw [settleAll, h]

/-- What happens in a live lane's hardware, where it leaves the lane's state alone and asks nothing of the ledger. -/
theorem State.act_makes (s : State) (i : LaneId) (f : Lane → Lane) (hv : (s.lane i).sup.valid = true)
    (hn : (f (s.lane i)).ledger.news = []) (h : (f (s.lane i)).st = (s.lane i).st) : s.Makes (s.act i f) i (f (s.lane i)) [] := by
  have e : (f (s.lane i)).settle s.now = f (s.lane i) := Lane.settle_calm _ _ hn
  have := s.leave_makes i (fun l => (f l).settle s.now) (by show ((f (s.lane i)).settle s.now).st = _; rw [e, h])
  unfold State.act
  rw [if_pos hv]
  rwa [e] at this

theorem State.actIn_makes (s : State) (i : LaneId) (p : Nat) (f : Lane → Lane) (hv : (s.lane i).sup.valid = true)
    (he : (s.lane i).flag (F.BLK_CTRL.ENABLE (instPage p)) = true) (hn : (f (s.lane i)).ledger.news = [])
    (h : (f (s.lane i)).st = (s.lane i).st) : s.Makes (s.actIn i p f) i (f (s.lane i)) [] := by
  unfold State.actIn
  rw [if_pos he]
  exact s.act_makes i f hv hn h

/-- A lane's state is a field of SYS_STATE. -/
theorem Lane.st_of_get {l m : Lane} (h : l.get F.SYS_STATE.LANE_STATE = m.get F.SYS_STATE.LANE_STATE) : l.st = m.st := by
  unfold Lane.st
  rw [h]

/-! ### The state of a lane under register updates -/

theorem Lane.st_wr (l : Lane) (a : Nat) (w : Word) (h : a ≠ Reg.SYS_STATE) : (l.wr a w).st = l.st :=
  Lane.st_of_get (Lane.get_of_rd _ (Lane.rd_wr_ne l a _ w h))

theorem Lane.st_set (l : Lane) (f : Fld) (v : Nat) (h : f.addr ≠ Reg.SYS_STATE) : (l.set f v).st = l.st := Lane.st_wr l _ _ h
theorem Lane.st_setB (l : Lane) (f : Fld) (b : Bool) (h : f.addr ≠ Reg.SYS_STATE) : (l.setB f b).st = l.st := Lane.st_wr l _ _ h
theorem Lane.st_cnt (l : Lane) (f : Fld) (n : Nat) (h : f.addr ≠ Reg.SYS_STATE) : (l.cnt f n).st = l.st := Lane.st_wr l _ _ h
theorem Lane.st_inc (l : Lane) (a n : Nat) (h : a ≠ Reg.SYS_STATE) : (l.inc a n).st = l.st := Lane.st_wr l _ _ h
@[simp] theorem Lane.st_ev (l : Lane) (p b : Nat) : (l.ev p b).st = l.st := Lane.st_wr l _ _ (by unfold Reg.SYS_STATE; omega)
@[simp] theorem Lane.st_errAt (l : Lane) (p c x a : Nat) (d : Bool) : (l.errAt p c x a d).st = l.st := by
  have hc : ∀ q, (F.ERR_CODE.COUNT q).addr ≠ Reg.SYS_STATE := fun q => by show 0x1000 * q + 0x20 ≠ 0x44; omega
  have h1 : ∀ q, (F.ERR_CODE.CODE q).addr ≠ Reg.SYS_STATE := hc
  have h2 : ∀ q, (F.ERR_CODE.SOURCE q).addr ≠ Reg.SYS_STATE := hc
  have h3 : ∀ q, (F.ERR_CODE.DRAM q).addr ≠ Reg.SYS_STATE := hc
  have h4 : ∀ q, Reg.ERR_ADDR q ≠ Reg.SYS_STATE := fun q => by show 0x1000 * q + 0x24 ≠ 0x44; omega
  unfold Lane.errAt
  dsimp only
  split
  · rw [Lane.st_ev, Lane.st_wr _ _ _ (h4 _), Lane.st_setB _ _ _ (h3 _), Lane.st_set _ _ _ (h2 _), Lane.st_set _ _ _ (h1 _), Lane.st_set _ _ _ (hc _)]
  · rw [Lane.st_set _ _ _ (hc _)]
@[simp] theorem Lane.st_err (l : Lane) (p c x a : Nat) : (l.err p c x a).st = l.st := by rw [Lane.err, Lane.st_errAt]
@[simp] theorem Lane.st_log1 (l : Lane) (t i c : Nat) (d : List (Nat × Nat)) : (l.log1 t i c d).st = l.st :=
  Lane.st_of_get (Lane.get_of_regs _ (Lane.log1_regs ..))
@[simp] theorem Lane.st_logEv (l : Lane) (p b o r : Nat) : (l.logEv p b o r).st = l.st :=
  Lane.st_of_get (Lane.get_of_regs _ (Lane.logEv_regs ..))

/-! ### Commands that change one lane -/

/-- `State.act_makes` with the lane it makes given. -/
theorem State.act_to (s : State) (i : LaneId) (f : Lane → Lane) (m : Lane) (hv : (s.lane i).sup.valid = true) (hf : f (s.lane i) = m)
    (hn : m.ledger.news = []) (h : m.st = (s.lane i).st) : s.Makes (s.act i f) i m [] := by
  subst hf
  exact s.act_makes i f hv hn h

theorem State.actIn_to (s : State) (i : LaneId) (p : Nat) (f : Lane → Lane) (m : Lane) (hv : (s.lane i).sup.valid = true)
    (he : (s.lane i).flag (F.BLK_CTRL.ENABLE (instPage p)) = true) (hf : f (s.lane i) = m) (hn : m.ledger.news = [])
    (h : m.st = (s.lane i).st) : s.Makes (s.actIn i p f) i m [] := by
  subst hf
  exact s.actIn_makes i p f hv he hn h

theorem MakesLane.act {c : Instr} {s : State} {i : LaneId} {f : Lane → Lane} {m : Lane} (h : exec c s = .next (s.act i f)) (hs : s.live i)
    (hf : f (s.lane i) = m) (hn : m.ledger.news = (s.lane i).ledger.news) (hst : m.st = (s.lane i).st) : MakesLane c s i m :=
  ⟨_, h, s.act_to i f m hs.1 hf (hn.trans hs.2) hst⟩

theorem MakesLane.actIn {c : Instr} {s : State} {i : LaneId} {p : Nat} {f : Lane → Lane} {m : Lane} (h : exec c s = .next (s.actIn i p f))
    (hs : s.works i p) (hf : f (s.lane i) = m) (hn : m.ledger.news = (s.lane i).ledger.news) (hst : m.st = (s.lane i).st) : MakesLane c s i m :=
  ⟨_, h, s.actIn_to i p f m hs.1.1 hs.2 hf (hn.trans hs.1.2) hst⟩

end Sys2Proof.Machine
end

