-- ==== Sys2Proof/Laws/Access.lean ====
section
/-! SUPPORT. A served 32-bit write of a register: what of it enters the mirror set, and what it does at once. -/

namespace Sys2Proof.Machine

theorem dataWord_self (w : Word) : dataWord w.toNat 0 = w := by
  unfold dataWord word
  simp

/-- The state once the checks of a served access have stepped its key. -/
def State.keyed (s : State) (acc : Acc) (addr : Nat) (lock : Option Nat) : State :=
  s.on acc.lane (fun l => l.keyStep acc.seat.val (addr / 0x1000) s.now lock)

theorem State.judge_served (s : State) (acc : Acc) (addr : Nat) (w : Word) (h : s.serves acc addr 4 true w.toNat) (ha : addr < 0x1000000)
    (hb : (blkOf (addr / 0x1000)).isSome = true) :
    s.judge acc addr 4 true w.toNat =
      (none, s.keyed acc addr (if addr % 0x1000 = 0x028 then some (w.toNat % 2 ^ 16) else none)) := by
  obtain ⟨hv, h0, h1, h2, h3⟩ := h
  unfold State.judge State.keyed State.keyMove
  simp only [h0, hv, h1, h2, h3, ha, hb, false_or, Bool.true_eq_false, ite_false, Bool.false_eq_true, true_and, and_self, ite_true]

/-- What a served 32-bit register write does before its answer: the register's own effect, then the entry of what it mirrors. -/
def State.wrote (s : State) (acc : Acc) (addr : Nat) (w : Word) : State :=
  match (s.lane acc.lane).mirPart addr w with
  | none => s.writeReg acc addr w
  | some p => (s.writeReg acc addr w).on acc.lane (fun l => l.mirrorIn acc (mirPayload (decide (acc.path = .pcie)) [p]))

theorem State.doWrite_reg (s : State) (acc : Acc) (addr : Nat) (w : Word) (ha : addr < 0x1000000) :
    s.doWrite acc addr 4 w.toNat =
      (let n := (s.lane acc.lane).pair.oseq
       let s2 := s.wrote acc addr w
       let s3 := if n < (s2.lane acc.lane).pair.oseq then s2.on acc.lane (fun l => l.applyIdle (s2.prime acc.lane) s.now) else s2
       let s4 := s3.on acc.lane (fun l => l.settle s.now)
       (if n < (s4.lane acc.lane).pair.oseq ∧ (s4.lane acc.lane).runs = true then .pending else .done, s4)) := by
  have hd : ¬ (0x1000000000 ≤ addr) := by omega
  have hw : addr < 0x1000000000 := by omega
  have e1 : ([(addr, 4, w.toNat)] : List (Nat × Nat × Nat)).filter (fun x => decide (0x1000000000 ≤ x.1)) = [] := by
    simp [hd]
  have e2 : ((([(addr, 4, w.toNat)] : List (Nat × Nat × Nat)).filter (fun x => decide (x.1 < 0x1000000000))).map (fun x =>
      (List.range (x.2.1 / 4)).map (fun k => (x.1 + 4 * k, dataWord x.2.2 k)))).flatten = [(addr, w)] := by
    simp [hw, dataWord_self]
  unfold State.doWrite State.doWrites State.wrote
  simp only [e1, e2, List.foldl_nil, List.foldl_cons, ha, if_true]
  cases hm : (s.lane acc.lane).mirPart addr w <;> simp [hm]

/-- A 32-bit write of a register by a seat: as the checks say, else its effect and its answer. -/
theorem State.put_served (s : State) (acc : Acc) (addr : Nat) (w : Word) (h : s.serves acc addr 4 true w.toNat) (ha : addr < 0x1000000)
    (hb : (blkOf (addr / 0x1000)).isSome = true) :
    s.put acc addr w =
      (let r := (s.keyed acc addr (if addr % 0x1000 = 0x028 then some (w.toNat % 2 ^ 16) else none)).doWrite acc addr 4 w.toNat
       (r.2.on acc.lane (fun l => l.reply acc.seat.val r.1)).lines) := by
  have hn : ¬ (splits acc addr 4 = true ∧ (s.lane acc.lane).waits acc true = false) := by
    unfold splits
    simp only [decide_eq_true_eq]
    omega
  unfold State.put State.answer State.access
  rw [if_neg hn]
  unfold State.access1
  rw [s.judge_served acc addr w h ha hb]
  rfl

/-! ### Mirrored writes -/

theorem Lane.runs_of_rd {l m : Lane} (h : l.rd Reg.SYS_STATE = m.rd Reg.SYS_STATE) (k : l.rd Reg.CYCLE_STAT = m.rd Reg.CYCLE_STAT) : l.runs = m.runs := by
  have h1 : l.get F.SYS_STATE.LANE_STATE = m.get F.SYS_STATE.LANE_STATE := Lane.get_of_rd _ h
  have h2 : l.get F.CYCLE_STAT.RUN = m.get F.CYCLE_STAT.RUN := Lane.get_of_rd _ k
  unfold Lane.runs Lane.drives Lane.running Lane.flag Lane.st
  rw [h1, h2]

theorem Lane.runs_of_regs {l m : Lane} (h : l.regs = m.regs) : l.runs = m.runs := Lane.runs_of_rd (Lane.rd_of_regs h _) (Lane.rd_of_regs h _)

theorem Lane.cycN_of_regs {l m : Lane} (h : l.regs = m.regs) : l.cycN = m.cycN := by
  unfold Lane.cycN Lane.get64
  rw [Lane.rd_of_regs h, Lane.rd_of_regs h]

theorem Lane.self_of_regs {l m : Lane} (h : l.regs = m.regs) : l.self = m.self := by
  unfold Lane.self Lane.num
  rw [Lane.get_of_regs _ h]

/-- The registers in which a lane counts what it enters. -/
theorem Lane.enterBy_like (l : Lane) (b : Bool) (pay : Payload) (seat : Option Nat) (key : Nat) :
    let e : Entry := ⟨l.cycN + 2, l.pair.oseq, pay.kind, l.self, seat, key, pay, b⟩
    (l.enterBy b pay seat key).Like (l.accepts e) [Reg.PAIR_MIR_COUNT, Reg.PAIR_MIR_PEAK] ∧
      (l.enterBy b pay seat key).get F.PAIR_MIR_COUNT.ENTRIES = min (l.get F.PAIR_MIR_COUNT.ENTRIES + 1) (2 ^ 32 - 1) ∧
      (l.enterBy b pay seat key).get F.PAIR_MIR_PEAK.BYTES = max (l.get F.PAIR_MIR_PEAK.BYTES) (l.pair.bytes + e.bytes.length) % 2 ^ 32 := by
  intro e
  refine ⟨⟨rfl, ?_⟩, ?_, ?_⟩
  · intro a ha
    have h1 : Reg.PAIR_MIR_COUNT ≠ a := fun x => ha (by simp [x])
    have h2 : Reg.PAIR_MIR_PEAK ≠ a := fun x => ha (by simp [x])
    have : (l.enterBy b pay seat key).rd a = l.rd a := by
      show Lane.rd (Lane.set (Lane.cnt l _ _) _ _) a = _
      rw [Lane.rd_set_ne _ _ _ _ h2, Lane.rd_cnt_ne _ _ _ _ h1]
    rw [this]
    rfl
  · show Lane.get (Lane.set (Lane.cnt l _ _) _ _) _ = _
    rw [Lane.get_set_ne _ _ _ _ (by decide), Lane.cnt, Lane.get_set_same _ _ _ (by decide) (by decide)]
    have e1 : F.PAIR_MIR_COUNT.ENTRIES.hi - F.PAIR_MIR_COUNT.ENTRIES.lo + 1 = 32 := rfl
    rw [e1, Nat.mod_eq_of_lt]
    omega
  · show Lane.get (Lane.set (Lane.cnt l _ _) _ _) _ = _
    rw [Lane.get_set_same _ _ _ (by decide) (by decide)]
    have e1 : (l.cnt F.PAIR_MIR_COUNT.ENTRIES 1).get F.PAIR_MIR_PEAK.BYTES = l.get F.PAIR_MIR_PEAK.BYTES := by
      rw [Lane.cnt, Lane.get_set_ne _ _ _ _ (by decide)]
    rw [e1]
    rfl

/-- A served write whose register does nothing at once, on a lane that computes cycles: it enters the mirror set. -/
theorem State.put_enters (s : State) (acc : Acc) (addr : Nat) (w : Word) (p : Nat × Word × Word)
    (h : s.serves acc addr 4 true w.toNat) (ha : addr < 0x1000000) (hb : (blkOf (addr / 0x1000)).isSome = true)
    (hl : addr % 0x1000 ≠ 0x028) (hr : (s.lane acc.lane).runs = true) (hc : s.calm acc.lane)
    (hw : ∀ t : State, t.writeReg acc addr w = t) (hm : ∀ l : Lane, l.mirPart addr w = some p)
    (hk : (mirPayload (decide (acc.path = .pcie)) [p]).kind = 5 ∨ (mirPayload (decide (acc.path = .pcie)) [p]).kind = 6) :
    s.entersWrite (s.put acc addr w) acc addr (mirPayload (decide (acc.path = .pcie)) [p]) := by
  obtain ⟨i, seat, path, seq⟩ := acc
  generalize hacc : (⟨i, seat, path, seq⟩ : Acc) = acc at *
  have hi : acc.lane = i := by rw [← hacc]
  rw [s.put_served acc addr w h ha hb, if_neg hl]
  generalize hq : s.keyed acc addr none = q
  have hql : q.lane acc.lane = (s.lane acc.lane).keyStep acc.seat.val (addr / 0x1000) s.now none := by rw [← hq]; exact State.on_same ..
  have hqo : q.lane acc.lane.other = s.lane acc.lane.other := by rw [← hq]; exact State.on_other ..
  have hqb : q.base = s.base := by rw [← hq]; exact State.on_base ..
  have hqn : q.now = s.now := by rw [← hq]; exact State.on_now ..
  have hqf : q.free = s.free := by rw [← hq]; exact State.on_free ..
  have hqp : q.pending = s.pending := by rw [← hq]; exact State.on_pending ..
  rw [State.doWrite_reg q acc addr w ha]
  have hwr : q.wrote acc addr w = q.on acc.lane (fun l => l.mirrorIn acc (mirPayload (decide (acc.path = .pcie)) [p])) := by
    unfold State.wrote
    rw [hm, hw]
  have hkey : ∀ l : Lane, l.mirrorIn acc (mirPayload (decide (acc.path = .pcie)) [p]) =
      l.enterBy (decide (acc.path = .pcie)) (mirPayload (decide (acc.path = .pcie)) [p]) (some acc.seat.val) (l.accKey acc) := by
    intro l
    unfold Lane.mirrorIn
    revert hk
    cases mirPayload (decide (acc.path = .pcie)) [p] <;> simp [Payload.kind]
  generalize hL : q.lane acc.lane = L at *
  have hLr : L.regs = (s.lane acc.lane).regs := by rw [hql]; rfl
  have hLnews : L.ledger.news = [] := by rw [hql]; exact hc
  generalize hpay : mirPayload (decide (acc.path = .pcie)) [p] = pay at *
  generalize hM : L.enterBy (decide (acc.path = .pcie)) pay (some acc.seat.val) (L.accKey acc) = M at *
  have hen := Lane.enterBy_like L (decide (acc.path = .pcie)) pay (some acc.seat.val) (L.accKey acc)
  rw [hM] at hen
  have hMr : M.runs = true := by
    rw [← hr, ← Lane.runs_of_regs hLr]
    refine Lane.runs_of_rd ?_ ?_
    · rw [← hM]
      show Lane.rd (Lane.set (Lane.cnt L _ _) _ _) _ = _
      rw [Lane.rd_set_ne _ _ _ _ (by decide), Lane.rd_cnt_ne _ _ _ _ (by decide)]
    · rw [← hM]
      show Lane.rd (Lane.set (Lane.cnt L _ _) _ _) _ = _
      rw [Lane.rd_set_ne _ _ _ _ (by decide), Lane.rd_cnt_ne _ _ _ _ (by decide)]
  have hMo : M.pair.oseq = L.pair.oseq + 1 := by rw [← hM]; rfl
  have hMn : M.ledger.news = [] := by rw [← hM]; exact hLnews
  have hwl : (q.wrote acc addr w).lane acc.lane = M := by rw [hwr, State.on_same, hL, hkey, hM]
  have hlt : L.pair.oseq < M.pair.oseq := by omega
  have hidle : ∀ b n, M.applyIdle b n = M := fun b n => by unfold Lane.applyIdle; rw [if_pos hMr]
  dsimp only
  rw [hwl, if_pos hlt]
  simp only [State.on_same, hwl, hidle, Lane.settle_calm M _ hMn, if_pos (And.intro hlt hMr)]
  have hfin := State.makes_lines s acc.lane (M.reply acc.seat.val Resp.pending)
  have hMa : M.acc = L.acc := by rw [← hM]; rfl
  have hst : ∀ x y : Lane → Lane, x M = M → y M = M →
      ((((q.wrote acc addr w).on acc.lane x).on acc.lane y).on acc.lane
        (fun l => l.reply acc.seat.val Resp.pending)) =
      s.setLane acc.lane (M.reply acc.seat.val Resp.pending) := by
    intro x y hx hy
    apply State.eq_of_lanes acc.lane
    · simp only [State.on_same, State.setLane_same, hwl, hx, hy]
    · simp only [State.on_other, State.setLane_other, hwr, hqo]
    · simp only [State.on_base, State.setLane_base, hwr, hqb]
    · simp only [State.on_now, State.setLane_now, hwr, hqn]
    · simp only [State.on_free, State.setLane_free, hwr, hqf]
    · simp only [State.on_pending, State.setLane_pending, hwr, hqp]
  rw [hst (fun l => l.applyIdle _ _) (fun l => l.settle _) (hidle _ _) (Lane.settle_calm M _ hMn)]
  have hLp : L.pair = (s.lane acc.lane).pair := by rw [hql]; rfl
  have he : (⟨L.cycN + 2, L.pair.oseq, pay.kind, L.self, some acc.seat.val, L.accKey acc, pay, decide (acc.path = .pcie)⟩ : Entry) =
      (s.lane acc.lane).entryFor acc pay ((s.lane acc.lane).accKey acc) := by
    have hkey' : L.accKey acc = (s.lane acc.lane).accKey acc := by
      unfold Lane.accKey Lane.sess
      rw [hql]
      rfl
    unfold Lane.entryFor
    rw [Lane.cycN_of_regs hLr, hLp, Lane.self_of_regs hLr, hkey']
  dsimp only at hen
  rw [he] at hen
  generalize hE : (s.lane acc.lane).entryFor acc pay ((s.lane acc.lane).accKey acc) = E at *
  have hC : ∀ f : Fld, L.get f = (s.lane acc.lane).get f := fun f => Lane.get_of_regs f hLr
  have hres : ∀ N : Lane, N.Like (M.reply acc.seat.val Resp.pending) [] →
      ∀ f : Fld, f.lo ≤ f.hi → (∀ k, f.lo ≤ k → k ≤ f.hi → (sightMask f.addr).getLsbD k = false) → N.get f = M.get f :=
    fun N hN f h1 h2 => hN.get f (by simp) h1 h2
  refine ⟨⟨?_, hfin.2⟩, ?_, ?_⟩
  · have step : Lane.Like (M.reply acc.seat.val Resp.pending)
        (((s.lane acc.lane).answered acc addr s.now none Resp.pending).accepts E) [Reg.PAIR_MIR_COUNT, Reg.PAIR_MIR_PEAK] := by
      refine ⟨?_, ?_⟩
      · have h1 : (M.reply acc.seat.val Resp.pending).inner = (M.inner).reply acc.seat.val Resp.pending := rfl
        rw [h1, hen.1.1, hql]
        rfl
      · intro a ha
        exact (hen.1.2 a ha).trans (by
          show L.rd a &&& _ = (s.lane acc.lane).rd a &&& _
          rw [Lane.rd_of_regs hLr])
    rw [hE]
    exact hfin.1.trans step
  · exact (hres _ hfin.1 _ (by decide) (sight_free _ (by decide) (by decide))).trans (by rw [hen.2.1, hC])
  · exact (hres _ hfin.1 _ (by decide) (sight_free _ (by decide) (by decide))).trans (by rw [hen.2.2, hC, hLp, hE])

/-! ### Local writes -/

/-- The key value that a write to a register brings: that of LOCK_KEY (R29). -/
def lockOf (addr : Nat) (w : Word) : Option Nat := if addr % 0x1000 = 0x028 then some (w.toNat % 2 ^ 16) else none

/-- A served write that mirrors nothing, and makes `m` of the lane it reached: the answer is that it is done. -/
theorem State.put_local (s : State) (acc : Acc) (addr : Nat) (w : Word) (m : Lane)
    (h : s.serves acc addr 4 true w.toNat) (ha : addr < 0x1000000) (hb : (blkOf (addr / 0x1000)).isSome = true)
    (hw : (s.keyed acc addr (lockOf addr w)).writeReg acc addr w = s.setLane acc.lane m)
    (hm : ((s.lane acc.lane).keyStep acc.seat.val (addr / 0x1000) s.now (lockOf addr w)).mirPart addr w = none)
    (ho : m.pair.oseq = (s.lane acc.lane).pair.oseq) (hn : m.ledger.news = []) :
    s.Makes (s.put acc addr w) acc.lane (m.reply acc.seat.val .done) [] := by
  rw [s.put_served acc addr w h ha hb]
  show s.Makes (let r := (s.keyed acc addr (lockOf addr w)).doWrite acc addr 4 w.toNat
    (r.2.on acc.lane (fun l => l.reply acc.seat.val r.1)).lines) acc.lane (m.reply acc.seat.val .done) []
  generalize hq : s.keyed acc addr (lockOf addr w) = q at *
  have hql : q.lane acc.lane = (s.lane acc.lane).keyStep acc.seat.val (addr / 0x1000) s.now (lockOf addr w) := by rw [← hq]; exact State.on_same ..
  have hqn : q.now = s.now := by rw [← hq]; exact State.on_now ..
  rw [State.doWrite_reg q acc addr w ha]
  have hwr : q.wrote acc addr w = s.setLane acc.lane m := by
    unfold State.wrote
    rw [hql, hm, hw]
  have hLo : (q.lane acc.lane).pair.oseq = (s.lane acc.lane).pair.oseq := by rw [hql]; rfl
  have hwl : (q.wrote acc addr w).lane acc.lane = m := by rw [hwr, State.setLane_same]
  have hnlt : ¬ ((q.lane acc.lane).pair.oseq < m.pair.oseq) := by omega
  dsimp only
  rw [hwl, if_neg hnlt]
  simp only [State.on_same, hwl, Lane.settle_calm m _ hn, if_neg (fun x : _ ∧ m.runs = true => hnlt x.1)]
  have hst : ∀ x : Lane → Lane, x m = m →
      (((q.wrote acc addr w).on acc.lane x).on acc.lane (fun l => l.reply acc.seat.val Resp.done)) =
      s.setLane acc.lane (m.reply acc.seat.val Resp.done) := by
    intro x hx
    apply State.eq_of_lanes acc.lane
    · simp only [State.on_same, State.setLane_same, hwl, hx]
    · simp only [State.on_other, State.setLane_other, hwr]
    · simp only [State.on_base, State.setLane_base, hwr]
    · simp only [State.on_now, State.setLane_now, hwr]
    · simp only [State.on_free, State.setLane_free, hwr]
    · simp only [State.on_pending, State.setLane_pending, hwr]
  rw [hst (fun l => l.settle _) (Lane.settle_calm m _ hn)]
  exact State.makes_lines s acc.lane (m.reply acc.seat.val Resp.done)

theorem State.keyed_on (s : State) (acc : Acc) (addr : Nat) (k : Option Nat) (f : Lane → Lane) :
    (s.keyed acc addr k).on acc.lane f =
      s.setLane acc.lane (f ((s.lane acc.lane).keyStep acc.seat.val (addr / 0x1000) s.now k)) := by
  unfold State.keyed
  apply State.eq_of_lanes acc.lane <;> simp

/-! ### Registers by their place -/

/-- A register past the header outside the seats, none of those whose write does more than store: its write is local. -/
theorem State.writeReg_local (s : State) (acc : Acc) (addr : Nat) (w : Word) (h : 0x40 ≤ addr % 0x1000)
    (hs : ¬ (0x40 ≤ addr / 0x1000 ∧ addr / 0x1000 < 0x48))
    (hx : addr ∉ [Reg.SYS_CTRL, Reg.PAIR_CTRL, Reg.PAIR_RJ_CTRL, Reg.TIME_SET_HI])
    (ht : addr = Reg.TIME_CTRL → timeCtrlBad w = false) (he : addr = Reg.LOGIC_EXCH_CTRL → bits w 1 1 ≠ 1) :
    s.writeReg acc addr w = s.on acc.lane (fun l => l.localWrite acc addr w s.now) := by
  simp only [List.mem_cons, List.not_mem_nil, or_false, not_or] at hx
  obtain ⟨h1, h2, h3, h4⟩ := hx
  have h5 : ¬ (addr = Reg.TIME_CTRL ∧ timeCtrlBad w = true) := fun x => by have := ht x.1; rw [x.2] at this; exact absurd this (by decide)
  have h6 : ¬ (addr = Reg.LOGIC_EXCH_CTRL ∧ bits w 1 1 = 1) := fun x => he x.1 x.2
  have h7 : ¬ (0x40 ≤ addr / 0x1000 ∧ addr / 0x1000 < 0x48 ∧ addr % 0x1000 = 0x050) := fun x => hs ⟨x.1, x.2.1⟩
  unfold State.writeReg
  rw [if_neg (by omega)]
  simp only [if_neg h1, if_neg h2, if_neg h3, if_neg h4, if_neg h5, if_neg h6, if_neg h7]

/-- A register all of whose writable bits are mirrored: a write of it changes nothing on the spot. -/
def allMirrored (addr : Nat) : Bool :=
  match rowOf addr, blkOf (addr / 0x1000) with
  | some r, some b =>
    decide (addr < 0x1000000 ∧ 0x40 ≤ addr % 0x1000 ∧ b.ty ∈ [0x01, 0x20, 0x30, 0x38, 0x40, 0x44, 0x60, 0x68, 0x70, 0x78, 0x80, 0xB0]) &&
      decide (addr ∉ [Reg.TIME_SET_HI, Reg.LOGIC_EXCH_CTRL, Reg.LOGIC_TRIAL_CTRL, Reg.SAFE_LOAD_CTRL, Reg.HOST_SEC_CTRL]) &&
      !clearsAll addr && decide (word (Nat.lor r.rw r.rwk) &&& ~~~(mirMask addr) = 0#32 ∧ word r.w1c &&& ~~~(mirMask addr) = 0#32 ∧ mirMask addr ≠ 0#32)
  | _, _ => false

theorem Lane.plainWrite_mirrored (l : Lane) (addr : Nat) (w : Word) (h : allMirrored addr = true) : l.plainWrite addr w 0 = l := by
  unfold allMirrored at h
  unfold Lane.plainWrite
  cases hr : rowOf addr with
  | none => rfl
  | some r =>
    cases hb : blkOf (addr / 0x1000) with
    | none => simp [hr, hb] at h
    | some b =>
      simp only [hr, hb, Bool.and_eq_true, decide_eq_true_eq, Bool.not_eq_true'] at h
      obtain ⟨⟨⟨_, _⟩, hc⟩, hm, hw, _⟩ := h
      have e : word (Nat.lor r.rw r.rwk) &&& ~~~(mirMask addr) &&& ~~~(word 0) = 0#32 := by rw [hm]; exact BitVec.zero_and
      have e2 : w &&& word r.w1c &&& ~~~(mirMask addr) = 0#32 := by rw [BitVec.and_assoc, hw, BitVec.and_zero]
      simp only [hc, e, e2, Bool.false_eq_true, if_false, if_true]

theorem Lane.localWrite_mirrored (l : Lane) (acc : Acc) (addr : Nat) (w : Word) (now : Nat) (h : allMirrored addr = true) :
    l.localWrite acc addr w now = l := by
  have hp := l.plainWrite_mirrored addr w h
  unfold allMirrored at h
  cases hr : rowOf addr with
  | none => simp [hr] at h
  | some r =>
    cases hb : blkOf (addr / 0x1000) with
    | none => simp [hr, hb] at h
    | some b =>
      simp only [hr, hb, Bool.and_eq_true, decide_eq_true_eq, Bool.not_eq_true'] at h
      obtain ⟨⟨⟨⟨_, _, hty⟩, hx⟩, _⟩, _⟩ := h
      simp only [List.mem_cons, List.not_mem_nil, or_false, not_or] at hx hty
      obtain ⟨x1, x2, x3, x4, x5⟩ := hx
      unfold Lane.localWrite
      rcases hty with h | h | h | h | h | h | h | h | h | h | h | h <;>
        simp only [hb, Option.map_some, h, hp, x1, x2, x3, x4, x5, if_false]

theorem Lane.mirPart_reg (l : Lane) (addr : Nat) (w : Word) (ha : addr < 0x1000000) (hm : mirMask addr ≠ 0#32)
    (hx : addr ∉ [Reg.TIME_SET_HI, Reg.PAIR_CTRL, Reg.LOGIC_EXCH_CTRL, Reg.SAFE_LOAD_CTRL]) (ht : addr = Reg.TIME_CTRL → timeCtrlBad w = false)
    (hs : ¬ (0x40 ≤ addr / 0x1000 ∧ addr / 0x1000 < 0x48)) :
    l.mirPart addr w = some (addr, w, mirMask addr) := by
  simp only [List.mem_cons, List.not_mem_nil, or_false, not_or] at hx
  obtain ⟨x1, x2, x3, x4⟩ := hx
  have h5 : ¬ (addr = Reg.TIME_CTRL ∧ timeCtrlBad w = true) := fun x => by have := ht x.1; rw [x.2] at this; exact absurd this (by decide)
  have h6 : ¬ (0x40 ≤ addr / 0x1000 ∧ addr / 0x1000 < 0x48 ∧ addr % 0x1000 = 0x050) := fun x => hs ⟨x.1, x.2.1⟩
  unfold Lane.mirPart
  simp only [if_pos ha, hm, x1, x2, x3, x4, h5, h6, or_self, if_false, false_and]

theorem seat_pages : ∀ p < 0x48, 0x40 ≤ p → (blkOf p).map Blk.ty = some 4 := by decide

/-- A served write of a register all of whose writable bits are mirrored, on a lane that computes cycles, enters the mirror
set and does no more on the spot. -/
theorem State.put_mirrored (s : State) (acc : Acc) (addr : Nat) (w : Word) (hg : allMirrored addr = true)
    (hk : (mirPayload (decide (acc.path = .pcie)) [(addr, w, mirMask addr)]).kind = 5 ∨ (mirPayload (decide (acc.path = .pcie)) [(addr, w, mirMask addr)]).kind = 6)
    (ht : addr = Reg.TIME_CTRL → timeCtrlBad w = false)
    (h : s.serves acc addr 4 true w.toNat) (hr : (s.lane acc.lane).runs = true) (hc : s.calm acc.lane) :
    s.entersWrite (s.put acc addr w) acc addr (mirPayload (decide (acc.path = .pcie)) [(addr, w, mirMask addr)]) := by
  have hloc := fun (l : Lane) => l.localWrite_mirrored acc addr w
  unfold allMirrored at hg
  cases hrow : rowOf addr with
  | none => simp [hrow] at hg
  | some r =>
    cases hb : blkOf (addr / 0x1000) with
    | none => simp [hrow, hb] at hg
    | some b =>
      have hg' := hg
      simp only [hrow, hb, Bool.and_eq_true, decide_eq_true_eq, Bool.not_eq_true'] at hg
      obtain ⟨⟨⟨⟨ha, h40, hty⟩, hx⟩, _⟩, _, _, hm⟩ := hg
      simp only [List.mem_cons, List.not_mem_nil, or_false, not_or] at hx
      obtain ⟨x1, x2, x3, x4, x5⟩ := hx
      have no (k : Nat) (hk : k ∈ [0, 3, 4]) : (blkOf (addr / 0x1000)).map Blk.ty ≠ some k := by
        rw [hb]
        simp only [Option.map_some, ne_eq, Option.some.injEq]
        intro e
        rw [e] at hty
        revert hk hty
        simp
        omega
      have hseat : ¬ (0x40 ≤ addr / 0x1000 ∧ addr / 0x1000 < 0x48) := by
        intro ⟨h1, h2⟩
        exact no 4 (by simp) (seat_pages _ h2 h1)
      have y1 : addr ≠ Reg.SYS_CTRL := fun e => no 0 (by simp) (by rw [e]; decide)
      have y2 : addr ≠ Reg.PAIR_CTRL := fun e => no 3 (by simp) (by rw [e]; decide)
      have y3 : addr ≠ Reg.PAIR_RJ_CTRL := fun e => no 3 (by simp) (by rw [e]; decide)
      refine s.put_enters acc addr w (addr, w, mirMask addr) h ha (by rw [hb]; rfl) (by omega) hr hc ?_ ?_ hk
      · intro t
        rw [State.writeReg_local t acc addr w h40 hseat (by simp [y1, y2, y3, x1]) ht (fun x => absurd x x2)]
        have : ∀ l : Lane, l.localWrite acc addr w t.now = l := fun l => hloc l t.now (by unfold allMirrored; exact hg')
        apply State.eq_of_lanes acc.lane <;> simp [this]
      · intro l
        exact Lane.mirPart_reg l addr w ha hm (by simp [x1, y2, x2, x4]) ht hseat

/-- A write of this register is a command: its mask takes in a WO field, or an action of the exchange or of the load. -/
def isCommand (addr : Nat) : Bool :=
  decide (¬ (0x40000 ≤ addr ∧ addr < 0x48000)) &&
    (match rowOf addr with
      | some r => decide (mirMask addr &&& word (Nat.lor r.wo (if addr = Reg.LOGIC_EXCH_CTRL ∨ addr = Reg.SAFE_LOAD_CTRL then r.rwk else 0)) ≠ 0#32)
      | none => false)

theorem mirPayload_command (acc : Acc) (addr : Nat) (w : Word) (h : isCommand addr = true) :
    mirPayload (decide (acc.path = .pcie)) [(addr, w, mirMask addr)] = commandBy acc [(addr, w, mirMask addr)] := by
  unfold isCommand at h
  simp only [Bool.and_eq_true, decide_eq_true_eq] at h
  unfold mirPayload commandBy
  cases hr : rowOf addr with
  | none => rw [hr] at h; exact absurd h.2 (by simp)
  | some r =>
    rw [hr] at h
    have h2 := h.2
    simp only [decide_eq_true_eq] at h2
    by_cases hp : acc.path = .pcie
    · simp [h.1, hr, hp]
    · simp [h.1, hr, hp]
      exact h2

theorem mirPayload_write (b : Bool) (addr : Nat) (w : Word) (hs : ¬ (0x40000 ≤ addr ∧ addr < 0x48000)) (h : isCommand addr = false) :
    mirPayload b [(addr, w, mirMask addr)] = .regWrite [(addr, w, mirMask addr)] := by
  unfold isCommand at h
  unfold mirPayload
  cases hr : rowOf addr with
  | none => simp [hs, hr]
  | some r =>
    rw [hr] at h
    simp only [hs, not_false_eq_true, decide_true, Bool.true_and, decide_eq_false_iff_not, Classical.not_not] at h
    simp [hs, hr]
    intro _
    exact h

/-- The kind of what a command enters. -/
theorem commandBy_kind (acc : Acc) (ws : List (Nat × Word × Word)) : (commandBy acc ws).kind = 5 ∨ (commandBy acc ws).kind = 6 := by
  unfold commandBy
  split
  · exact .inl rfl
  · exact .inr rfl

/-- The commands of a register, with the parts of `State.put_mirrored` that speak of the register alone. -/
theorem State.put_command (s : State) (acc : Acc) (addr : Nat) (w : Word) (hg : allMirrored addr = true) (hk : isCommand addr = true)
    (ht : addr ≠ Reg.TIME_CTRL) (h : s.serves acc addr 4 true w.toNat) (hr : (s.lane acc.lane).runs = true) (hc : s.calm acc.lane) :
    s.entersWrite (s.put acc addr w) acc addr (commandBy acc [(addr, w, mirMask addr)]) := by
  have e := mirPayload_command acc addr w hk
  have := s.put_mirrored acc addr w hg (by rw [e]; exact commandBy_kind acc _) (fun x => absurd x ht) h hr hc
  rwa [e] at this

theorem State.put_regWrite (s : State) (acc : Acc) (addr : Nat) (w : Word) (hg : allMirrored addr = true) (hk : isCommand addr = false)
    (hs : ¬ (0x40000 ≤ addr ∧ addr < 0x48000)) (ht : addr = Reg.TIME_CTRL → timeCtrlBad w = false) (h : s.serves acc addr 4 true w.toNat)
    (hr : (s.lane acc.lane).runs = true) (hc : s.calm acc.lane) :
    s.entersWrite (s.put acc addr w) acc addr (.regWrite [(addr, w, mirMask addr)]) := by
  have e := mirPayload_write (decide (acc.path = .pcie)) addr w hs hk
  have := s.put_mirrored acc addr w hg (by rw [e]; exact .inl rfl) ht h hr hc
  rwa [e] at this

end Sys2Proof.Machine
end

