-- ==== Sys2Proof/Laws/Time.lean ====
section
/-! SUPPORT. What the passage of time and a request to the ledger can do. -/

namespace Sys2Proof.Machine

/-! ### Time that passes -/

@[simp] theorem State.pass_zero (s : State) : s.pass 0 = s := rfl

@[simp] theorem State.pass_now (s : State) (k : Nat) : (s.pass k).now = s.now + k := by
  unfold State.pass; split <;> simp [*]

@[simp] theorem State.pass_base (s : State) (k : Nat) : (s.pass k).base = s.base := by unfold State.pass; split <;> rfl
@[simp] theorem State.pass_free (s : State) (k : Nat) : (s.pass k).free = s.free := by unfold State.pass; split <;> rfl
@[simp] theorem State.pass_pending (s : State) (k : Nat) : (s.pass k).pending = s.pending := by unfold State.pass; split <;> rfl

/-- Each lane passes the time by itself. -/
theorem State.pass_lane (s : State) (k : Nat) (i : LaneId) (h : k ≠ 0) : (s.pass k).lane i = (s.lane i).pass k s.now := by
  unfold State.pass; rw [if_neg h]; cases i <;> rfl

@[simp] theorem State.untilTick_now (s : State) (n : Nat) : (s.untilTick n).now = max s.now n := by
  unfold State.untilTick; rw [State.pass_now]; omega

/-- No time passes to an instant that is not ahead. -/
theorem State.untilTick_past (s : State) (n : Nat) (h : n ≤ s.now) : s.untilTick n = s := by
  unfold State.untilTick; rw [Nat.sub_eq_zero_of_le h, State.pass_zero]

@[simp] theorem State.untilTick_base (s : State) (n : Nat) : (s.untilTick n).base = s.base := State.pass_base ..
@[simp] theorem State.untilTick_free (s : State) (n : Nat) : (s.untilTick n).free = s.free := State.pass_free ..
@[simp] theorem State.untilTick_pending (s : State) (n : Nat) : (s.untilTick n).pending = s.pending := State.pass_pending ..

/-- Without a request the end of a CLK_REG cycle decides nothing. -/
theorem Lane.cycleEnd_none (l : Lane) (k now : Nat) (h : l.ledger.asked = []) : l.cycleEnd k now = l := by
  unfold Lane.cycleEnd; rw [if_pos (Or.inr h)]

/-! ### Requests to the ledger -/

/-- A request joins those of its CLK_REG cycle, and none is lost. -/
theorem insAsk_perm (r : LReq) : ∀ rs : List LReq, (insAsk r rs).Perm (r :: rs)
  | [] => .refl _
  | x :: t => by
    unfold insAsk
    split
    · exact .refl _
    · exact ((insAsk_perm r t).cons x).trans (.swap r x t)

theorem mem_insAsk (r x : LReq) (rs : List LReq) : x ∈ insAsk r rs ↔ x = r ∨ x ∈ rs := by
  rw [(insAsk_perm r rs).mem_iff, List.mem_cons]

/-- A request changes nothing but the requests of its CLK_REG cycle. -/
theorem Lane.ledgerAsk_spec (l : Lane) (cls q dur who now : Nat) : ∃ rs, l.ledgerAsk cls q dur who now =
    { l with ledger := { l.ledger with asked := rs } } := by
  unfold Lane.ledgerAsk
  split
  · exact ⟨_, rfl⟩
  · exact ⟨l.ledger.asked, rfl⟩

end Sys2Proof.Machine
end

