-- ==== Sys2Proof/Tests/Slice0.lean ====
section
/-! SUPPORT. Tests: an ill-formed term for each check of WellFormed, small tests of single steps on states built from the state
after reset, and for every statement a state and operands that meet its hypotheses. -/

set_option Elab.async false

namespace Sys2Proof.Tests

open Sys2Proof Sys2Proof.Machine

/-! ### Small states -/

/-- Seat 0 over HAP at lane A. -/
def accA : Acc := ⟨.A, 0, .hapNormal, 7⟩

/-- A lane alone at S3 that computes cycle 2^32 + 5, with seat 0 enabled. -/
def up (n : Nat) : Lane :=
  (((((((((Lane.fresh n).set F.SYS_STATE.LANE_STATE 6).set F.SYS_STATE.STAGE 3).set F.CYCLE_STAT.RUN 1).set (F.BLK_CTRL.ENABLE 0x40) 1).set64
    Reg.CYCLE_NUM_LO Reg.CYCLE_NUM_HI (2 ^ 32 + 5)).set64 Reg.CYCLE_ORG_NUM_LO Reg.CYCLE_ORG_NUM_HI (2 ^ 32)).set F.CYCLE_PERIOD.NS 100000).set
    F.PAIR_STAT.PRIM_REQ 1).set F.PAIR_STAT.PRESENT 1

/-- Seat 0 may write the page of a register, and the table and DRAM granules of its first registers. -/
def may (a : Nat) (l : Lane) : Lane :=
  if a < 0x1000000 then l.wr (Reg.SEAT_RIGHTS_PAGE 0 (a / 0x1000 / 16)) 0xAAAAAAAA#32
  else if a < 0x10000000 then l.wr (Reg.SEAT_RIGHTS_TABLE 0 ((a - 0x1000000) / 0x100000 / 16)) 0xAAAAAAAA#32
  else l.wr (Reg.SEAT_RIGHTS_DRAM 0 ((a - 0x1000000000) / 0x10000000 / 16)) 0xAAAAAAAA#32

/-- An instance runs. -/
def runs (p : Nat) (l : Lane) : Lane := l.set (F.BLK_CTRL.ENABLE (instPage p)) 1

/-- Seat 0 has the key of an instance open. -/
def keyed (p : Nat) (l : Lane) : Lane := { l with acc := { l.acc with keys := [⟨0, instPage p, .opened 900⟩] } }

/-- Lane A alone drives with primacy; lane B is absent. -/
def s0 : State :=
  { State.reset with
    a := up 0, b := (Lane.fresh 1).set F.SYS_STATE.LANE_STATE 0,
    base := { State.reset.base with primacy := some .A, aoSel := some .A }, now := 1000 }

/-- A change of lane A of that state. -/
def sA (f : Lane → Lane) : State := s0.on .A f

/-- A lane alone in the compute window, past the window's end, with no node. -/
def inWin (l : Lane) : Lane :=
  { l with cyc := { l.cyc with cutDone := true, merged := true, opened := true }, time := { l.time with acc := 10 ^ 6 * 2 ^ 32 } }

/-- Both lanes PAIRED in cycle 2^32 + 5, lane A with primacy, the pair link up. -/
def s2 : State :=
  let f (i : Nat) : Lane := ((up i).set F.SYS_STATE.LANE_STATE 5).set F.PAIR_STAT.LINK 15
  { s0 with a := f 0, b := f 1 }

/-- A change of both lanes of that state. -/
def s2f (f : Lane → Lane) : State := { s2 with a := f s2.a, b := f s2.b }

theorem steady_of (s : State) (h : LaneId)
    (p : (s.base.primacy = some h ∧ (s.lane h).sup.valid = true ∧ (s.lane h).flag F.PAIR_STAT.PRIM_REQ = true) ∧
      (s.calm .A ∧ (s.lane .A).acc.held = []) ∧ s.calm .B ∧ (s.lane .B).acc.held = []) : s.steady :=
  ⟨⟨h, p.1⟩, fun i => match i with | .A => p.2.1 | .B => p.2.2⟩

theorem fire_of {o : Option NodeEv} {n : Nat} (h : (match o with | some (.fire k) => k == n | _ => false) = true) : o = some (.fire n) := by
  revert h; cases o with
  | none => intro h; cases h
  | some e => cases e <;> intro h <;> first | cases h | exact congrArg (fun k => some (NodeEv.fire k)) (eq_of_beq h)

theorem finish_of {o : Option NodeEv} {x : InServ} (h : (match o with | some (.finish k) => decide (k = x) | _ => false) = true) :
    o = some (.finish x) := by
  revert h; cases o with
  | none => intro h; cases h
  | some e => cases e <;> intro h <;> first | cases h | exact congrArg (fun k => some (NodeEv.finish k)) (of_decide_eq_true h)

theorem none_of {o : Option NodeEv} (h : o.isNone = true) : o = none := Option.isNone_iff_eq_none.mp h

/-- What a lane shows of a compute window that is open, or past. -/
def opens (s : State) (i : LaneId) : Bool :=
  decide ((s.lane i).pair.outSamp = []) && !(s.lane i).unjudged && (!(s.lane i).drives || ((s.lane i).running && (s.lane i).cyc.cutDone && (s.lane i).cyc.merged && (s.lane i).cyc.opened))

theorem opens_spec {s : State} {i : LaneId} (h : opens s i = true) : (s.lane i).pair.outSamp = [] ∧ (s.lane i).unjudged = false ∧ ((s.lane i).drives = true →
    (s.lane i).running = true ∧ (s.lane i).cyc.cutDone = true ∧ (s.lane i).cyc.merged = true ∧ (s.lane i).cyc.opened = true) := by
  simp only [opens, Bool.and_eq_true, Bool.or_eq_true, Bool.not_eq_true', decide_eq_true_eq] at h
  refine ⟨h.1.1, h.1.2, fun d => ?_⟩
  rcases h.2 with e | e
  · rw [d] at e; cases e
  · exact ⟨e.1.1.1, e.1.1.2, e.1.2, e.2⟩

theorem computing_of (s : State) (h : LaneId)
    (p : ((s.base.primacy = some h ∧ (s.lane h).sup.valid = true ∧ (s.lane h).flag F.PAIR_STAT.PRIM_REQ = true) ∧
      (s.calm .A ∧ (s.lane .A).acc.held = []) ∧ s.calm .B ∧ (s.lane .B).acc.held = []) ∧ opens s .A = true ∧ opens s .B = true) :
    s.computing :=
  ⟨steady_of s h p.1, fun i => match i with | .A => opens_spec p.2.1 | .B => opens_spec p.2.2⟩

theorem computedAll_of (s : State) (h : LaneId)
    (p : (((s.base.primacy = some h ∧ (s.lane h).sup.valid = true ∧ (s.lane h).flag F.PAIR_STAT.PRIM_REQ = true) ∧
      (s.calm .A ∧ (s.lane .A).acc.held = []) ∧ s.calm .B ∧ (s.lane .B).acc.held = []) ∧ opens s .A = true ∧ opens s .B = true) ∧
      ((s.lane .A).drives = true → (s.lane .A).cyc.complete = true) ∧ ((s.lane .B).drives = true → (s.lane .B).cyc.complete = true)) :
    s.computedAll :=
  ⟨computing_of s h p.1, fun i => match i with | .A => p.2.1 | .B => p.2.2⟩

theorem pairs_of (s : State) (_ : LaneId)
    (p : s.linked = true ∧ ((s.lane .A).st = .paired ∧ (s.lane .A).running = true) ∧ (s.lane .B).st = .paired ∧ (s.lane .B).running = true) :
    s.pairs :=
  ⟨p.1, fun i => match i with | .A => p.2.1 | .B => p.2.2⟩


/-- Lane A, with seat 0 allowed the page of a register, and the key of its instance open. -/
def sKey3 (a : Nat) : State := sA (fun l => keyed (a / 0x1000) (may a l))

/-- Lane A, with seat 0 allowed the page of a register. -/
def sMay (a : Nat) : State := sA (may a)

/-- The first key value of the cycle instance has been written. -/
def sKey1 : State := sA (fun l => { may 0x100028 l with acc := { l.acc with keys := [⟨0, 0x100, .first⟩] } })

/-- The key of the cycle instance is open since tick 800. -/
def sKey2 : State := sA (fun l => { l with acc := { l.acc with keys := [⟨0, 0x100, .opened 800⟩] } })

/-- The cycle instance is in its soft reset. -/
def sBusy : State := sA (fun l => l.set (F.BLK_STAT.RESET_BUSY 0x100) 1)

/-- The cycle instance has latched an error. -/
def sErr : State := sA (fun l => (may 0x100020 l).err 0x100 0x43 0 0x100050)

/-- Seat 0 holds the token 0x88, and its latch holds a violation. -/
def sTok : State := sA (fun l => (Lane.set { may 0x40058 l with acc := { l.acc with tokens := [⟨0x88, 0⟩] } } (F.SEAT_VIOL_INFO.VALID 0) 1))


/-- Lane A in a lane state, with a stage. -/
def sSt (c g : Nat) (f : Lane → Lane) : State := sA (fun l => f ((l.set F.SYS_STATE.LANE_STATE c).set F.SYS_STATE.STAGE g))

/-- A cartridge with firmware 3 in bank 0. -/
def cart1 : Cart := ⟨77, 2, [some (3, 1), none], 0, 1, none, 0, none, none, none, [], true, 100, 5⟩

/-- An image set without graph, of period 100 µs. -/
def im0 : ImageSet :=
  ⟨0x5EA1, 1, true, none, 2, 100000, 40000, [], [], [], 16, [], [], [], [], [], [], [], [], [], [], [], [], [], 0, [], none, [], []⟩

/-- The slot of lane A is empty. -/
def sNoCart : State := sA (fun l => { l with sup := { l.sup with seated := false, valid := false } })

/-- Lane A has lost its supply. -/
def sNoSup : State := sA (fun l => { l with sup := { l.sup with valid := false, ok2 := false } })

/-- Lane A rides through since tick 400. -/
def sRide : State := sA (fun l => { l with sup := { l.sup with ok1 := false, ok2 := false, ride := some 400 } })

/-- Lane A at S0 in PIP, lane B with primacy, driving or not. -/
def sPip (c : Nat) : State :=
  { sSt 2 0 (fun l => { (l.set F.CYCLE_STAT.RUN 0).set F.PAIR_STAT.PRIM_REQ 0 with start := { l.start with pipRun := true } }) with
    b := (((Lane.fresh 1).set F.SYS_STATE.LANE_STATE c).set F.PAIR_STAT.PRIM_REQ 1).set F.SYS_STATE.STAGE 1,
    base := { s0.base with primacy := some .B, aoSel := some .B } }

/-- Lane A is a KEEPER at S1 with an image of period 100 µs, and not yet on the grid. -/
def sKeep : State :=
  sSt 3 1 (fun l => { (l.set F.CYCLE_STAT.RUN 0).set F.CYCLE_PHASE_CFG.NS 250 with image := some im0, time := { l.time with acc := 12345678 * 2 ^ 32 } })

/-- Lane A is FAULTED since tick 1000, with no dwell. -/
def sFault : State := sSt 8 0 (fun l => { (l.set F.SYS_CTRL.FAULT_DWELL 0).set F.SYS_CTRL.HOLD_FAULTED 0 with start := { l.start with faultedAt := 1000 } })

/-- Lane A is in a reset by LANE_RESET. -/
def sInReset : State := sSt 2 0 (fun l => { l with start := { l.start with inReset := some 2 } })

/-- A complete snapshot of a cycle. -/
def snap1 (n d : Nat) : Snap := ⟨n % 2, n, d, true, car0, [], ⟨0, 0, []⟩, [], [], [], [], [], [], (2 ^ 32, 0), 0, true⟩

/-- A lane that keeps, warm, with snapshots of cycles 2^32 + 7 and 2^32 + 8. -/
def warm1 (i d : Nat) : Lane :=
  { ((((up i).set F.SYS_STATE.LANE_STATE 3).set F.SYS_STATE.STAGE 1).set F.CYCLE_STAT.RUN 0).set F.PAIR_STAT.LINK 15 with
    slots := [snap1 (2 ^ 32 + 7) 0xAB, snap1 (2 ^ 32 + 8) d], start := { start0 0 with warmOk := true } }

/-- Two warm KEEPERs, whose snapshots of 2^32 + 7 agree, of 2^32 + 8 not. -/
def sWarm : State := { s0 with a := warm1 0 1, b := warm1 1 2 }

/-- Two warm KEEPERs without a common snapshot. -/
def sWarmNone : State := { s0 with a := warm1 0 1, b := { warm1 1 2 with slots := [snap1 (2 ^ 32 + 2) 5] } }

/-- The holder resumes from cycle 2^32 + 7, the other lane rejoins. -/
def sWarmGo : State :=
  { s0 with
    a := { warm1 0 1 with start := { (warm1 0 1).start with resume := some (2 ^ 32 + 7) }, image := some im0 },
    b := ((up 1).set F.SYS_STATE.LANE_STATE 4).set F.CYCLE_STAT.RUN 0 }

/-- Reset by key: seat 0 may write SYS_CTRL. -/
def sSysKey : State := sKey3 0x10

/-- A slot that is empty, with neither entry at a level. -/
def sNoCartDark : State := sNoCart.on .A (fun l => { l with sup := { l.sup with ok1 := false, ok2 := false } })

/-- Lane A keeps alone, and beside a KEEPER of the same images, the origin fixed; beside one that has none yet. -/
def keep1 (o : Option (Nat × Nat)) (l : Lane) : Lane := { l with start := { l.start with origin := o } }
def sKeepOrg : State := sKeep.on .A (keep1 (some (2 ^ 32, 13000250)))
def sKeepTwo : State := { sKeepOrg with b := { sKeepOrg.a.set F.SYS_ROLE.ROLE 1 with sup := s0.b.sup } }
def sKeepPass : State :=
  let f (l : Lane) : Lane := l.set F.PAIR_STAT.LINK 15
  { sKeep with a := f sKeep.a, b := f (sKeep.a.set F.SYS_ROLE.ROLE 1) }

/-- Lane A in SHADOW at S1 beside lane B, which runs with primacy. -/
def sShadowOf : State :=
  let s := sSt 4 1 (fun l => (l.set F.PAIR_STAT.LINK 15).set F.PAIR_STAT.PRIM_REQ 0)
  { s with b := (up 1).set F.PAIR_STAT.LINK 15, base := { s.base with primacy := some .B, aoSel := some .B } }

/-- Two warm KEEPERs that hold a common snapshot, without the link. -/
def sWarmOff : State := (sWarm.on .A (fun l => l.set F.PAIR_STAT.LINK 0)).on .B (fun l => l.set F.PAIR_STAT.LINK 0)

/-- Lane A in SHADOW at S1, at S2, and SOLO at S2. -/
def sShadow1 : State := sSt 4 1 id
def sShadow2 : State := sSt 4 2 id
def sSolo2 : State := sSt 6 2 id


/-- Lane A follows a measurement, or leads with PTP as its source in state LOCKED. -/
def sFollow : State := sA (fun l => (l.set F.PAIR_STAT.LINK 15).set F.TIME_STAT.SOURCE_ACT 1)
def sLead : State := sA (fun l => ((l.set F.TIME_STAT.LEADER 1).set F.TIME_STAT.SOURCE_ACT 1).set F.TIME_STAT.STATE 3)

/-- It leads and no cycle runs; it leads on the pulse input, 0.3 s past a second. -/
def sLeadIdle : State := sLead.on .A (fun l => l.set F.CYCLE_STAT.RUN 0)
def sPps3 : State := sLead.on .A (fun l => { l.set F.TIME_STAT.SOURCE_ACT 3 with time := { l.time with acc := 300000000 * 2 ^ 32 } })

/-- Trigger 31 of lane A is armed for instant 500, with its interrupt. -/
def sTrig : State :=
  sA (fun l => { (l.set (F.TT_CTRL.ARM 31) 1).set (F.TT_CTRL.IRQ 31) 1 with
    time := { l.time with acc := 500 * 2 ^ 32, trig := (List.replicate 31 ⟨0, 0⟩) ++ [⟨500, 500⟩] } })

/-- Both lanes see the link, and lane A follows. -/
def sMark : State := s2f id

/-- Seat 0 has read TIME_NOW_LO, and keeps TIME_NOW_HI as it was. -/
def sCaptd : State := sA (fun l => { may 0x10048 l with acc := { l.acc with captured := [⟨0, 0x1004C, 0x77#32⟩] } })


/-- Lane A with a ledger: budget 100, standing 40. -/
def sLed (d : LedgerH) : State := sA (fun l => { (l.set F.LEDGER_STAT.BUDGET 100).set F.LEDGER_BOOK.STANDING 40 with ledger := d })

/-- A grant of 10 quanta of class 4 since tick 600 that ends at tick 1000, and a request of class 5. -/
def gr1 : Grant := ⟨⟨4, 10, 1000, 0, 600, 3⟩, 600⟩
def rq1 : LReq := ⟨5, 55, 100, 1, 100, 4⟩
def sLedGr : State := sLed { ledger0 with grants := [gr1] }
def sLedStop : State := sLed { ledger0 with grants := [gr1], stopping := [rq1], excess := true }
def sLedWait : State := { sLed { ledger0 with grants := [gr1], waiting := [rq1] } with now := 100 + (sLed ledger0).a.get (F.LEDGER_WAIT.MS 5) * 400000 + 1 }
def sLedFree : State := sLed ledger0

/-- No lane holds primacy, and lane A asks for it. -/
def sAsk : State := { sA (fun l => (l.set F.SYS_STATE.LANE_STATE 3).set F.CYCLE_STAT.RUN 0) with base := { s0.base with primacy := none, aoSel := none } }

/-- Lane A no longer asks; no lane holds primacy since tick 900. -/
def sDrop : State := sA (fun l => (l.set F.PAIR_STAT.PRIM_REQ 0).set F.SYS_STATE.LANE_STATE 8)
def sFree : State := { s0 with base := { s0.base with primacy := none, freeAt := some 900, aoTerm := [(3, 7)] } }

/-- A request of class 4 for `q` quanta. -/
def rqA (q : Nat) : LReq := ⟨4, q, 100, 0, 100, 4⟩

/-- Requests of the present CLK_REG cycle: one that fits, one too large for the pool, one that waits. -/
def sLedAsk (n q : Nat) : State := { sLed { ledger0 with grants := [gr1], asked := [rqA q] } with now := n }
def sLedIdle : State := sLedGr.on .A (fun l => l.set F.CYCLE_STAT.RUN 0)


/-- Two PAIRED lanes with a key of seat 0 for the pair block, and with firmware 3 in bank 0 of both. -/
def sPair2 : State := s2f (fun l => keyed 0x30 (may 0x30040 { l with host := { l.host with banks := [some (3, 0), none] } }))

/-- Lane A in LEAVING with its ejector open, lane B alone. -/
def sLeft : State :=
  { sSt 7 1 (fun l => { l with sup := { l.sup with closed := false } }) with
    b := up 1, base := { s0.base with primacy := some .B, aoSel := some .B } }

/-- Lane A in SHADOW, lane B alone with primacy and an image, the link up for more than 1 s. -/
def sRj (ph : Nat) (f : Lane → Lane) (g : Lane → Lane) : State :=
  let h (l : Lane) : Lane := { l.set F.PAIR_STAT.LINK 15 with image := some im0, pair := { l.pair with upSince := some 0, upAll := some 0 } }
  { s0 with
    a := f (keyed 0x30 (may 0x33040 ((((h (up 0)).set F.SYS_STATE.LANE_STATE 4).set F.PAIR_STAT.PRIM_REQ 0).set F.PAIR_RJ_STAT.PHASE ph))),
    b := g ((h (up 1)).set F.PAIR_RJ_STAT.PHASE ph), base := { s0.base with primacy := some .B, aoSel := some .B }, now := 5 * 10 ^ 8 }

/-- A complete snapshot of cycle 2^32 + 7. -/
def snap7 : Snap := snap1 (2 ^ 32 + 7) 5

/-- A rejoin that began at tick 1000. -/
def rj1 : RejoinH := ⟨1000, 2 ^ 32 + 4, [], [], false, none, none, false, none⟩

/-- The inputs of cycle 2^32 + 8. -/
def cyc8 : CycIn := ⟨2 ^ 32 + 8, [], ⟨2 ^ 32 + 8, 0, [], [], [], false, 0⟩, none, [], []⟩

def sRjAuto : State := sRj 0 (fun l => l.set F.PAIR_CTRL.AUTO_REJOIN 1) id
def key900 (l : Lane) : Lane := { l with acc := { l.acc with keys := [⟨0, 0x30, .opened (5 * 10 ^ 8)⟩] } }
def sRjHand : State := sRj 0 (fun l => key900 (l.set F.PAIR_CTRL.AUTO_REJOIN 0)) id
def sRjOn : State :=
  sRj 2 (fun l => key900 { l.set F.PAIR_CTRL.AUTO_REJOIN 0 with pair := { l.pair with rejoin := some rj1 } }) id
def sRjLate : State := { sRjOn with now := 1000 + sRjOn.a.get F.PAIR_RJ_CTRL.TIMEOUT * 400000000 }
def sRjSet : State :=
  sRj 2 (fun l => { l.set64 Reg.PAIR_RJ_SNAP_LO Reg.PAIR_RJ_SNAP_HI (2 ^ 32 + 7) with pair := { l.pair with rejoin := some rj1 } })
    (fun l => { l with slots := [snap1 (2 ^ 32 + 7) 5], pair := { l.pair with rejoin := some rj1 } })
def sRjReplay : State :=
  sRj 3 (fun l => { l.set64 Reg.PAIR_RJ_SNAP_LO Reg.PAIR_RJ_SNAP_HI (2 ^ 32 + 7) with pair := { l.pair with rejoin := some { rj1 with held := true } } })
    (fun l => { l.set64 Reg.PAIR_RJ_SNAP_LO Reg.PAIR_RJ_SNAP_HI (2 ^ 32 + 7) with pair := { l.pair with rejoin := some { rj1 with log := [cyc8] } } })
def sRjFw : State := sRj 2 (fun l => l.set F.PAIR_COMPAT.OWN 1) (fun l => l.set F.HOST_SEC_STAT.RUNNING 4)

/-- Two lanes whose link is down. -/
def sDown : State := s2f (fun l => l.set F.PAIR_STAT.LINK 0)


/-- No input at the boundary. -/
def noIn : BoundaryIn := ⟨[], []⟩

/-- Lane A alone, with image, past the end of a cycle without nodes. -/
def sDone : State := sA (fun l => { inWin { l with image := some im0 } with cyc := { (inWin l).cyc with complete := true } })
def sWin (f : Lane → Lane) : State := sA (fun l => f (inWin { l with image := some im0 }))
def sWin0 : State := sWin id
def sShut : State := sWin (fun l => { l with cyc := { l.cyc with opened := false } })

/-- Both lanes before the ring cut, with their sampled parts, past its instant. -/
def part1 : Sampled := ⟨2 ^ 32 + 5, 0, [], [], [], false, 0⟩
def sCut : State :=
  s2f (fun l => { l with image := some im0, pair := { l.pair with sampOwn := some part1 }, time := { l.time with acc := 10 ^ 6 * 2 ^ 32 } })

/-- A graph of one node 0 of class 0 (class 1: LOGIC), cost 50, deadline 900, every cycle. -/
def node0 (k c : Nat) (l : Lane) : Lane :=
  { l.set F.CYCLE_GRAPH_SIZE.NODES 1 with
    car := { l.car with win := [(0x01100000, word (k * 2 ^ 28 + c * 2 ^ 26)), (0x0110000C, 900#32), (0x01100010, 1#32), (0x01100014, 50#32)] } }
def sFire : State := sWin (node0 4 0)
def sServ : State := sWin (fun l => let m := node0 4 0 l; { m with cyc := { m.cyc with inServ := [⟨0, 0, 50, []⟩] } })
def sCutN0 : State := sWin (fun l => let m := node0 4 0 l; { m with cyc := { m.cyc with inServ := [⟨0, 0, 950, []⟩] } })
def sCutN : State := sCutN0.on .A (fun l => l.set F.PAIR_DIV.BOTH 1)
def sLogic : State := sWin (fun l => let m := node0 5 1 l; { m with cyc := { m.cyc with inServ := [⟨0, 0, 950, []⟩] } })

/-- A snapshot of cycle 2^32 + 4 is being written. -/
def sSnap : State :=
  sA (fun l => { l with slots := [{ snap1 (2 ^ 32 + 4) 6 with complete := false }], cyc := { l.cyc with snapOf := some (2 ^ 32 + 4) } })
def sTrc : State := sA (fun l => { l with cyc := { l.cyc with trc := ⟨[], 7⟩ } })
def sTrcBuf : State := sA (fun l => (((may 0x103000 l).wr Reg.CYCLE_TRC_BASE_LO 0x80000000#32).wr Reg.CYCLE_TRC_BASE_HI 0x17#32).wr Reg.CYCLE_TRC_SIZE 1#32)


/-- An entry of lane B, a seal, a sampled part and a digest on their way to lane A. -/
def ent1 : Entry := ⟨2 ^ 32 + 7, 4, 0x05, .B, some 1, 0x77, .regWrite [(0x11100, 1#32, 1#32)], false⟩
def sMsg : State := { s2 with b := { s2.b with pair := { s2.b.pair with outMsg := [.entry ent1] } } }
def sSeal : State :=
  { s2 with b := { s2.b with pair := { s2.b.pair with outSeal := [⟨2 ^ 32 + 4, 1, 0⟩], unconf := [⟨2 ^ 32 + 4, some 1⟩] } } }
def sSamp : State := { s2 with b := { s2.b with pair := { s2.b.pair with outSamp := [part1] } } }

/-- Both lanes have completed cycle 2^32 + 5; lane B's digest of cycle 2^32 + 4 is on its way. -/
def sFin (f g : Lane → Lane) : State :=
  let h (l : Lane) : Lane := { inWin { l with image := some im0 } with cyc := { (inWin l).cyc with complete := true } }
  { s2 with a := f (h s2.a), b := g (h s2.b) }
def sDig (d : Nat) : State :=
  sFin (fun l => { l with pair := { l.pair with digOwn := [(2 ^ 32 + 4, 0xD1)] } })
    (fun l => { l with pair := { l.pair with outDig := [(2 ^ 32 + 4, d)] } })
def sDigLate : State := sFin id (fun l => { l with pair := { l.pair with outDig := [(2 ^ 32 + 3, 1)] } })
def sSealLate : State := sFin id (fun l => { l with pair := { l.pair with outSeal := [⟨2 ^ 32 + 3, 0, 0⟩] } })
def sSampLate : State :=
  s2f (fun l => { l with image := some im0, cyc := { l.cyc with cutDone := true }, time := { l.time with acc := 10 ^ 6 * 2 ^ 32 } })
def sCheck : State :=
  sFin (fun l => { l with pair := { l.pair with check := some ⟨2 ^ 32 + 2, false⟩ } }) (fun l => { l with pair := { l.pair with check := some ⟨2 ^ 32 + 2, false⟩ } })

/-- Seat 0 may write a word of a loop table that seats may write. -/
def sWinKey (a : Nat) : State := sA (fun l => may a { l with image := some im0 })

/-- A program in slot 5 of the image of a lane, in a state, and an entry that commands it. -/
def prog5 (p st : Nat) : Lane :=
  { up 0 with
    image := some { im0 with progs := [⟨p, 0, 1, false, false, [], [], [], []⟩] }, car := { car0 with progs := [⟨p, st, 0, 0, 0, false, false, false, false, 0, [], false, false⟩] } }
def cmdEnt (p k : Nat) : Entry :=
  ⟨2 ^ 32 + 7, 4, 0x06, .B, some 1, 0x77, .command [(Reg.LOGIC_PCTL (p / 16) (p % 16), word k, 7#32)], false⟩

/-- Seat 0 may act on the image exchange and on trials. -/
def sExch (f : Lane → Lane) : State := sA (fun l => f (keyed 0x300 (may 0x300040 (may 0x308000 { l with image := some im0 }))))
def sExch0 : State := sExch id
def sPrep : State := sA (fun l => Lane.set { l with store := { l.store with preparing := true } } F.HOST_SEC_STAT.KEY 1)
def im1 : ImageSet := { im0 with sl := 0x77, version := 2 }
def sReady : State :=
  let r (l : Lane) : Lane :=
    Lane.set64 ((Lane.set { l with store := { l.store with prep := some im1 } } F.LOGIC_EXCH_STAT.OWN 2).set F.LOGIC_EXCH_STAT.OTHER 2)
      Reg.LOGIC_EXCH_SEAL_LO Reg.LOGIC_EXCH_SEAL_HI 0x77
  let s := sExch r
  { s with b := r s.b }
def sTrial : State := sExch (fun l => { l with trial := some ⟨5, im1, 3, none, none⟩ })


/-- A frame of ring 3 with two stations in cycle 2^32 + 5: station 0 processed. -/
def skr1 : Skr :=
  ⟨0x88B5, 1, 1, true, false, .A, 3, 2, 0, 2 ^ 32 + 5, 0, 100000, 0, 7, 0, [0, 0, 0, 0, 0, 0, 0, 0, 1, 0, 0, 0, 1, 0, 0, 0], 3, 0, 2⟩

/-- Lane A with ring 3 of two stations. -/
def sRing : State :=
  sA (fun l => ((((((l.set F.CYCLE_TRING.NS 20000).set (F.RING_CFG.NSTA 3) 2).set (F.RING_ETYPE.ETYPE 3) 0x88B5).wr (Reg.RING_CFG_ID 3) 7#32).set
    (F.RING_STA_LAYOUT.OFFSET 3 1) 8).set F.LEDGER_STAT.BUDGET 100).set F.LEDGER_BOOK.STANDING 40)
def sRingGr : State := sRing.on .A (fun l => { l with ledger := { ledger0 with grants := [⟨⟨3, 2, 0, 0, 600, 3⟩, 600⟩] } })
def sRingRetry : State := { sRing.on .A (fun l => { l with ring := { l.ring with train := [(3, 1000)] } }) with now := 400001000 }

/-- Lane A measures; its fast converters were granted at tick 1000. -/
def sAin : State :=
  sA (fun l => { (l.set F.AIN_OW_CFG.SPACING 1).set F.AIN_OW_CFG.SLOT_US 200 with time := { l.time with acc := 400000 * 2 ^ 32 } })
def sFi : State := { sA (fun l => { l with ain := { l.ain with fiAt := some 1000 } }) with now := 41000 }
def sFilt : State := sA (fun l => ((l.set (F.AIN_CH_CFG.RANGE 63) 0).set (F.AIN_CH_CFG.FILT_K 63) 3).set (F.AIN_CH_CFG.FILT_D 63) 4)
def sFast : State :=
  let f (l : Lane) : Lane := ((l.set F.FI_CTRL.READY 1).set F.FI_CTRL.EN 128).set F.CYCLE_STAT.RUN 0
  { s0 with a := f s0.a, b := f (up 1) }

/-- Both lanes with the direct axis 15, whose gates lane A drives. -/
def sAxes : State := s2f (fun l => l.setAxHw { l.axHw 15 with gates := true })

/-- Bus 11: frames, objects, controllers. -/
def fr1 : PFrame := ⟨11, 2, 0x40001234, false, [1, 2], false, none, 0, false, true⟩
def bf1 : BusFrame := ⟨0x40001234, false, false, false, [1, 2, 3]⟩
def sBus (f : Lane → Lane) : State := s2.on .A f
def sArb : State := sBus (fun l => Lane.set { l with pbus := { l.pbus with queue := [fr1] } } (F.PBUS_STAT.TRANSMITTER 11) 1)
def sTxErr : State := sBus (fun l => { l with pbus := { l.pbus with queue := [{ fr1 with active := true }], ctls := [⟨11, 100, 100, 0, false⟩] } })
def sOff : State := sBus (fun l => { l with pbus := { l.pbus with ctls := [⟨11, 256, 0, 3, false⟩] } })

/-- Ring 3 has dropped, without a grant. -/
def sRingDrop : State := sRing.on .A (fun l => { l with ring := { l.ring with dropped := [3] } })

/-- The open-wire test of lane A, with primacy: a slot of a boundary for channel 9, at an instant. -/
def sOw (b t : Nat) : State :=
  sAin.on .A (fun l => { l.set F.PAIR_STAT.PRIMACY 1 with
    car := { l.car with ow := ⟨9, none, [(b, 9)]⟩ }, time := { l.time with acc := t * 2 ^ 32 } })
def sOwOn : State := sOw (2 ^ 32 + 6) 450000
def sOwOff : State := sOw (2 ^ 32 + 5) 600000


/-- A matrix of one output 5 with an off-delay of 2 ms and a feedback time of 3 ms, tested by the switch test. -/
def mx1 : MatrixImg := ⟨[(0x40, 0x02000000#32), (0x2898, 2#32), (0x289C, 0x20000003#32)], 0, 60⟩

/-- Both lanes with a change of their pips, which run. -/
def sPipB (f : PipH → PipH) : State := s2f (fun l => { l.set F.SAFE_STAT.PIP_RUN 1 with pip := f { l.pip with bank := mx1 } })
def outOn5 (d : Option Nat) (fb : Option (Nat × Bool)) : PChan := ⟨[⟨5, false, false, true, d, none, fb⟩], [], []⟩
def sPipRun : State := sPipB (fun h => { h with lines := [⟨3, true, 100, false, false⟩] })
def sOffD : State := { sPipB (fun h => { h with x := outOn5 (some 1000) none, y := outOn5 (some 1000) none }) with now := 801000 }
def sFb : State := { sPipB (fun h => { h with x := outOn5 none (some (1000, true)), y := outOn5 none (some (1000, true)) }) with now := 1201000 }
def sPairF : State :=
  { sPipB (fun h => { h with x := ⟨[], [⟨0, false, some 1000⟩], []⟩, y := ⟨[], [⟨0, false, some 1000⟩], []⟩ }) with now := 8001000 }
def pdu1 : Nat × Nat × Nat × List Nat := (1, 4, 77, List.replicate 20 0)
def sPdu : State := sPipB (fun h => { h with rx := [(0, 4, 76, []), pdu1] })
def conn1 : PConn := ⟨4, 2, 9, 1000, 0xFF, [], 0⟩
def sExp : State := sPipB (fun h => { h with y := ⟨[], [], [conn1]⟩ })
def sVec (t0 : Nat) : State :=
  let s := sPipB (fun h => { h with diff := some t0 })
  { s.on .A (fun l => { l with pip := { l.pip with x := outOn5 none none, y := outOn5 none none } }) with now := t0 + 40000000 }
def sMis : State := { sPipB (fun h => { h with mis := [(5, 1000)] }) with now := 21025 }

/-- Output 5 is on at both lanes; a switch test is due, or under way. -/
def sOn : State := sPipB (fun h => { h with x := outOn5 none none, y := outOn5 none none })
def sDue : State := sOn.on .A (fun l => { l.set F.SAFE_TEST_CFG.INTERVAL 60 with pip := { l.pip with aligned := true }, time := { l.time with acc := 60000000100 * 2 ^ 32 } })
def sTest : State := { sOn.on .A (fun l => { l with pip := { l.pip with testing := some (1, 1000, [5]) } }) with now := 81000 }

/-- The base wants a bridge for lane B, whose lane is not there, and has none. -/
def sBr : State :=
  let s := s0.on .A (fun l => { l.set F.SAFE_STAT.PIP_RUN 1 with start := { l.start with present := true } })
  { s with b := { s.b with sup := { s.b.sup with valid := true } } }
def sOver : State := { s2 with base := { s2.base with soOver := [(5, 900)] } }
def sSafeW : State := s2f (keyed 0x780 ∘ may 0x781000)
def sLoad : State := s2f (fun l => Lane.set { l with pip := { l.pip with inact := mx1 } } F.SAFE_LOAD_STAT.OWN 1)
def sAct : State :=
  s2f (fun l => { l with pip := { l.pip with inact := mx1, actAt := some (2 ^ 32 + 3) }, time := { l.time with acc := 300000 * 2 ^ 32 } })


/-- Lane A's capture engine runs; the capture is in a state, with or without a sequencer window. -/
def sCapt (st : Nat) (f : Lane → Lane) : State := sA (fun l => f ((runs captPage l).set F.CAPT_STAT.STATE st))
def sCapStart : State := sCapt 1 (fun l => { l with capt := { l.capt with startAt := some 400 }, time := { l.time with acc := 500 * 2 ^ 32 } })
def sCapFire : State :=
  sCapt 2 (fun l => { (((l.set (F.CAPT_TU_CFG.EN 63) 1).set (F.CAPT_ST_W0.A 0) 63).set (F.CAPT_ST_W0.ACTION 0) 1).set F.FI_CTRL.READY 1 with
    capt := { l.capt with t0 := 100, ts := 25600 }, time := { l.time with acc := 500 * 2 ^ 32 } })
def sCapWin : State := sCapt 3 (fun l => { (l.wr (Reg.CAPT_ST_TIMEOUT 0) 3#32).set (F.CAPT_ST_W0.TO_NEXT 0) 5 with time := { l.time with acc := 3000 * 2 ^ 32 } })
def sCapNone : State := sCapt 2 (fun l => { l.wr Reg.CAPT_ARM_MAX 1#32 with time := { l.time with acc := 1000000 * 2 ^ 32 } })
def sCapFull : State := sCapt 3 (fun l => { l.wr Reg.CAPT_POST 4#32 with capt := { l.capt with trig := some (900, 6), frames := 10 } })
def sCapOn : State := sCapt 2 (fun l => { l with time := { l.time with acc := 1000000 * 2 ^ 32 } })

/-- The recorder of lane A runs. -/
def sRec (f : Lane → Lane) : State := sA (fun l => f (((runs recPage l).set F.REC_PORT_CTRL.EN 1).set F.REC_PORT_CTRL.LINK 1))
def sRecSend : State := sRec (fun l => { l with recd := { l.recd with cnt := ⟨9, 0, []⟩, send := 8, mac := some 5 } })
def sRecSkip : State := sRec (fun l => { l.set F.REC_PORT_CTRL.EN 0 with recd := { l.recd with cnt := ⟨9 + holdSlots, 0, []⟩, send := 8 } })
def sRecDown : State := sRec (fun l => l.set F.REC_PORT_CTRL.LINK 0)
def sRecUp : State := sRec id
def sRecFl (q : List (Nat × Nat)) : State :=
  sRec (fun l => { l with recd := { l.recd with flashQ := q }, dram := [(0x5C0002003, 9#8)], ledger := { ledger0 with grants := [⟨⟨4, 2, 0, 0, 600, 0⟩, 600⟩] } })
def sRecFl2 : State := sRecFl [(7, 2), (8, 3)]
def sRecFl0 : State := sRecFl []

/-- The event log of lane A. -/
def lr (n : Nat) : LogRec := ⟨n, 5, 0, 0, 0, 1, 0, 0x0101, 77, [(4, n)]⟩
def sLog (f : LogH → LogH) : State := sA (fun l => { runs recPage (may 0x880100 l) with log := f { l.log with buf := [lr 70000, lr 70001], flash := [lr 3], next := 70002 } })
def sLog0 : State := sLog id
def sLogDrop : State := sLog (fun h => { h with dropped := 4 })
def sLogGo : State := (sLog (fun h => { h with rd := some (false, 5) })).on .A (fun l => l.wr Reg.LOG_RD_SEQ_LO 3#32)
def sLogNo : State := (sLog (fun h => { h with rd := some (false, 5) })).on .A (fun l => l.wr Reg.LOG_RD_SEQ_LO 4#32)
def sLogCopy : State :=
  (sLog (fun h => { h with rd := some (true, 5) })).on .A (fun l =>
    ((((l.wr Reg.LOG_RD_SEQ_LO 3#32).set F.LOG_RD_CTRL.COUNT 2).wr Reg.LOG_RD_DST_LO 0x80000000#32).set F.LOG_RD_DST_HI.ADDR 0x17))


/-- Words of an item: function 0, priority 3; with MIRROR, DELAYED, a deadline, NO_REPLY. -/
def wk (w0 w1 id dl : Nat) : List Nat := [0x1800 + w0, w1, id, 0, 0x11, 0x22, dl, 0]
def it1 (w0 w1 id dl : Nat) : Item := { itemOf (wk w0 w1 id dl) 0 with ready := some 600 }

/-- Seat 0 of lane A has staged a submission; an image with a result area. -/
def sSub (ws : List Nat) : State :=
  sA (fun l => { runs workPage (may 0x900040 l) with image := some { im0 with workAreas := [(0, 64)] }, work := { l.work with staged := [(0, ws)] } })
def sSub0 : State := sSub (wk 0 0x800 9 0)
def sSubDel : State := sSub (wk 0x200 0x800 9 40000)
def sSubMir : State := sSub (wk 0x400 0x800 9 8)
def sSubBad : State := sSub (wk 0 0 9 0)
def sCancel : State := (sSub0.on .A (fun l => (l.wr Reg.WORK_CANCEL_LO 9#32).withWork (fun h => { h with queue := [it1 0 0x800 9 0] })))

/-- The service cores of lane A. -/
def sWork (f : WorkH → WorkH) : State := sA (fun l => { runs workPage l with work := f l.work, image := some { im0 with workAreas := [(0, 64)] } })
def sDisp : State := sWork (fun h => { h with queue := [it1 0 0x800 9 0] })
def sIdleW : State := sWork id
def core3 : CoreH := ⟨3, it1 0 0x800 9 0, 700, none, []⟩
def core4 : CoreH := ⟨4, it1 0x400 0x800 9 8, 700, none, []⟩
def core5 : CoreH := ⟨5, { itemOf [0x11800, 0x800, 9, 0, 0, 4, 0, 0] 0 with ready := some 600 }, 700, none, [77]⟩
def sCore3 : State := sWork (fun h => { h with cores := [core3] })
def sCore4 : State := sWork (fun h => { h with cores := [core3, core4] })
def sDelay : State := (sWork (fun h => { h with delay := [it1 0x200 0x800 9 25000, it1 0x200 0x800 10 40000] })).on .A (fun l => { l with time := { l.time with acc := 20001 * 2 ^ 32 } })
def sAcyc : State :=
  { (sWork (fun h => { h with cores := [core5] })).on .A (fun l => { l with ring := { l.ring with acycOut := [⟨0, 0, 1, 77, []⟩] } }) with now := 40000700 }
def sWTrc : State := sWork (fun h => { h with trc := ⟨[], 3⟩ })
def sBoostW : State :=
  { (sWork (fun h => { h with queue := [it1 0 0x800 9 0] })).on .A (fun l => (l.set F.LEDGER_STAT.BUDGET 200).set F.WORK_BOOST.WAIT_US 10) with now := 4600 }
def sBoostI : State :=
  { (sWork (fun h => { h with idle := 600 })).on .A (fun l => { l.set F.WORK_BOOST.IDLE_MS 1 with ledger := { ledger0 with grants := [⟨⟨6, 2, 0, 0, 600, 0⟩, 600⟩] } }) with now := 400600 }

/-- SERVICE_BOOST is asked for in this CLK_REG cycle. -/
def rqB : LReq := ⟨6, 8, 1000000, 0, 600, 0⟩
def sBoostA : State := { sBoostW.on .A (fun l => { l with ledger := { ledger0 with asked := [rqB] } }) with now := 601 }

/-- FIFO 255 of lane A, which seat 0 may use. -/
def sFifo (d : Nat) (f : Fifo → Fifo) : State :=
  sA (fun l => { (runs (fifoPage 255) (may 0x98F000 l)).set (F.FIFO_CFG.DEPTH 255) d |>.set (F.FIFO_CFG.EN 255) 1 with fifos := [f ⟨255, [], [], 6, false, (0, 0, 0), [], 500⟩] })
def sFifo0 : State := sFifo 4 (fun h => { h with held := [1, 2, 3, 4] })
def sFifo8 : State := sFifo 4 (fun h => { h with held := [1, 2, 3, 4, 5, 6, 7, 8] })
def sFifoFull : State := sFifo 0 (fun h => { h with held := [1, 2, 3, 4, 5, 6, 7, 8], words := [⟨1, 2, 3, 4⟩] })
def sFifoOff : State := sFifo0.on .A (fun l => l.set (F.FIFO_CFG.EN 255) 0)
def sFifoFlush : State := { sFifo0.on .A (fun l => l.set (F.FIFO_CFG.FLUSH_US 255) 2) with now := 1300 }


/-- The interrupt controller of lane A: the cycle instance drives source 1023, which goes to a target and to a fallback. -/
def sIrq (tgt fb : Nat) (f : Lane → Lane) : State :=
  sA (fun l => f (((((((runs irqPage (may 0xA01200 (may 0xA06FFC l))).set (F.IRQ_ROUTE.TARGET 1023) tgt).set (F.IRQ_ROUTE.FALLBACK 1023) fb).wr
    (Reg.EV_ROUTE 0x100) 0x103FF#32).wr (Reg.EV_PEND 0x100) 1#32).wr (Reg.EV_MASK 0x100) 0#32).wr (Reg.IRQ_MASK 31) 0#32))
def bound0 (l : Lane) : Lane := (l.set (F.SEAT_STAT.BOUND 0) 1).set F.HOST_PCIE_STAT.DSTATE 0
def sIrqUp : State := sIrq 0x10 0x1F bound0
def sIrqSleep : State := sIrq 3 0x1F id
def sIrqLost : State := sIrq 0x10 0x1F (fun l => l.wr (Reg.IRQ_PEND 31) 0x80000000#32)
def waits1 (l : Lane) : Lane := { l.wr (Reg.IRQ_PEND 31) 0x80000000#32 with irq := { l.irq with level := [1023], waits := [⟨1023, 3, 1000, false⟩] } }
def sIrqWake : State := sIrq 3 0x1F waits1
def sIrqNone : State := { sIrqWake with now := 21000 }
def sIrqFall : State := { sIrq 3 0x10 (waits1 ∘ bound0) with now := 21000 }
def sIrqW : State := sA (fun l => may 0xA01200 (may 0xA06FFC (may 0xA03400 (l.wr (Reg.IRQ_PEND 5) 0xFF#32))))
def sRoute (t : Nat) : State := sIrqW.on .A (fun l => l.set (F.IRQ_ROUTE.TARGET 1023) t)
def sRouteUp : State := sRoute 0x11
def sRouteCore : State := sRoute 2

/-- DMA channel 63 of lane A, in a state, with a shadow set. -/
def sh1 (fl : Nat) : List Nat := [0x100, 0x10, 0x5000, 0x10, 32, fl, 0, 0]
def sDma (st : Nat) (ws : List Nat) (c : DmaC) : State :=
  sA (fun l => ((runs (dmaPage 63) (may 0xAC0000 ((List.range 8).foldl (fun m k => m.wr (Reg.DMA_CH_SH_W 63 k) (word (ws.getD k 0))) l))).set
    (F.DMA_CH_STAT.STATE 63) st) |> fun m => { m with dma := { m.dma with chans := [c] }, dram := [(0x100, 5#8), (0x11F, 6#8), (0x5000, 9#8)] })
def dc1 : DmaC := ⟨63, sh1 0x04B20000, 0, none, none, none⟩
def flMem : Nat := 2 * 2 ^ 25 + 2 * 2 ^ 22 + 2 ^ 21 + 2 ^ 20 + 2 ^ 17
def flHost : Nat := flMem + 2 ^ 30 + 2 ^ 28
def dcM : DmaC := ⟨63, sh1 flMem, 0, none, none, none⟩
def dcH : DmaC := ⟨63, sh1 flHost, 0, none, none, none⟩
def dcF : DmaC := ⟨63, [7, 0, 0x8000, 0, 32, 2 * 2 ^ 30 + 1 * 2 ^ 28 + 4 * 2 ^ 25 + 4 * 2 ^ 22 + 2 ^ 20, 0, 0], 16, none, none, none⟩
def sDmaIdle : State := sDma 0 (sh1 flHost) dcH
def sDmaBad : State := sDma 0 [0, 0, 0, 0, 0, 0, 0, 0] dcH
def sDmaRun : State := sDma 1 (sh1 flHost) dcH
def sDmaPend : State := sDma 1 (sh1 flHost) { dcH with pend := some 3 }
def sDmaStop : State := (sDma 4 (sh1 flHost) dcH).on .A (fun l => l.set (F.DMA_CH_CTRL.PAUSE 63) 1)
def sDmaHalt : State := (sDma 5 (sh1 flHost) dcH).on .A (fun l => l.set (F.DMA_CH_HALT.CAUSE 63) 2)
def sDmaMem : State := sDma 1 (sh1 flMem) dcM
def sDmaNext : State :=
  (sDma 1 (sh1 flHost) { dcH with next := some (0, 0x1000000200) }).on .A (fun l => { l with dram := putList l.dram 0x200 (((sh1 flHost).map (leBytes 4)).flatten) })
def sDmaHost : State := sDma 1 (sh1 flHost) { dcH with next := some (1, 0x9000) }
def sDmaPausing : State := sDma 3 (sh1 flHost) dcH
def sDmaFifo : State := (sDma 2 (sh1 flHost) dcF).on .A (fun l => { l with fifos := [⟨7, [⟨1, 2, 3, 4⟩], [], 6, false, (0, 0, 0), [], 500⟩] })


/-- The PCIe endpoint of lane A: its link, its binding to seat 2, tokens of that seat. -/
def sPcie (lk bd : Nat) (ts : List Token) : State :=
  sA (fun l => { (((l.set F.HOST_PCIE_CFG.SEAT 2).set F.HOST_PCIE_STAT.LINK lk).set F.HOST_PCIE_STAT.BOUND bd).set (F.SEAT_STAT.BOUND 2) bd with
    acc := { l.acc with tokens := ts }, irq := { l.irq with waits := [⟨9, 0x12, 700, false⟩] } })
def sPcieDown : State := sPcie 0 0 []
def sPcieUp : State := sPcie 1 1 []
def sPcieTok : State := sPcie 1 1 [⟨0x88, 2⟩]

/-- HAP: the key of session 3 of seat 0, a request datagram, what it spells. -/
def hk : List Nat := List.replicate 32 7
def hreq (ty nops : Nat) (body key : List Nat) : List Nat := hapBytes ty 0 0 0 3 5 nops 0 body key
def readOp : List Nat := HapOp.bytes ⟨1, 2, 1, 0x100040, 0, []⟩
def spelt (bs : List Nat) : Dgram := (Dgram.parse bs).getD ⟨0, 0, 0, 0, 0, 0, [], [], []⟩
def sHap (f : Lane → Lane) : State :=
  let g (l : Lane) : Lane := { may 0x100040 l with
    car := { l.car with hap := ⟨3, [⟨0, 3, hk, 2 ^ 32 + 1⟩]⟩ }, store := { l.store with seats := some ⟨1, [], [(0, hk)], 0, 0, 0, 0, 100, 0⟩ } }
  { sA (f ∘ g) with b := g s0.b }
def sHap0 : State := sHap id
def sHapHeld : State := sHap (fun l => { l with host := { l.host with hap := [⟨0, some 5, [(5, [1, 2, 3])], 0, 0, []⟩] } })
def sHapNo : State := s0
def sHapIdle : State :=
  { s2f (fun l => { l.set F.HOST_HAP_CFG.IDLE_S 1 with car := { l.car with hap := ⟨3, [⟨7, 3, hk, 5⟩]⟩ } }) with now := 7 }
def bsRead : List Nat := hreq 0x01 1 readOp hk
def bsBad : List Nat := hreq 0x01 1 readOp (List.replicate 32 8)
def bsClose : List Nat := hreq 0x12 0 [] hk
def bsAlive : List Nat := hreq 0x13 0 [] hk
def bsOpen : List Nat := hreq 0x10 0 (List.replicate 16 9) hk

/-- The inputs of the host block. -/
def sSec (r f : Nat) : State :=
  sA (fun l => (Lane.set { keyed 0xB00 (may 0xB03048 l) with host := { l.host with keyHash := some 4 } } F.HOST_SEC_STAT.RUNNING r).set F.HOST_SEC_STAT.FUSED f)
def sSec32 : State := sSec 3 2
def acc5 : Acc := ⟨.A, 5, .hapNormal, 7⟩
def sSec5 : State :=
  sSec32.on .A (fun l => (Lane.set { l with acc := { l.acc with keys := [⟨5, 0xB00, .opened 900⟩] } } (F.BLK_CTRL.ENABLE 0x45) 1).wr
    (Reg.SEAT_RIGHTS_PAGE 5 (0xB03 / 16)) 0xAAAAAAAA#32)
def sTr (d : List (Nat × Nat × Nat)) : State :=
  sA (fun l => { (l.set F.HOST_TR_STAT.LINK 1).set F.HOST_TR_STAT.XHOP 1 with host := { l.host with dups := d } })
def sTr0 : State := sTr []
def sTrDup : State := sTr [(5, 6, 900)]
def sTrOld : State := { sTrDup with now := 900 + dupAge }

/-- Memory integrity. -/
def sMem (f : Lane → Lane) : State := sA (fun l => f (runs memiPage l))
def sMem0 : State := sMem id
def sMemV : State := sMem (fun l => l.set F.MEMI_LAST.VALID 1)

/-! ### Commands go on -/

/-- The outcome is a next state. -/
def goesOn (o : Host.Outcome State Fault Refusal) : Bool := match o with | .next _ => true | _ => false

theorem next_of {o : Host.Outcome State Fault Refusal} (h : goesOn o = true) : ∃ t, o = .next t := by
  cases o with
  | next t => exact ⟨t, rfl⟩
  | fault _ => cases h
  | refused _ => cases h

/-- Two commands wait. -/
def sQueue : State := { s0 with pending := [.pllLoss .A, .grantEnd .B] }

theorem test_StepRunsFront : sQueue.pending = .pllLoss .A :: [.grantEnd .B] ∧ s0.pending = [] := by decide +kernel

theorem test_StepKeepsTheBaseInOrder : sQueue.baseOk ∧ ∃ t, step sQueue = .next t :=
  ⟨⟨(fun _ e => by cases e; exact ⟨rfl, rfl⟩), (fun _ e => by cases e), (fun e => by cases e), by decide +kernel, (fun _ e => by cases e)⟩,
    next_of (by decide +kernel)⟩

theorem test_CommandsLeaveTheQueue : ∃ t, exec .toggleStop s0 = .next t := next_of (by decide +kernel)

theorem test_CommandsOfALaneStayThere : ∃ t, exec (.overcurrent .B 15 3000) s2 = .next t := next_of (by decide +kernel)

/-! ### WellFormed: an ill-formed term for each check, which it refuses, and operands at the bounds, which it takes -/

/-- Commands with an operand outside its range (1). -/
def ill0 : List Instr :=
  [.cartridgeSeated .A { cart1 with serial := 2 ^ 64 },
   .cartridgeSeated .A { cart1 with banks := [none] },
   .supplyChg .A false 256,
   .timeTrigger .A 32,
   .ttCtrl accA 32 0#32,
   .ttTgtHi accA 32 0#32,
   .ppsIn .A 16,
   .timeNowLo accA (2 ^ 40) 4,
   .timeNowLo accA 0 0,
   .timeNowLo accA 0 4097,
   .cycleBoundary ⟨[(64, 0)], []⟩ noIn,
   .cycleBoundary noIn ⟨[], [(16, 0, 0, 0, false)]⟩,
   .nodeFire .A 65535,
   .nodeComplete .A 65535,
   .nodeCut 65535 false false,
   .activationWithdrawn .A 65535,
   .fwStart accA 0#32 (some ⟨true, 64, 0⟩),
   .linkChg 4 false,
   .lockKey accA 4096 0#32,
   .keyWindow .A 8 0]

theorem test_ill0 : ill0.all (fun c => c.wf == false) = true := by decide +kernel

/-- Commands with an operand outside its range (2). -/
def ill1 : List Instr :=
  [.keyWindow .A 0 4096,
   .softReset accA 4096 0#32,
   .softResetDone .A 4096,
   .freeze accA 4096 0#32,
   .enable accA 4096 0#32,
   .evSet accA 4096 0#32,
   .evPend accA 4096 0#32,
   .errCodeClr accA 4096 0#32,
   .claim accA 8 0#32,
   .tokenRelease accA 8 0#32,
   .seatTokenQuery accA 8 0#32,
   .seatViolInfo accA 8 0#32,
   .seatRightsPage accA 8 0 0#32,
   .seatRightsPage accA 0 4096 0#32,
   .seatRightsPage accA 0 2 0#32,
   .registerWrite accA (2 ^ 40) 4 0,
   .registerWrite accA 0 4 (2 ^ 32),
   .registerWrite accA 0 0 0,
   .registerWrite accA 0 4097 0,
   .ledgerRequest .A 7 0 0 0]

theorem test_ill1 : ill1.all (fun c => c.wf == false) = true := by decide +kernel

/-- Commands with an operand outside its range (3). -/
def ill2 : List Instr :=
  [.ledgerRelease .A 7 0,
   .loopTableWrite accA (2 ^ 40) 4 0,
   .loopTableWrite accA 0 4 (2 ^ 32),
   .loopTableWrite accA 0 0 0,
   .loopTableWrite accA 0 4097 0,
   .logicRun accA 128 0#32,
   .logicHold accA 128 0#32,
   .logicStop accA 128 0#32,
   .logicStep accA 128 0#32,
   .exchReady .A { im0 with sl := 2 ^ 32 },
   .exchReady .A { im0 with version := 2 ^ 32 },
   .recipeStart accA 32 0#32,
   .recipeHold accA 32 0#32,
   .recipeResume accA 32 0#32,
   .recipeAbort accA 32 0#32,
   .ringFrameReceive .A 24 false false 0 0 [],
   .ringFrameReceive .A 0 false false 0 0 [256],
   .ringFrameReceive .A 0 false false 0 0 (List.replicate 8301 0),
   .ringStaAbsent accA 24 0 0#32,
   .ringStaAbsent accA 0 64 0#32]

theorem test_ill2 : ill2.all (fun c => c.wf == false) = true := by decide +kernel

/-- Commands with an operand outside its range (4). -/
def ill3 : List Instr :=
  [.ringStaReturn accA 24 0 0#32,
   .ringStaReturn accA 0 64 0#32,
   .ringLinkChg .A 24 0 false,
   .ringLinkChg .A 0 3 false,
   .phyTrainDone .A 24 0,
   .phyTrainRetry .A 24,
   .ainChCfg accA 64 0#32,
   .aoRbFault .A 32 0,
   .axisEnable accA 256 0#32,
   .axisDisable accA 256 0#32,
   .moveAbs accA 256 0#32,
   .moveRel accA 256 0#32,
   .velocity accA 256 0#32,
   .follow accA 256 0#32,
   .axisStop accA 256 0#32,
   .quickstop accA 256 0#32,
   .home accA 256 0#32,
   .axisAck accA 256 0#32,
   .axisPe accA (2 ^ 40) 4 0,
   .axisPe accA 0 4 (2 ^ 32)]

theorem test_ill3 : ill3.all (fun c => c.wf == false) = true := by decide +kernel

/-- Commands with an operand outside its range (5). -/
def ill4 : List Instr :=
  [.axisPe accA 0 0 0,
   .axisPe accA 0 4097 0,
   .pwmBoundary 16 [] [],
   .overcurrent .A 16 0,
   .mclkFault .A 16,
   .pbusArbitration 12,
   .pbusFrameAccepted 12 bf1 0 0 0,
   .pbusFrameAccepted 0 bf1 0 16 0,
   .pbusFrameAccepted 0 bf1 0 0 16,
   .pbusFrameAccepted 0 { bf1 with idw := 2 ^ 32 } 0 0 0,
   .pbusFrameAccepted 0 { bf1 with data := List.replicate 65 0 } 0 0 0,
   .pbusFrameAccepted 0 { bf1 with data := [256] } 0 0 0,
   .pbusError 12 0,
   .recovered 12,
   .pbusCancel accA 12 0#32,
   .pbusSend accA 12 0#32,
   .recReq accA 12 0#32,
   .diEdge 128 false,
   .pipFault .A 5 0,
   .offDelay .A 400]

theorem test_ill4 : ill4.all (fun c => c.wf == false) = true := by decide +kernel

/-- Commands with an operand outside its range (6). -/
def ill5 : List Instr :=
  [.edmFault .A 64,
   .pairFault .A 64,
   .sksPdu .A 2,
   .sksExpiry .A 2,
   .switchTestEnd .A [(64, 0)],
   .switchTestEnd .A [(0, 3)],
   .toReadback .A 16,
   .triggerFiring .A 64 false 0,
   .triggerFiring .A 0 false 16,
   .arpResolve .A false (some (2 ^ 48)),
   .logFlashWrite .A 1025,
   .workDone .A 16,
   .acycTimeout .A 16,
   .fifoWr accA 256 0#32,
   .fifoWrEnd accA 256 0#32,
   .fifoFlush .A 256,
   .fifoRd0 accA 256 4,
   .fifoRd0 accA 0 0,
   .fifoRd0 accA 0 4097,
   .irqLevelRise .A 1024]

theorem test_ill5 : ill5.all (fun c => c.wf == false) = true := by decide +kernel

/-- Commands with an operand outside its range (7). -/
def ill6 : List Instr :=
  [.irqSet accA 32 0#32,
   .irqPend accA 32 0#32,
   .irqMask accA 32 0#32,
   .irqRoute accA 1024 0#32,
   .targetWake .A 32,
   .wakeTimeout .A 32,
   .doorbell accA 64 0#32,
   .dmaPause accA 64 0#32,
   .paused .A 64 0 [],
   .paused .A 0 0 [256],
   .dmaResume accA 64 0#32,
   .dmaAbort accA 64 0#32,
   .descriptorFetch .A 64 [],
   .descriptorFetch .A 0 [256],
   .descDone .A 64 [],
   .descDone .A 0 [256],
   .dmaTimeout .A 64 0 0 [],
   .dmaTimeout .A 0 0 3 [],
   .dmaTimeout .A 0 0 0 [256],
   .dmaCompletionError .A 64 0 0 []]

theorem test_ill6 : ill6.all (fun c => c.wf == false) = true := by decide +kernel

/-- Commands with an operand outside its range (8). -/
def ill7 : List Instr :=
  [.dmaCompletionError .A 0 0 3 [],
   .dmaCompletionError .A 0 0 0 [256],
   .dmaFifoData .A 64,
   .scrub .A (2 ^ 72) none,
   .scrub .A 0 (some [256]),
   .scrub .A 0 (some (List.replicate 65 0)),
   .pcieBindingEnd .A 4,
   .hapRequest .A (2 ^ 32) 0 false false [],
   .hapRequest .A 0 (2 ^ 16) false false [],
   .hapRequest .A 0 0 false false [256],
   .hapOpen .A (2 ^ 32) 0 [],
   .hapOpen .A 0 (2 ^ 16) [],
   .hapOpen .A 0 0 [256],
   .hapClose .A (2 ^ 32) 0 [],
   .hapClose .A 0 (2 ^ 16) [],
   .hapClose .A 0 0 [256],
   .hapKeepalive .A (2 ^ 32) 0 [],
   .hapKeepalive .A 0 (2 ^ 16) [],
   .hapKeepalive .A 0 0 [256],
   .sessionIdle 8]

theorem test_ill7 : ill7.all (fun c => c.wf == false) = true := by decide +kernel

/-- Commands with an operand outside its range (9). -/
def ill8 : List Instr :=
  [.toolRingFrame .A false (2 ^ 48) 0 false false false,
   .toolRingFrame .A false 0 (2 ^ 16) false false false,
   .seatRead accA (2 ^ 40) 4,
   .seatRead accA 0 0,
   .seatRead accA 0 4097,
   .uncorrectableRead .A (.dram 536870912 0 none) .engine,
   .uncorrectableRead .A (.dram 0 (2 ^ 72) none) .engine,
   .uncorrectableRead .A (.dram 0 0 (some [256])) .engine,
   .uncorrectableRead .A (.sram 73) .port,
   .uncorrectableRead .A (.die 4096 false 0) .port,
   .uncorrectableRead .A (.die 0 false 73) .port,
   .uncorrectableRead .A (.sram 0) (.seat 8),
   .uncorrectableRead .A (.sram 0) (.dma 64 0 0),
   .uncorrectableRead .A (.sram 0) (.dma 0 0 3),
   .dstateChg .A 1,
   .arpRequest .A 2 0,
   .peerDelay .A 16 0 0,
   .peerDelay .A 0 0 16,
   .filterHold .A 64 0,
   .fastSample [(8, 0)] []]

theorem test_ill8 : ill8.all (fun c => c.wf == false) = true := by decide +kernel

/-- Commands with an operand outside its range (10). -/
def ill9 : List Instr :=
  [.fastSample [] [(8, 0)],
   .limitInput .A 16 0 false 0 0,
   .limitInput .A 0 4 false 0 0,
   .limitInput .A 0 0 false 0 16,
   .receiveError 12 0,
   .soOverload 64,
   .overloadRetry 64,
   .onDieScrub .A 4096 false 0]

theorem test_ill9 : ill9.all (fun c => c.wf == false) = true := by decide +kernel

/-- Commands with each operand at its bound (1). -/
def well0 : List Instr :=
  [.cartridgeSeated .A cart1,
   .supplyChg .A false 255,
   .timeTrigger .A 31,
   .ttCtrl accA 31 0#32,
   .ttTgtHi accA 31 0#32,
   .ppsIn .A 15,
   .timeNowLo accA (2 ^ 40 - 4) 4,
   .cycleBoundary noIn noIn,
   .nodeFire .A 65534,
   .nodeComplete .A 65534,
   .nodeCut 65534 false false,
   .activationWithdrawn .A 65534,
   .fwStart accA 0#32 none,
   .linkChg 3 false,
   .lockKey accA 4095 0#32,
   .keyWindow .A 7 4095,
   .softReset accA 4095 0#32,
   .softResetDone .A 4095,
   .freeze accA 4095 0#32,
   .enable accA 4095 0#32]

theorem test_well0 : well0.all (fun c => c.wf == true) = true := by decide +kernel

/-- Commands with each operand at its bound (2). -/
def well1 : List Instr :=
  [.evSet accA 4095 0#32,
   .evPend accA 4095 0#32,
   .errCodeClr accA 4095 0#32,
   .claim accA 7 0#32,
   .tokenRelease accA 7 0#32,
   .seatTokenQuery accA 7 0#32,
   .seatViolInfo accA 7 0#32,
   .seatRightsPage accA 7 4092 0#32,
   .registerWrite accA (2 ^ 40 - 4) 4 (2 ^ 32 - 1),
   .ledgerRequest .A 6 0 0 0,
   .ledgerRelease .A 6 0,
   .loopTableWrite accA (2 ^ 40 - 4) 4 (2 ^ 32 - 1),
   .logicRun accA 127 0#32,
   .logicHold accA 127 0#32,
   .logicStop accA 127 0#32,
   .logicStep accA 127 0#32,
   .exchReady .A im0,
   .recipeStart accA 31 0#32,
   .recipeHold accA 31 0#32,
   .recipeResume accA 31 0#32]

theorem test_well1 : well1.all (fun c => c.wf == true) = true := by decide +kernel

/-- Commands with each operand at its bound (3). -/
def well2 : List Instr :=
  [.recipeAbort accA 31 0#32,
   .ringFrameReceive .A 23 false false 0 0 [255],
   .ringStaAbsent accA 23 63 0#32,
   .ringStaReturn accA 23 63 0#32,
   .ringLinkChg .A 23 2 false,
   .phyTrainDone .A 23 0,
   .phyTrainRetry .A 23,
   .ainChCfg accA 63 0#32,
   .aoRbFault .A 31 0,
   .axisEnable accA 255 0#32,
   .axisDisable accA 255 0#32,
   .moveAbs accA 255 0#32,
   .moveRel accA 255 0#32,
   .velocity accA 255 0#32,
   .follow accA 255 0#32,
   .axisStop accA 255 0#32,
   .quickstop accA 255 0#32,
   .home accA 255 0#32,
   .axisAck accA 255 0#32,
   .axisPe accA (2 ^ 40 - 4) 4 (2 ^ 32 - 1)]

theorem test_well2 : well2.all (fun c => c.wf == true) = true := by decide +kernel

/-- Commands with each operand at its bound (4). -/
def well3 : List Instr :=
  [.pwmBoundary 15 [] [],
   .overcurrent .A 15 0,
   .mclkFault .A 15,
   .pbusArbitration 11,
   .pbusFrameAccepted 11 bf1 0 15 15,
   .pbusError 11 0,
   .recovered 11,
   .pbusCancel accA 11 0#32,
   .pbusSend accA 11 0#32,
   .recReq accA 11 0#32,
   .diEdge 127 false,
   .pipFault .A 2 0,
   .offDelay .A 399,
   .edmFault .A 63,
   .pairFault .A 63,
   .sksPdu .A 1,
   .sksExpiry .A 1,
   .switchTestEnd .A [],
   .toReadback .A 15,
   .safeLoad accA 0#32 none]

theorem test_well3 : well3.all (fun c => c.wf == true) = true := by decide +kernel

/-- Commands with each operand at its bound (5). -/
def well4 : List Instr :=
  [.triggerFiring .A 63 false 15,
   .arpResolve .A false none,
   .logFlashWrite .A 1024,
   .workDone .A 15,
   .acycTimeout .A 15,
   .fifoWr accA 255 0#32,
   .fifoWrEnd accA 255 0#32,
   .fifoFlush .A 255,
   .fifoRd0 accA 255 4,
   .irqLevelRise .A 1023,
   .irqSet accA 31 0#32,
   .irqPend accA 31 0#32,
   .irqMask accA 31 0#32,
   .irqRoute accA 1023 0#32,
   .targetWake .A 31,
   .wakeTimeout .A 31,
   .doorbell accA 63 0#32,
   .dmaPause accA 63 0#32,
   .paused .A 63 0 [255],
   .dmaResume accA 63 0#32]

theorem test_well4 : well4.all (fun c => c.wf == true) = true := by decide +kernel

/-- Commands with each operand at its bound (6). -/
def well5 : List Instr :=
  [.dmaAbort accA 63 0#32,
   .descriptorFetch .A 63 [255],
   .descDone .A 63 [255],
   .dmaTimeout .A 63 0 2 [255],
   .dmaCompletionError .A 63 0 2 [255],
   .dmaFifoData .A 63,
   .scrub .A (2 ^ 72 - 1) none,
   .pcieBindingEnd .A 3,
   .hapRequest .A (2 ^ 32 - 1) (2 ^ 16 - 1) false false [255],
   .hapOpen .A (2 ^ 32 - 1) (2 ^ 16 - 1) [255],
   .hapClose .A (2 ^ 32 - 1) (2 ^ 16 - 1) [255],
   .hapKeepalive .A (2 ^ 32 - 1) (2 ^ 16 - 1) [255],
   .sessionIdle 7,
   .keyChg accA 0#32 none,
   .toolRingFrame .A false (2 ^ 48 - 1) (2 ^ 16 - 1) false false false,
   .seatRead accA (2 ^ 40 - 4) 4,
   .uncorrectableRead .A (.sram 0) (.seat 0),
   .dstateChg .A 0,
   .arpRequest .A 1 0,
   .peerDelay .A 15 0 15]

theorem test_well5 : well5.all (fun c => c.wf == true) = true := by decide +kernel

/-- Commands with each operand at its bound (7). -/
def well6 : List Instr :=
  [.filterHold .A 63 0,
   .fastSample [] [],
   .limitInput .A 15 3 false 0 15,
   .receiveError 11 0,
   .soOverload 63,
   .overloadRetry 63,
   .onDieScrub .A 4095 false 0]

theorem test_well6 : well6.all (fun c => c.wf == true) = true := by decide +kernel
/-! ### Small tests of single steps: the worked examples of the manual, and results worked out from its rules -/

/-- The lane that a command leaves, lane A of reset if it stops. -/
def after (c : Instr) (s : State) (i : LaneId) : Lane := match exec c s with | .next t => t.lane i | _ => State.reset.a

/-- Chapter 03, worked example: a stamp across the wrap. -/
theorem test_extendTs_wrap : extendTs 0xFFFFF800 0x1800000000001000 = 0x17FFFFFFFFFFF800 := by decide +kernel

/-- Chapter 03, worked example: bin 11 after 1,000,000,001.25 ns. -/
theorem test_fineStamp_edge : fineStamp (1000000001 * 2 ^ 32 + 0x40000000) (5 * 2 ^ 31) 11 = (1000000002, 248) := by decide +kernel

/-- Chapter 02, worked example: seat 6 holds the token of PB07 and writes 16 bits to it over PCIe. -/
def sPb07 : State :=
  sA (fun l => (Lane.wr { l with acc := { l.acc with tokens := [⟨0x70070, 6⟩] } } 0x465C0 0xC000#32).set (F.BLK_CTRL.ENABLE 0x46) 1)

theorem test_registerWrite_width : (after (.registerWrite ⟨.A, 6, .pcie, 0⟩ 0x707048 2 5) sPb07 .A).rd (Reg.SEAT_VIOL_INFO 6) = 0x85000180#32 ∧
    (after (.registerWrite ⟨.A, 6, .pcie, 0⟩ 0x707048 2 5) sPb07 .A).rd (Reg.SEAT_VIOL_ADDR 6) = 0x707048#32 := by decide +kernel

/-- Chapter 04, worked example: a pool of 14 quanta, FLASH_STD and PHY_TRAIN granted; FAST_ARM and CAPTURE take FLASH_STD's. -/
def led14 : Lane :=
  { (((up 0).set F.LEDGER_STAT.BUDGET 96).set F.LEDGER_BOOK.STANDING 82).set F.CYCLE_STAT.PROFILE 3 with
    ledger := { ledger0 with grants := [⟨⟨4, 6, 0, 0, 600, 0⟩, 600⟩, ⟨⟨3, 2, 0, 1, 600, 3⟩, 600⟩], arrivals := 2 } }

theorem test_ledger_capture :
    (let l := ((led14.ledgerAsk 1 4 0 0 1000).ledgerAsk 2 8 0 0 1000).ledgerDecide 1000
     (l.ledger.grants.map (fun g => (g.req.cls, g.req.quanta)) == [(3, 2), (1, 4), (2, 8)]) && (l.get F.LEDGER_STAT.FREE == 0)) = true := by
  decide +kernel

/-- Chapter 04, worked example: the cycle of a warm resumption, 420,032 µs after t_(1,000,001) at a period of 50 µs. -/
theorem test_resumeCycle :
    (let l := ((up 0).set F.CYCLE_PERIOD.NS 50000).set64 Reg.CYCLE_ORG_NUM_LO Reg.CYCLE_ORG_NUM_HI 0
     Lane.resumeCycle { l with start := { l.start with ready := some (l.tOf 1000001 + 420032000) } } 1000000) = 1008402 := by decide +kernel

/-- Chapter 12, worked example: the phases of a throttle-valve step of 4,000 counts. -/
theorem test_phases_valve : phasesOf (4000 * 2 ^ 32) (2 ^ 32) (2 ^ 22) (2 ^ 14) = (256, 768, 2720) := by decide +kernel

/-- Chapter 11, worked example: a gauge whose conversions drift apart, cycles N, N + 1 and N + 3. -/
def aiWord (v : Nat) : Word := word v
def ain0 : AinC := ⟨17, 0, 0, false, 0, false, 0, 0#32, 0, 0#32, 0⟩
def ainN : AinC := agreeWord ain0 (aiWord 512340) (some (aiWord 512290)) true true 512 16
def ainN1 : AinC := agreeWord ainN (aiWord 512400) (some (aiWord 513100)) true true 512 16
def ainN3 : AinC :=
  agreeWord (agreeWord ainN1 (aiWord 512410) (some (aiWord 513200)) true true 512 16) (aiWord 512380) (some (aiWord 513150)) true true 512 16

theorem test_agreement : bits ainN.word 23 0 = 512315 ∧ bits ainN1.word 23 0 = 512315 ∧ bits ainN1.word 31 30 = 1 ∧ bits ainN1.word 28 28 = 1 ∧
    bits ainN3.word 23 0 = 512380 ∧ bits ainN3.word 31 30 = 3 ∧ bits ainN3.word 28 28 = 1 ∧ bits ainN3.word 26 26 = 1 := by decide +kernel

/-- Chapter 13, worked example: the 12th error of bus PB03 brings TEC to 96 and WARN, the 16th makes it error-passive, the 32nd bus-off. -/
def sPb (tec : Nat) : State :=
  s2.on .A (fun l => Lane.set { l with pbus := { l.pbus with queue := [{ fr1 with bus := 3, active := true }], ctls := [⟨3, tec, 0, if tec < 128 then 0 else 1, false⟩] } }
    (F.PBUS_CTRL.EWL 3) 96)

theorem test_pbusError_warn : (after (.pbusError 3 8) (sPb 88) .A).get (F.PBUS_STAT.WARN 3) = 1 ∧ (after (.pbusError 3 8) (sPb 80) .A).get (F.PBUS_STAT.WARN 3) = 0 := by
  decide +kernel

theorem test_pbusError_passive_off :
    (after (.pbusError 3 8) (sPb 120) .A).get (F.PBUS_STAT.STATE 3) = 1 ∧ 2 ≤ (after (.pbusError 3 8) (sPb 248) .A).get (F.PBUS_STAT.STATE 3) := by decide +kernel

/-- R72: 24 V stand as 120 units of 0.2 V; an entry of 18 V is valid. -/
theorem test_supplyChg : (after (.supplyChg .A false 120) s0 .A).get F.SYS_SUPPLY.PWR1_V = 120 ∧
    (after (.supplyChg .A false 90) s0 .A).get F.SYS_SUPPLY.PWR1_OK = 1 := by decide +kernel

/-- R102: an entry takes effect two cycles on. -/
theorem test_captArm_effect :
    ((after (.captArm accA 0x10#32) (sMay 0x800000) .A).pair.entries.map Entry.effect == [2 ^ 32 + 7]) = true := by decide +kernel

/-- R324: the seal's CRC-32C gives the check value of that polynomial for the digits 1 to 9. -/
theorem test_crc32c : crc32c [0x31, 0x32, 0x33, 0x34, 0x35, 0x36, 0x37, 0x38, 0x39] = 0xE3069283 := by decide +kernel


/-! ### A state and operands that meet the hypotheses of each statement -/

theorem test_HeaderEventWritesComplete :
    (((sMay 0x100028 : State).calm accA.lane) ∧ (0x100 < 0x1000) ∧ ((blkOf 0x100).isSome = true) ∧ ((sMay 0x100028 : State).serves accA
    (Reg.LOCK_KEY 0x100) 4 true (0x7A3C#32 : Word).toNat)) ∧
    (((sMay 0x100018 : State).calm accA.lane) ∧ (0x103 < 0x1000) ∧ ((blkOf 0x103).isSome = true) ∧ ((sMay 0x100018 : State).serves accA
    (Reg.EV_SET 0x103) 4 true (0x5#32 : Word).toNat)) ∧
    (((sMay 0x100010 : State).calm accA.lane) ∧ (0x100 < 0x1000) ∧ ((blkOf 0x100).isSome = true) ∧ ((sMay 0x100010 : State).serves accA
    (Reg.EV_PEND 0x100) 4 true (0x2#32 : Word).toNat)) :=
  ⟨by decide +kernel,
   by decide +kernel,
   by decide +kernel⟩

theorem test_KeySequenceOpens :
    (((sMay 0x100028 : State).calm accA.lane) ∧ (0x100 < 0x1000) ∧ ((blkOf 0x100).isSome = true) ∧ ((sMay 0x100028 : State).serves accA
    (Reg.LOCK_KEY 0x100) 4 true (0x7A3C#32 : Word).toNat) ∧ ((0x7A3C#32 : Word).toNat % 2 ^ 16 = 0x7A3C)) ∧
    (sKey1.calm accA.lane ∧ (0x101 < 0x1000) ∧ ((blkOf 0x101).isSome = true) ∧ (sKey1.serves accA (Reg.LOCK_KEY 0x101) 4 true (0x85C3#32 :
    Word).toNat) ∧ ((0x85C3#32 : Word).toNat % 2 ^ 16 = 0x85C3) ∧ ((sKey1.lane accA.lane).acc.keys.find? (fun k => k.seat == accA.seat.val &&
    k.inst == instPage 0x101) = some ⟨accA.seat.val, instPage 0x101, .first⟩)) ∧
    (sKey1.calm accA.lane ∧ (0x100 < 0x1000) ∧ ((blkOf 0x100).isSome = true) ∧ (sKey1.serves accA (Reg.LOCK_KEY 0x100) 4 true (0x85C2#32 :
    Word).toNat) ∧ ((0x85C2#32 : Word).toNat % 2 ^ 16 ≠ 0x7A3C) ∧ ((0x85C2#32 : Word).toNat % 2 ^ 16 ≠ 0x85C3)) :=
  ⟨by decide +kernel,
   by decide +kernel,
   by decide +kernel⟩

theorem test_KeyWindowCloses :
    ((sKey2.lane (LaneId.A : LaneId)).acc.keys.find? (fun k => k.seat == 0 && k.inst == instPage 0x101) = some ⟨0, instPage 0x101, .opened
    800⟩) :=
  by decide +kernel

theorem test_InstanceControlWritesComplete :
    (((sMay 0x100008 : State).calm accA.lane) ∧ (0x100 < 0x1000) ∧ ((blkOf 0x100).isSome = true) ∧ ((blkOf 0x100).map Blk.ty ≠ some 0x04) ∧
    ((sMay 0x100008 : State).serves accA (Reg.BLK_CTRL 0x100) 4 true (0x1#32 : Word).toNat) ∧ (bits (0x1#32 : Word) 2 2 = 0) ∧ ((Instr.enable
    accA 0x100 0x1#32) = Instr.enable accA 0x100 (0x1#32 : Word) ∨ (Instr.enable accA 0x100 0x1#32) = .freeze accA 0x100 (0x1#32 : Word))) ∧
    (((sMay 0x100008 : State).calm accA.lane) ∧ (0x103 < 0x1000) ∧ ((blkOf 0x103).isSome = true) ∧ ((blkOf 0x103).map Blk.ty ≠ some 0x04) ∧
    ((sMay 0x100008 : State).serves accA (Reg.BLK_CTRL 0x103) 4 true (0x2#32 : Word).toNat) ∧ (bits (0x2#32 : Word) 2 2 = 0) ∧ ((Instr.freeze
    accA 0x103 0x2#32) = Instr.enable accA 0x103 (0x2#32 : Word) ∨ (Instr.freeze accA 0x103 0x2#32) = .freeze accA 0x103 (0x2#32 : Word))) ∧
    (((sMay 0x100008 : State).calm accA.lane) ∧ (0x101 < 0x1000) ∧ ((blkOf 0x101).isSome = true) ∧ ((blkOf 0x101).map Blk.ty ≠ some 0x04) ∧
    ((sMay 0x100008 : State).serves accA (Reg.BLK_CTRL 0x101) 4 true (withBits (0x1#32 : Word) 2 2 1).toNat)) ∧
    (sBusy.calm accA.lane ∧ (0x101 < 0x1000) ∧ ((blkOf 0x101).isSome = true) ∧ ((blkOf 0x101).map Blk.ty ≠ some 0x04) ∧ ((sBusy.lane
    accA.lane).get (F.BLK_STAT.RESET_BUSY (instPage 0x101)) = 1) ∧ ((sBusy.lane accA.lane).acc.held = [])) ∧
    (sErr.calm accA.lane ∧ (0x101 < 0x1000) ∧ ((blkOf 0x101).isSome = true) ∧ ((blkOf 0x101).map Blk.ty ≠ some 0x04) ∧ (sErr.serves accA
    (Reg.ERR_CODE 0x101) 4 true (withBits (0#32 : Word) 31 31 1).toNat)) :=
  ⟨by decide +kernel,
   by decide +kernel,
   by decide +kernel,
   by decide +kernel,
   by decide +kernel⟩

theorem test_SeatEntriesEnter :
    (((sMay 0x40050 : State).calm accA.lane) ∧ (((sMay 0x40050 : State).lane accA.lane).runs = true) ∧ (((Instr.claim accA 0 0x000088#32), 0) =
    (Instr.claim accA accA.seat.val (0x000088#32 : Word), 0) ∨ ((Instr.claim accA 0 0x000088#32), 0) = (.tokenRelease accA accA.seat.val
    (0x000088#32 : Word), 1)) ∧ ((sMay 0x40050 : State).serves accA (Reg.SEAT_CLAIM accA.seat.val) 4 true (withBits (0x000088#32 : Word) 31 31
    0).toNat)) ∧
    (((sMay 0x40050 : State).calm accA.lane) ∧ (((sMay 0x40050 : State).lane accA.lane).runs = true) ∧ (((Instr.tokenRelease accA 0
    0x000088#32), 1) = (Instr.claim accA accA.seat.val (0x000088#32 : Word), 0) ∨ ((Instr.tokenRelease accA 0 0x000088#32), 1) = (.tokenRelease
    accA accA.seat.val (0x000088#32 : Word), 1)) ∧ ((sMay 0x40050 : State).serves accA (Reg.SEAT_CLAIM accA.seat.val) 4 true (withBits
    (0x000088#32 : Word) 31 31 1).toNat)) ∧
    (((sKey3 0x41400 : State).calm accA.lane) ∧ (((sKey3 0x41400 : State).lane accA.lane).runs = true) ∧ (1 < 8) ∧ (0x400 ≤ 0x404) ∧ (0x404 <
    0x800) ∧ (0x404 % 4 = 0) ∧ ((sKey3 0x41400 : State).serves accA (0x1000 * (0x40 + 1) + 0x404) 4 true (0x55555555#32 : Word).toNat)) :=
  ⟨by decide +kernel,
   by decide +kernel,
   by decide +kernel⟩

theorem test_SeatQueryAndLatchComplete :
    (sTok.calm accA.lane ∧ (0 < 8) ∧ (sTok.serves accA (Reg.SEAT_TOKEN_QUERY 0) 4 true (0x88#32 : Word).toNat)) ∧
    (sTok.calm accA.lane ∧ (0 < 8) ∧ (sTok.serves accA (Reg.SEAT_VIOL_INFO 0) 4 true (withBits (0#32 : Word) 31 31 1).toNat)) :=
  ⟨by decide +kernel,
   by decide +kernel⟩

theorem test_DramAccessesComplete :
    (((sMay 0x1000000000 : State).calm accA.lane) ∧ (0x40 < 0x800000000) ∧ (1 ≤ 8) ∧ (0x40 % 64 + 8 ≤ 64) ∧ (((sMay 0x1000000000 : State).lane
    accA.lane).memi.bad = []) ∧ (((sMay 0x1000000000 : State).lane accA.lane).memi.inj = 0) ∧ ((sMay 0x1000000000 : State).serves accA
    (0x1000000000 + 0x40) 8 true 0x1122334455667788)) ∧
    (((sMay 0x1000000000 : State).calm accA.lane) ∧ (0x3C < 0x800000000) ∧ (1 ≤ 4) ∧ (0x3C % 64 + 4 ≤ 64) ∧ (((sMay 0x1000000000 : State).lane
    accA.lane).memi.bad = []) ∧ (((sMay 0x1000000000 : State).lane accA.lane).memi.inj = 0) ∧ ((sMay 0x1000000000 : State).serves accA
    (0x1000000000 + 0x3C) 4 false 0)) :=
  ⟨by decide +kernel,
   by decide +kernel⟩

theorem test_KeylessWriteIsAViolation :
    (0x48 < 0x1000000) ∧ (0x48 % 4 = 0) ∧ (rowOf 0x48 = some (RegTable.sys[2] : RegRow)) ∧ ((RegTable.sys[2] : RegRow).rwk ≠ 0) ∧ (¬ (0x40 ≤
    0x48 / 0x1000 ∧ 0x48 / 0x1000 < 0x48)) ∧ (((sMay 0x48 : State).lane accA.lane).sup.valid = true) ∧ (((sMay 0x48 : State).lane
    accA.lane).stage = 3) ∧ (((sMay 0x48 : State).lane accA.lane).flag (F.BLK_CTRL.ENABLE (0x40 + (accA.seat.val))) = true) ∧ (((sMay 0x48 :
    State).lane accA.lane).busy 0x48 true = false) ∧ (((sMay 0x48 : State).lane accA.lane).waits accA true = false) ∧ (((sMay 0x48 :
    State).lane accA.lane).rightsOf (accA.seat.val) 0x48 = 2) ∧ (((sMay 0x48 : State).lane accA.lane).keyOpen (accA.seat.val) (0x48 / 0x1000)
    (sMay 0x48 : State).now = false) :=
  by decide +kernel

theorem test_SupplyCommandsComplete :
    (((sNoCart.lane (LaneId.A : LaneId)).sup.seated = false) ∧ ((sNoCart.lane (LaneId.A : LaneId)).sup.ok1 = true ∨ (sNoCart.lane (LaneId.A :
    LaneId)).sup.ok2 = true)) ∧
    (((sNoCartDark.lane (LaneId.A : LaneId)).sup.seated = false) ∧ ((sNoCartDark.lane (LaneId.A : LaneId)).sup.ok1 = false) ∧
    ((sNoCartDark.lane (LaneId.A : LaneId)).sup.ok2 = false)) ∧
    (((sNoSup.lane (LaneId.A : LaneId)).sup.seated = true) ∧ ((sNoSup.lane (LaneId.A : LaneId)).sup.valid = false) ∧ ((sNoSup.lane (LaneId.A :
    LaneId)).sup.ok1 = true ∨ (sNoSup.lane (LaneId.A : LaneId)).sup.ok2 = true)) ∧
    (((s0.lane (LaneId.A : LaneId)).sup.seated = true) ∧ ((s0.lane (LaneId.A : LaneId)).sup.valid = true)) ∧
    (((s0.lane (LaneId.A : LaneId)).sup.seated = true) ∧ ((s0.lane (LaneId.A : LaneId)).sup.valid = true)) ∧
    (((s0.lane (LaneId.A : LaneId)).sup.seated = true) ∧ ((s0.lane (LaneId.A : LaneId)).sup.valid = true)) ∧
    (((s0.lane (LaneId.A : LaneId)).sup.seated = true) ∧ ((s0.lane (LaneId.A : LaneId)).sup.valid = true)) ∧
    (((sNoCart.lane (LaneId.A : LaneId)).sup.seated = false)) ∧
    (((sNoCartDark.lane (LaneId.A : LaneId)).sup.seated = false)) ∧
    (((s0.lane (LaneId.A : LaneId)).sup.valid = true) ∧ ((s0.lane (LaneId.A : LaneId)).sup.ok1 = true ∨ (s0.lane (LaneId.A : LaneId)).sup.ok2 =
    true)) ∧
    (((sRide.lane (LaneId.A : LaneId)).sup.ride = some 400)) :=
  ⟨by decide +kernel,
   by decide +kernel,
   by decide +kernel,
   by decide +kernel,
   by decide +kernel,
   by decide +kernel,
   by decide +kernel,
   by decide +kernel,
   by decide +kernel,
   by decide +kernel,
   by decide +kernel⟩

theorem test_StageCommandsComplete :
    ((((State.reset : State).lane (LaneId.B : LaneId)).sup.valid = true) ∧ (((State.reset : State).lane (LaneId.B : LaneId)).st = .powered ∨
    ((State.reset : State).lane (LaneId.B : LaneId)).st = .pip) ∧ (((State.reset : State).lane (LaneId.B : LaneId)).start.pipRun = false) ∧
    (((State.reset : State).lane (LaneId.B : LaneId)).pip.faultAt = none)) ∧
    ((((sPip 3 : State).lane (LaneId.A : LaneId)).st = .pip) ∧ (((sPip 3 : State).lane (LaneId.A : LaneId)).start.pipRun = true) ∧ (((sPip 3 :
    State).lane (LaneId.A : LaneId)).start.inReset = none) ∧ (((sPip 3 : State).lane (LaneId.A : LaneId)).sup.valid = true) ∧ (((sPip 3 :
    State).lane (LaneId.A : LaneId)).booted = true) ∧ ((sPip 3 : State).otherRuns (LaneId.A : LaneId) = false)) ∧
    ((((sPip 6 : State).lane (LaneId.A : LaneId)).st = .pip) ∧ (((sPip 6 : State).lane (LaneId.A : LaneId)).start.pipRun = true) ∧ (((sPip 6 :
    State).lane (LaneId.A : LaneId)).start.inReset = none) ∧ (((sPip 6 : State).lane (LaneId.A : LaneId)).sup.valid = true) ∧ (((sPip 6 :
    State).lane (LaneId.A : LaneId)).booted = true) ∧ ((sPip 6 : State).otherRuns (LaneId.A : LaneId) = true) ∧ (((sPip 6 : State).lane
    (LaneId.A : LaneId)).flag F.PAIR_STAT.PRIM_REQ = false)) ∧
    (((sShadow1.lane (LaneId.A : LaneId)).st = .shadow) ∧ ((sShadow1.lane (LaneId.A : LaneId)).stage = 1) ∧ (sShadow1.base.primacy = some
    LaneId.A) ∧ ((sShadow1.lane LaneId.A).sup.valid = true) ∧ ((sShadow1.lane LaneId.A).flag F.PAIR_STAT.PRIM_REQ = true)) ∧
    (((sShadowOf.lane (LaneId.A : LaneId)).st = .shadow) ∧ ((sShadowOf.lane (LaneId.A : LaneId)).stage = 1) ∧ (sShadowOf.base.primacy = some
    LaneId.B) ∧ ((sShadowOf.lane LaneId.B).sup.valid = true) ∧ ((sShadowOf.lane LaneId.B).flag F.PAIR_STAT.PRIM_REQ = true)) ∧
    (((sKeepOrg.lane (LaneId.A : LaneId)).st = .keeper) ∧ ((sKeepOrg.lane (LaneId.A : LaneId)).stage = 1) ∧ ((sKeepOrg.base.primacy = some
    (LaneId.A : LaneId) ∧ (sKeepOrg.lane (LaneId.A : LaneId)).sup.valid = true ∧ (sKeepOrg.lane (LaneId.A : LaneId)).flag F.PAIR_STAT.PRIM_REQ
    = true)) ∧ ((sKeepOrg.lane (LaneId.A : LaneId)).start.origin = some (((2 ^ 32)), 13000250)) ∧ (1 ≤ ((2 ^ 32))) ∧ (((2 ^ 32)) < 2 ^ 64) ∧ (0
    < (sKeepOrg.lane (LaneId.A : LaneId)).incr) ∧ (sameStart (sKeepOrg.lane (LaneId.A : LaneId)) (sKeepOrg.lane (LaneId.A : LaneId).other) =
    false)) ∧
    (((sKeepTwo.lane (LaneId.A : LaneId)).st = .keeper) ∧ ((sKeepTwo.lane (LaneId.A : LaneId)).stage = 1) ∧ ((sKeepTwo.lane (LaneId.A :
    LaneId).other).stage = 1) ∧ ((sKeepTwo.base.primacy = some (LaneId.A : LaneId) ∧ (sKeepTwo.lane (LaneId.A : LaneId)).sup.valid = true ∧
    (sKeepTwo.lane (LaneId.A : LaneId)).flag F.PAIR_STAT.PRIM_REQ = true)) ∧ ((sKeepTwo.lane (LaneId.A : LaneId)).start.origin = some (((2 ^
    32)), 13000250)) ∧ (1 ≤ ((2 ^ 32))) ∧ (((2 ^ 32)) < 2 ^ 64) ∧ (0 < (sKeepTwo.lane (LaneId.A : LaneId)).incr) ∧ (sameStart (sKeepTwo.lane
    (LaneId.A : LaneId)) (sKeepTwo.lane (LaneId.A : LaneId).other) = true)) ∧
    (((sSolo2.lane (LaneId.A : LaneId)).stage = 2) ∧ ((sSolo2.lane (LaneId.A : LaneId)).st = .shadow ∨ (sSolo2.lane (LaneId.A : LaneId)).drives
    = true)) ∧
    (((sShadow2.lane (LaneId.A : LaneId)).stage = 2) ∧ ((sShadow2.lane (LaneId.A : LaneId)).st = .shadow ∨ (sShadow2.lane (LaneId.A :
    LaneId)).drives = true)) ∧
    (((sKeep.lane (LaneId.A : LaneId)).st = .keeper) ∧ ((sKeep.base.primacy = some (LaneId.A : LaneId) ∧ (sKeep.lane (LaneId.A :
    LaneId)).sup.valid = true ∧ (sKeep.lane (LaneId.A : LaneId)).flag F.PAIR_STAT.PRIM_REQ = true)) ∧ ((sKeep.lane (LaneId.A :
    LaneId)).start.warmOk = false) ∧ ((sKeep.lane (LaneId.A : LaneId)).start.origin = none) ∧ ((sKeep.lane (LaneId.A : LaneId)).image.isSome =
    true) ∧ (0 < (sKeep.lane (LaneId.A : LaneId)).period) ∧ ((sKeep.lane (LaneId.A : LaneId).other).st ≠ .keeper ∨ (sKeep.lane (LaneId.A :
    LaneId).other).start.warmOk = false)) ∧
    (((sKeepPass.lane (LaneId.A : LaneId)).st = .keeper) ∧ ((sKeepPass.base.primacy = some (LaneId.A : LaneId) ∧ (sKeepPass.lane (LaneId.A :
    LaneId)).sup.valid = true ∧ (sKeepPass.lane (LaneId.A : LaneId)).flag F.PAIR_STAT.PRIM_REQ = true)) ∧ ((sKeepPass.lane (LaneId.A :
    LaneId)).start.warmOk = false) ∧ ((sKeepPass.lane (LaneId.A : LaneId)).start.origin = none) ∧ ((sKeepPass.lane (LaneId.A :
    LaneId)).image.isSome = true) ∧ (0 < (sKeepPass.lane (LaneId.A : LaneId)).period) ∧ ((sKeepPass.lane (LaneId.A : LaneId).other).st ≠
    .keeper ∨ (sKeepPass.lane (LaneId.A : LaneId).other).start.warmOk = false)) :=
  ⟨by decide +kernel,
   by decide +kernel,
   by decide +kernel,
   by decide +kernel,
   by decide +kernel,
   by decide +kernel,
   by decide +kernel,
   by decide +kernel,
   by decide +kernel,
   by decide +kernel,
   by decide +kernel⟩

theorem test_ResetCommandsComplete :
    ((faultable (s0.lane (LaneId.A : LaneId)).st = true)) ∧
    ((faultable ((State.reset : State).lane (LaneId.B : LaneId)).st = true)) ∧
    (((sFault.lane (LaneId.A : LaneId)).st = .faulted) ∧ ((sFault.lane (LaneId.A : LaneId)).flag F.SYS_CTRL.HOLD_FAULTED = false) ∧ (sFault.now
    = (sFault.lane (LaneId.A : LaneId)).start.faultedAt + (sFault.lane (LaneId.A : LaneId)).dwell)) ∧
    (sSysKey.calm accA.lane ∧ (sSysKey.serves accA Reg.SYS_CTRL 4 true (withBits (3#32) 0 0 1).toNat) ∧ (bits (3#32) 1 1 = 1) ∧ ((sSysKey.lane
    accA.lane).st ≠ .faulted)) ∧
    (sSysKey.calm accA.lane ∧ (sSysKey.serves accA Reg.SYS_CTRL 4 true (withBits (4#32) 2 2 0).toNat) ∧ ((sSysKey.lane accA.lane).st ≠
    .faulted) ∧ (bits (4#32) 0 0 = 0)) ∧
    (((sInReset.lane (LaneId.A : LaneId)).start.inReset = some 2)) :=
  ⟨by decide +kernel,
   by decide +kernel,
   by decide +kernel,
   by decide +kernel,
   by decide +kernel,
   by decide +kernel⟩

theorem test_WarmStartCommandsComplete :
    ((sWarm.base.primacy = some (LaneId.A : LaneId)) ∧ ((sWarm.lane (LaneId.A : LaneId)).sup.valid = true) ∧ ((sWarm.lane (LaneId.A :
    LaneId)).flag F.PAIR_STAT.PRIM_REQ = true) ∧ (sWarm.a.warmKeeper = true) ∧ (sWarm.b.warmKeeper = true) ∧ (sWarm.linked = true) ∧
    (commonSnap sWarm.a sWarm.b = some ((2 ^ 32 + 7)))) ∧
    ((sWarmNone.base.primacy = some (LaneId.A : LaneId)) ∧ ((sWarmNone.lane (LaneId.A : LaneId)).sup.valid = true) ∧ ((sWarmNone.lane (LaneId.A
    : LaneId)).flag F.PAIR_STAT.PRIM_REQ = true) ∧ (sWarmNone.a.warmKeeper = true) ∧ (sWarmNone.b.warmKeeper = true) ∧ (sWarmNone.linked =
    false ∨ commonSnap sWarmNone.a sWarmNone.b = none)) ∧
    ((sWarmOff.base.primacy = some (LaneId.A : LaneId)) ∧ ((sWarmOff.lane (LaneId.A : LaneId)).sup.valid = true) ∧ ((sWarmOff.lane (LaneId.A :
    LaneId)).flag F.PAIR_STAT.PRIM_REQ = true) ∧ (sWarmOff.a.warmKeeper = true) ∧ (sWarmOff.b.warmKeeper = true) ∧ (sWarmOff.linked = false ∨
    commonSnap sWarmOff.a sWarmOff.b = none)) ∧
    ((sWarmGo.base.primacy = some (LaneId.A : LaneId)) ∧ ((sWarmGo.lane (LaneId.A : LaneId)).sup.valid = true) ∧ ((sWarmGo.lane (LaneId.A :
    LaneId)).flag F.PAIR_STAT.PRIM_REQ = true) ∧ ((sWarmGo.lane (LaneId.A : LaneId)).st = .keeper) ∧ ((sWarmGo.lane (LaneId.A :
    LaneId)).start.resume = some ((2 ^ 32 + 7))) ∧ ((sWarmGo.lane (LaneId.A : LaneId)).pair.promo = none) ∧ ((sWarmGo.lane (LaneId.A :
    LaneId)).running = false) ∧ ((sWarmGo.lane (LaneId.A : LaneId).other).st = .shadow) ∧ ((∀ j ∈ [LaneId.A, LaneId.B], sWarmGo.calm j ∧
    (sWarmGo.lane j).acc.held = []))) :=
  ⟨by decide +kernel,
   by decide +kernel,
   by decide +kernel,
   by decide +kernel⟩

theorem test_TimeWritesEnter :
    (((sMay 0x11100 : State).calm accA.lane) ∧ (((sMay 0x11100 : State).lane accA.lane).runs = true) ∧ (0 < 32) ∧ ((sMay 0x11100 :
    State).serves accA (Reg.TT_CTRL 0) 4 true (1#32 : Word).toNat)) ∧
    (((sMay 0x11100 : State).calm accA.lane) ∧ (((sMay 0x11100 : State).lane accA.lane).runs = true) ∧ (31 < 32) ∧ ((sMay 0x11100 :
    State).serves accA (Reg.TT_TGT_HI 31) 4 true (9#32 : Word).toNat)) ∧
    (((sKey3 0x10050 : State).calm accA.lane) ∧ (((sKey3 0x10050 : State).lane accA.lane).runs = true) ∧ ((sKey3 0x10050 : State).serves accA
    Reg.TIME_CTRL 4 true (0x11#32 : Word).toNat) ∧ (timeCtrlBad (0x11#32 : Word) = false)) ∧
    (((sKey3 0x10060 : State).calm accA.lane) ∧ (((sKey3 0x10060 : State).lane accA.lane).runs = true) ∧ ((sKey3 0x10060 : State).serves accA
    Reg.TIME_SET_HI 4 true (5#32 : Word).toNat)) :=
  ⟨by decide +kernel,
   by decide +kernel,
   by decide +kernel,
   by decide +kernel⟩

theorem test_PairedReadCaptures :
    (((sMay 0x10048 : State).calm accA.lane) ∧ (0x10048 < 0x1000000) ∧ ((hiOf 0x10048).isSome = true) ∧ ((sMay 0x10048 : State).serves accA
    0x10048 4 false 0)) ∧
    (sCaptd.calm accA.lane ∧ (0x10048 < 0x1000000) ∧ ((hiOf 0x10048).isSome = true) ∧ (sCaptd.serves accA (0x10048 + 4) 4 false 0) ∧ (hiOf
    (0x10048 + 4) = none) ∧ ((sCaptd.lane accA.lane).acc.captured.find? (fun x => x.party == (accA.seat.val) && x.addr == 0x10048 + 4) = some
    ⟨(accA.seat.val), 0x10048 + 4, (0x77#32)⟩)) ∧
    (((sMay 0x10048 : State).calm accA.lane) ∧ (0x10048 < 0x1000000) ∧ ((hiOf 0x10048).isSome = true) ∧ ((sMay 0x10048 : State).serves accA
    0x10048 8 false 0) ∧ (hiOf (0x10048 + 4) = none)) :=
  ⟨by decide +kernel,
   by decide +kernel,
   by decide +kernel⟩

theorem test_ReservedTimeSourceRefused :
    (((sKey3 0x10050 : State).calm accA.lane) ∧ ((sKey3 0x10050 : State).serves accA Reg.TIME_CTRL 4 true (4#32 : Word).toNat) ∧ (4 ≤ bits
    (4#32 : Word) 2 0 ∨ 4 ≤ bits (4#32 : Word) 5 3)) ∧
    (((sKey3 0x10050 : State).calm accA.lane) ∧ ((sKey3 0x10050 : State).serves accA Reg.TIME_CTRL 4 true (0x3F#32 : Word).toNat) ∧ (4 ≤ bits
    (0x3F#32 : Word) 2 0 ∨ 4 ≤ bits (0x3F#32 : Word) 5 3)) ∧
    (((sKey3 0x10050 : State).calm accA.lane) ∧ ((sKey3 0x10050 : State).serves accA Reg.TIME_CTRL 4 true (4#32 : Word).toNat) ∧ (4 ≤ bits
    (4#32 : Word) 2 0 ∨ 4 ≤ bits (4#32 : Word) 5 3)) ∧
    (((sKey3 0x10050 : State).calm accA.lane) ∧ ((sKey3 0x10050 : State).serves accA Reg.TIME_CTRL 4 true (0x3F#32 : Word).toNat) ∧ (4 ≤ bits
    (0x3F#32 : Word) 2 0 ∨ 4 ≤ bits (0x3F#32 : Word) 5 3)) :=
  ⟨by decide +kernel,
   by decide +kernel,
   by decide +kernel,
   by decide +kernel⟩

theorem test_TimeEventsComplete :
    ((sTrig.live (LaneId.A : LaneId)) ∧ (31 < 32) ∧ ((sTrig.lane (LaneId.A : LaneId)).flag (F.TT_CTRL.ARM 31) = true) ∧ (((sTrig.lane (LaneId.A
    : LaneId)).trig 31).next ≤ (sTrig.lane (LaneId.A : LaneId)).t64) ∧ ((∀ u, u < 64 → (sTrig.lane (LaneId.A : LaneId)).get (F.CAPT_TU_CFG.KIND
    u) ≠ 3)) ∧ (0 < (sTrig.lane (LaneId.A : LaneId)).incr) ∧ ((sTrig.lane (LaneId.A : LaneId)).flag (F.TT_CTRL.PERIODIC 31) = false) ∧
    ((sTrig.lane (LaneId.A : LaneId)).flag (F.TT_CTRL.IRQ 31) = true)) ∧
    ((sFollow.live (LaneId.A : LaneId)) ∧ ((sFollow.lane (LaneId.A : LaneId)).leads = false) ∧ ((sFollow.lane (LaneId.A : LaneId)).get
    F.TIME_STAT.SOURCE_ACT = 1 ∨ (sFollow.lane (LaneId.A : LaneId)).get F.TIME_STAT.SOURCE_ACT = 2)) ∧
    ((s0.live (LaneId.A : LaneId)) ∧ ((s0.lane (LaneId.A : LaneId)).get F.TIME_STAT.SOURCE_ACT = 0) ∧ ((s0.lane (LaneId.A : LaneId)).get
    F.TIME_CTRL.SOURCE ≠ 3)) ∧
    ((sLead.live (LaneId.A : LaneId)) ∧ ((sLead.lane (LaneId.A : LaneId)).leads = true) ∧ ((sLead.lane (LaneId.A : LaneId)).get
    F.TIME_STAT.SOURCE_ACT = 1 ∨ (sLead.lane (LaneId.A : LaneId)).get F.TIME_STAT.SOURCE_ACT = 2) ∧ (((98 + 1) : Int).natAbs < 100) ∧ (((98 +
    1) : Int).natAbs < (sLead.lane (LaneId.A : LaneId)).get F.TIME_STEP_LIMIT.US * 1000) ∧ ((sLead.lane (LaneId.A : LaneId)).time.good < 15) ∧
    ((sLead.lane (LaneId.A : LaneId)).nextState = 3)) ∧
    ((sFollow.live (LaneId.A : LaneId)) ∧ ((sFollow.lane (LaneId.A : LaneId)).leads = false) ∧ ((sFollow.lane (LaneId.A : LaneId)).get
    F.TIME_STAT.SOURCE_ACT = 1 ∨ (sFollow.lane (LaneId.A : LaneId)).get F.TIME_STAT.SOURCE_ACT = 2)) ∧
    ((sLeadIdle.live (LaneId.A : LaneId)) ∧ ((sLeadIdle.lane (LaneId.A : LaneId)).leads = true) ∧ ((sLeadIdle.lane (LaneId.A : LaneId)).get
    F.TIME_STAT.SOURCE_ACT = 1 ∨ (sLeadIdle.lane (LaneId.A : LaneId)).get F.TIME_STAT.SOURCE_ACT = 2) ∧ ((sLeadIdle.lane (LaneId.A :
    LaneId)).nextState = 3) ∧ ((sLeadIdle.lane (LaneId.A : LaneId)).running = false)) ∧
    ((s0.live (LaneId.A : LaneId)) ∧ ((s0.lane (LaneId.A : LaneId)).time.pendSet = none)) ∧
    ((sPps3.live (LaneId.A : LaneId)) ∧ ((sPps3.lane (LaneId.A : LaneId)).time.pendSet = none)) ∧
    ((sMark.live (LaneId.A : LaneId)) ∧ ((sMark.lane (LaneId.A : LaneId)).leads = false) ∧ (sMark.linked = true) ∧ ((Int.fdiv ((512 - 0) - (1 -
    0)) 2 - 0).natAbs ≤ 256)) :=
  ⟨by decide +kernel,
   by decide +kernel,
   by decide +kernel,
   by decide +kernel,
   by decide +kernel,
   by decide +kernel,
   by decide +kernel,
   by decide +kernel,
   by decide +kernel⟩

theorem test_LedgerCommandsComplete :
    ((sLedGr.live (LaneId.A : LaneId)) ∧ ((sLedGr.lane (LaneId.A : LaneId)).hasClass 3 = true) ∧ (mirroredClass 3 = false ∨ (sLedGr.lane
    (LaneId.A : LaneId)).runs = false)) ∧
    ((sLedGr.live (LaneId.A : LaneId)) ∧ ((sLedGr.lane (LaneId.A : LaneId)).hasClass 4 = true) ∧ (mirroredClass 4 = false ∨ (sLedGr.lane
    (LaneId.A : LaneId)).runs = false)) ∧
    ((sLedIdle.live (LaneId.A : LaneId)) ∧ ((sLedIdle.lane (LaneId.A : LaneId)).hasClass 2 = true) ∧ (mirroredClass 2 = false ∨ (sLedIdle.lane
    (LaneId.A : LaneId)).runs = false)) ∧
    ((sLedGr.live (LaneId.A : LaneId)) ∧ ((sLedGr.lane (LaneId.A : LaneId)).hasClass 2 = true) ∧ (mirroredClass 2 = true) ∧ ((sLedGr.lane
    (LaneId.A : LaneId)).runs = true)) ∧
    ((sLedGr.live (LaneId.A : LaneId)) ∧ ((sLedGr.lane (LaneId.A : LaneId)).hasClass 1 = false)) ∧
    ((sLedGr.live (LaneId.A : LaneId)) ∧ ((sLedGr.lane (LaneId.A : LaneId)).hasClass 7 = false)) ∧
    ((((sLedAsk 1001 50) : State).live (LaneId.A : LaneId)) ∧ (((sLedAsk 1001 50) : State).pending = []) ∧ (((sLedAsk 1001 50) :
    State).base.primacy.isSome = true) ∧ (((sLedAsk 1001 50) : State).now % 2 = 1) ∧ ((((sLedAsk 1001 50) : State).lane (LaneId.A :
    LaneId)).ledger.asked = [((rqA 50))]) ∧ (((rqA 50)).cls = 3 ∨ ((rqA 50)).cls = 4)) ∧
    ((((sLedAsk 1001 61) : State).live (LaneId.A : LaneId)) ∧ (((sLedAsk 1001 61) : State).pending = []) ∧ (((sLedAsk 1001 61) :
    State).base.primacy.isSome = true) ∧ (((sLedAsk 1001 61) : State).now % 2 = 1) ∧ ((((sLedAsk 1001 61) : State).lane (LaneId.A :
    LaneId)).ledger.asked = [((rqA 61))]) ∧ (((rqA 61)).cls = 3 ∨ ((rqA 61)).cls = 4)) ∧
    ((((sLedAsk 1001 55) : State).live (LaneId.A : LaneId)) ∧ (((sLedAsk 1001 55) : State).pending = []) ∧ (((sLedAsk 1001 55) :
    State).base.primacy.isSome = true) ∧ (((sLedAsk 1001 55) : State).now % 2 = 1) ∧ ((((sLedAsk 1001 55) : State).lane (LaneId.A :
    LaneId)).ledger.asked = [((rqA 55))]) ∧ (((rqA 55)).cls = 3 ∨ ((rqA 55)).cls = 4)) ∧
    ((sLedGr.live (LaneId.A : LaneId)) ∧ ((sLedGr.lane (LaneId.A : LaneId)).ledger.grants = [gr1]) ∧ ((sLedGr.lane (LaneId.A :
    LaneId)).ledger.waiting = []) ∧ (4 ≤ gr1.req.cls) ∧ (gr1.req.cls < 6) ∧ (sLedGr.now = gr1.g + ticksOf gr1.req.dur)) ∧
    ((sLedGr.live (LaneId.A : LaneId)) ∧ ((sLedGr.lane (LaneId.A : LaneId)).ledger.waiting = [])) ∧
    ((sLedGr.live (LaneId.A : LaneId)) ∧ ((sLedGr.lane (LaneId.A : LaneId)).ledger.waiting = [])) ∧
    ((sLedStop.live (LaneId.A : LaneId)) ∧ ((sLedStop.lane (LaneId.A : LaneId)).ledger.stopping = rq1 :: (([] : List LReq))) ∧ ((sLedStop.lane
    (LaneId.A : LaneId)).ledger.waiting = []) ∧ (4 ≤ rq1.cls) ∧ (rq1.cls < 6) ∧ ((sLedStop.lane (LaneId.A : LaneId)).fits { rq1 with since :=
    sLedStop.now } = false)) ∧
    ((sLedWait.live (LaneId.A : LaneId)) ∧ ((sLedWait.lane (LaneId.A : LaneId)).ledger.waiting = [rq1]) ∧ (4 ≤ rq1.cls) ∧ (rq1.cls < 6) ∧
    ((sLedWait.lane (LaneId.A : LaneId)).get (F.LEDGER_WAIT.MS rq1.cls) ≠ 0xFFFF) ∧ (sLedWait.now = rq1.since + (sLedWait.lane (LaneId.A :
    LaneId)).get (F.LEDGER_WAIT.MS rq1.cls) * 400000 + 1)) ∧
    ((sLedFree.live (LaneId.A : LaneId)) ∧ ((sLedFree.lane (LaneId.A : LaneId)).get F.LEDGER_STAT.BUDGET * 250 < 25001)) ∧
    ((sLedFree.live (LaneId.A : LaneId)) ∧ (24999 < (sLedFree.lane (LaneId.A : LaneId)).get F.LEDGER_STAT.BUDGET * 250) ∧ ((sLedFree.lane
    (LaneId.A : LaneId)).ledger.waiting = [])) :=
  ⟨by decide +kernel,
   by decide +kernel,
   by decide +kernel,
   by decide +kernel,
   by decide +kernel,
   by decide +kernel,
   by decide +kernel,
   by decide +kernel,
   by decide +kernel,
   by decide +kernel,
   by decide +kernel,
   by decide +kernel,
   by decide +kernel,
   by decide +kernel,
   by decide +kernel,
   by decide +kernel⟩

theorem test_PrimacyCommandsComplete :
    (((∀ j ∈ [LaneId.A, LaneId.B], sAsk.calm j ∧ (sAsk.lane j).acc.held = [])) ∧ (sAsk.base.primacy = none) ∧ (sAsk.requester = some LaneId.A)
    ∧ ((sAsk.lane LaneId.A).st ≠ .shadow) ∧ (sAsk.a.runs = false) ∧ (sAsk.b.runs = false) ∧ ((∀ j ∈ [LaneId.A, LaneId.B], (sAsk.lane
    j).pair.waitDiv = none ∧ (sAsk.lane j).pair.waitLink = none))) ∧
    (((∀ j ∈ [LaneId.A, LaneId.B], sDrop.calm j ∧ (sDrop.lane j).acc.held = [])) ∧ (sDrop.base.primacy = some LaneId.A) ∧ (sDrop.withdrawCause
    = some 4)) ∧
    (((∀ j ∈ [LaneId.A, LaneId.B], s0.calm j ∧ (s0.lane j).acc.held = [])) ∧ (s0.base.primacy = some LaneId.A)) ∧
    (((∀ j ∈ [LaneId.A, LaneId.B], sFree.calm j ∧ (sFree.lane j).acc.held = [])) ∧ (sFree.base.freeAt = some 900)) :=
  ⟨by decide +kernel,
   by decide +kernel,
   by decide +kernel,
   by decide +kernel⟩

theorem test_LeaveCommandsComplete :
    (((((Instr.transfer accA 4#32)), F.PAIR_CTRL.TRANSFER, Payload.transfer) = (Instr.transfer accA (4#32), F.PAIR_CTRL.TRANSFER,
    Payload.transfer) ∨ (((Instr.transfer accA 4#32)), F.PAIR_CTRL.TRANSFER, Payload.transfer) = (Instr.leave accA (4#32), F.PAIR_CTRL.LEAVE,
    Payload.leave accA.lane (decide (bits (4#32) 2 2 = 1)) false)) ∧ sPair2.calm accA.lane ∧ (sPair2.a.st = .paired) ∧ (sPair2.b.st = .paired)
    ∧ ((sPair2.lane accA.lane).running = true) ∧ (bits (4#32) 5 5 = 0) ∧ (bits (4#32) 1 0 = 0) ∧ (sPair2.serves accA Reg.PAIR_CTRL 4 true
    (withBits (4#32) F.PAIR_CTRL.TRANSFER.hi F.PAIR_CTRL.TRANSFER.lo 1).toNat)) ∧
    (((((Instr.leave accA 4#32)), F.PAIR_CTRL.LEAVE, ((Payload.leave .A true false))) = (Instr.transfer accA (4#32), F.PAIR_CTRL.TRANSFER,
    Payload.transfer) ∨ (((Instr.leave accA 4#32)), F.PAIR_CTRL.LEAVE, ((Payload.leave .A true false))) = (Instr.leave accA (4#32),
    F.PAIR_CTRL.LEAVE, Payload.leave accA.lane (decide (bits (4#32) 2 2 = 1)) false)) ∧ sPair2.calm accA.lane ∧ (sPair2.a.st = .paired) ∧
    (sPair2.b.st = .paired) ∧ ((sPair2.lane accA.lane).running = true) ∧ (bits (4#32) 5 5 = 0) ∧ (bits (4#32) 1 0 = 0) ∧ (sPair2.serves accA
    Reg.PAIR_CTRL 4 true (withBits (4#32) F.PAIR_CTRL.LEAVE.hi F.PAIR_CTRL.LEAVE.lo 1).toNat)) ∧
    (sPair2.calm accA.lane ∧ (sPair2.a.st = .paired) ∧ (sPair2.b.st = .paired) ∧ (sPair2.base.primacy = some LaneId.A) ∧ (bits (0#32) 1 0 = 0)
    ∧ ((∀ j ∈ [LaneId.A, LaneId.B], (sPair2.lane j).running = true)) ∧ ((∀ j ∈ [LaneId.A, LaneId.B], bootBank (sPair2.lane j).host.banks
    ((sPair2.lane j).get F.HOST_SEC_STAT.FUSED) = some (0, 3, (sPair2.lane j).get F.PAIR_COMPAT.OWN))) ∧ (sPair2.serves accA Reg.PAIR_CTRL 4
    true (withBits (0#32) 5 5 1).toNat)) ∧
    (((s2.lane LaneId.B).sup.seated = true) ∧ ((s2.lane LaneId.B).sup.closed = true) ∧ ((s2.lane LaneId.B).st = .paired)) ∧
    (((sLeft.lane LaneId.A).sup.seated = true) ∧ ((sLeft.lane LaneId.A).sup.closed = false) ∧ ((sLeft.lane LaneId.A).st = .leaving)) ∧
    (((s0.lane LaneId.B).sup.seated = true) ∧ (s0.base.primacy = some LaneId.B.other) ∧ ((s0.lane LaneId.B.other).sup.valid = true) ∧ ((s0.lane
    LaneId.B.other).st = .solo) ∧ ((s0.lane LaneId.B.other).flag F.PAIR_STAT.PRIM_REQ = true)) :=
  ⟨by decide +kernel,
   by decide +kernel,
   by decide +kernel,
   by decide +kernel,
   by decide +kernel,
   by decide +kernel⟩

theorem test_RejoinCommandsComplete :
    ((3 < 4) ∧ (sDown.a.linkable = true) ∧ (sDown.b.linkable = true) ∧ (sDown.a.flag ⟨Reg.PAIR_STAT, 3, 3⟩ = false) ∧ (sDown.b.flag
    ⟨Reg.PAIR_STAT, 3, 3⟩ = false) ∧ ((sDown.lane (LaneId.A : LaneId)).st ≠ .shadow) ∧ ((sDown.lane (LaneId.A : LaneId).other).st ≠ .shadow)) ∧
    ((sRjAuto.rejoinReady (LaneId.A : LaneId) = true) ∧ ((sRjAuto.lane (LaneId.A : LaneId)).flag F.PAIR_CTRL.AUTO_REJOIN = true)) ∧
    ((accA.lane = (LaneId.A : LaneId)) ∧ (sRjHand.calm (LaneId.A : LaneId)) ∧ (bits (0#32) 1 1 = 0) ∧ (sRjHand.rejoinReady (LaneId.A : LaneId)
    = true) ∧ ((sRjHand.lane (LaneId.A : LaneId)).flag F.PAIR_CTRL.AUTO_REJOIN = false) ∧ ((sRjHand.lane (LaneId.A : LaneId)).linked = true) ∧
    (sRjHand.serves accA Reg.PAIR_RJ_CTRL 4 true (withBits (0#32) 0 0 1).toNat)) ∧
    ((accA.lane = (LaneId.A : LaneId)) ∧ (sRjOn.calm (LaneId.A : LaneId)) ∧ (bits (0#32) 0 0 = 0) ∧ ((sRjOn.lane (LaneId.A : LaneId)).st =
    .shadow) ∧ ((sRjOn.lane (LaneId.A : LaneId)).pair.rejoin = some rj1) ∧ ((sRjOn.lane (LaneId.A : LaneId)).get F.PAIR_RJ_STAT.FAILS < 2) ∧
    ((sRjOn.lane (LaneId.A : LaneId)).flag F.PAIR_CTRL.AUTO_REJOIN = false) ∧ ((sRjOn.lane (LaneId.A : LaneId)).pair.promo = none) ∧
    (sRjOn.serves accA Reg.PAIR_RJ_CTRL 4 true (withBits (0#32) 1 1 1).toNat)) ∧
    (((sRjLate.lane (LaneId.A : LaneId)).st = .shadow) ∧ ((sRjLate.lane (LaneId.A : LaneId)).pair.rejoin = some rj1) ∧ ((sRjLate.lane (LaneId.A
    : LaneId)).get F.PAIR_RJ_STAT.FAILS < 2) ∧ ((sRjLate.lane (LaneId.A : LaneId).other).slots = []) ∧ ((sRjLate.lane (LaneId.A :
    LaneId)).pair.promo = none) ∧ ((sRjLate.lane (LaneId.A : LaneId).other).start.fwPending = false) ∧ (sRjLate.now = rj1.start + (sRjLate.lane
    (LaneId.A : LaneId)).get F.PAIR_RJ_CTRL.TIMEOUT * 400000000) ∧ (sRjLate.base.primacy = some (LaneId.A : LaneId).other) ∧ ((sRjLate.lane
    (LaneId.A : LaneId).other).sup.valid = true) ∧ ((sRjLate.lane (LaneId.A : LaneId).other).flag F.PAIR_STAT.PRIM_REQ = true)) ∧
    (((sRjSet.lane (LaneId.A : LaneId)).pair.rejoin = some rj1) ∧ (rj1.refused = false) ∧ ((sRjSet.lane (LaneId.A : LaneId)).st = .shadow) ∧
    ((sRjSet.lane (LaneId.A : LaneId)).get F.PAIR_RJ_STAT.PHASE = 2) ∧ (sRjSet.compatible = true) ∧ (sRjSet.linked = true) ∧ ((sRjSet.lane
    (LaneId.A : LaneId).other).slots.find? (fun snap7 => snap7.complete && snap7.cyc == (sRjSet.lane (LaneId.A : LaneId)).get64
    Reg.PAIR_RJ_SNAP_LO Reg.PAIR_RJ_SNAP_HI) = some snap7) ∧ ((sRjSet.lane (LaneId.A : LaneId)).image.map ImageSet.sl = (sRjSet.lane (LaneId.A
    : LaneId).other).image.map ImageSet.sl)) ∧
    (((sRjReplay.lane (LaneId.A : LaneId)).st = .shadow) ∧ ((sRjReplay.lane (LaneId.A : LaneId)).get F.PAIR_RJ_STAT.PHASE = 3) ∧
    ((sRjReplay.lane (LaneId.A : LaneId)).pair.rejoin = some ({ rj1 with held := true })) ∧ (({ rj1 with held := true }).held = true) ∧
    ((sRjReplay.lane (LaneId.A : LaneId).other).pair.rejoin = some ({ rj1 with log := [cyc8] })) ∧ (({ rj1 with log := [cyc8] }).log.find? (fun
    cyc8 => cyc8.cyc == (sRjReplay.lane (LaneId.A : LaneId)).replayedTo ({ rj1 with held := true }) + 1) = some cyc8)) ∧
    (((sRjOn.lane (LaneId.A : LaneId)).st = .shadow) ∧ ((sRjOn.lane (LaneId.A : LaneId)).pair.rejoin.isSome = true) ∧ (2 ≤ (sRjOn.lane
    (LaneId.A : LaneId)).get F.PAIR_RJ_STAT.PHASE)) ∧
    (((sRjFw.lane (LaneId.A : LaneId)).st = .shadow) ∧ (sRjFw.compatible = false) ∧ (sRjFw.linked = true) ∧ ((sRjFw.lane (LaneId.A :
    LaneId)).get F.HOST_SEC_STAT.FUSED ≤ (sRjFw.lane (LaneId.A : LaneId).other).get F.HOST_SEC_STAT.RUNNING)) :=
  ⟨by decide +kernel,
   by decide +kernel,
   by decide +kernel,
   by decide +kernel,
   by decide +kernel,
   by decide +kernel,
   by decide +kernel,
   by decide +kernel,
   by decide +kernel⟩

theorem test_CycleBoundaryBegins :
    sDone.computedAll ∧ (sDone.alone (LaneId.A : LaneId)) ∧ (0 < (sDone.lane (LaneId.A : LaneId)).incr) ∧ ((∀ j ∈ [LaneId.A, LaneId.B],
    (sDone.lane j).pair.promo = none)) ∧ ((sDone.lane (LaneId.A : LaneId).other).pair.outMsg = []) ∧ ((sDone.lane (LaneId.A :
    LaneId)).pair.entries = []) ∧ ((sDone.lane (LaneId.A : LaneId)).pair.check = none) ∧ ((sDone.lane (LaneId.A : LaneId)).cyc.exchAt = none) ∧
    ((sDone.lane (LaneId.A : LaneId)).cycN + 1 < 2 ^ 64) :=
  ⟨computedAll_of sDone .A (by decide +kernel), by decide +kernel, by decide +kernel, by decide +kernel, by decide +kernel, by decide +kernel,
  by decide +kernel, by decide +kernel, by decide +kernel⟩

theorem test_CyclePhasesComplete :
    (sCut.steady ∧ sCut.pairs ∧ ((∀ j ∈ [LaneId.A, LaneId.B], (sCut.lane j).cyc.cutDone = false ∧ (sCut.lane j).pair.outMsg = [] ∧ (sCut.lane
    j).pair.sampIn = none ∧ (sCut.lane j).pair.sampOwn.isSome = true)) ∧ (sCut.a.cutAt ≤ sCut.a.t64)) ∧
    (sShut.steady ∧ ((∀ j ∈ [LaneId.A, LaneId.B], (sShut.lane j).pair.outSamp = [] ∧ ((sShut.lane j).drives = true → (sShut.lane j).running =
    true ∧ (sShut.lane j).cyc.cutDone = true ∧ (sShut.lane j).cyc.merged = true ∧ (sShut.lane j).cyc.opened = false ∧ (sShut.lane j).openAt ≤
    (sShut.lane j).t64)))) ∧
    (sWin0.steady ∧ sWin0.computing ∧ sWin0.alone LaneId.A ∧ ((sWin0.lane LaneId.A).inWindow = true) ∧ ((sWin0.lane LaneId.A).nextEv
    (sWin0.lane LaneId.A).cycN = none) ∧ ((sWin0.lane LaneId.A).trial = none) ∧ ((sWin0.lane LaneId.A).openAt + (((sWin0.lane
    LaneId.A).cyc.compl.map Prod.snd).foldl max 0 * 5 + 2) / 3 ≤ (sWin0.lane LaneId.A).t64)) :=
  ⟨⟨steady_of sCut .A (by decide +kernel), pairs_of sCut .A (by decide +kernel), by decide +kernel, by decide +kernel⟩,
   ⟨steady_of sShut .A (by decide +kernel), by decide +kernel⟩,
   ⟨steady_of sWin0 .A (by decide +kernel), computing_of sWin0 .A (by decide +kernel), by decide +kernel, by decide +kernel, none_of (by
   decide +kernel), by decide +kernel, by decide +kernel⟩⟩

theorem test_NodeCommandsComplete :
    (sFire.computing ∧ ((sFire.lane (LaneId.A : LaneId)).nodeOpen 0 = true) ∧ ((sFire.lane (LaneId.A : LaneId)).nextEv (sFire.lane (LaneId.A :
    LaneId)).cycN = some (.fire 0))) ∧
    (sServ.computing ∧ ((sServ.lane (LaneId.A : LaneId)).nodeOpen 0 = true) ∧ (((⟨0, 0, 50, []⟩ : InServ)).node = 0) ∧ ((sServ.lane (LaneId.A :
    LaneId)).nextEv (sServ.lane (LaneId.A : LaneId)).cycN = some (.finish ((⟨0, 0, 50, []⟩ : InServ))))) ∧
    (sCutN.computing ∧ ((sCutN.lane (LaneId.A : LaneId)).nodeOpen 0 = true) ∧ ((sCutN.lane (LaneId.A : LaneId)).atDeadline 0 = true) ∧
    ((sCutN.lane (LaneId.A : LaneId)).ndClass 0 ≠ 1) ∧ (sCutN.alone (LaneId.A : LaneId)) ∧ ((sCutN.lane (LaneId.A : LaneId)).flag
    F.PAIR_DIV.BOTH = true)) ∧
    (sCutN0.computing ∧ ((sCutN0.lane (LaneId.A : LaneId)).nodeOpen 0 = true) ∧ ((sCutN0.lane (LaneId.A : LaneId)).atDeadline 0 = true) ∧
    ((sCutN0.lane (LaneId.A : LaneId)).ndClass 0 ≠ 1) ∧ (sCutN0.alone (LaneId.A : LaneId)) ∧ ((sCutN0.lane (LaneId.A : LaneId)).flag
    F.PAIR_DIV.BOTH = false)) ∧
    (sLogic.computing ∧ ((sLogic.lane (LaneId.A : LaneId)).nodeOpen 0 = true) ∧ ((sLogic.lane (LaneId.A : LaneId)).atDeadline 0 = true) ∧
    ((sLogic.lane (LaneId.A : LaneId)).ndClass 0 = 1)) :=
  ⟨⟨computing_of sFire .A (by decide +kernel), by decide +kernel, fire_of (by decide +kernel)⟩,
   ⟨computing_of sServ .A (by decide +kernel), by decide +kernel, by decide +kernel, finish_of (by decide +kernel)⟩,
   ⟨computing_of sCutN .A (by decide +kernel), by decide +kernel, by decide +kernel, by decide +kernel, by decide +kernel, by decide +kernel⟩,
   ⟨computing_of sCutN0 .A (by decide +kernel), by decide +kernel, by decide +kernel, by decide +kernel, by decide +kernel, by decide +kernel⟩,
   ⟨computing_of sLogic .A (by decide +kernel), by decide +kernel, by decide +kernel, by decide +kernel⟩⟩

theorem test_SnapshotAndTraceComplete :
    (((sSnap.lane (LaneId.A : LaneId)).cyc.snapOf = some ((2 ^ 32 + 4))) ∧ ((∀ j ∈ [LaneId.A, LaneId.B], (sSnap.lane j).st ≠ .shadow))) ∧
    (((sSnap.lane (LaneId.A : LaneId)).cyc.snapOf = some ((2 ^ 32 + 4))) ∧ ((sSnap.lane (LaneId.A : LaneId)).runs = true) ∧ (((2 ^ 32 + 4)) + 1
    = (sSnap.lane (LaneId.A : LaneId)).cycN) ∧ ((sSnap.lane (LaneId.A : LaneId)).cyc.cutDone = false) ∧ (0 < (sSnap.lane (LaneId.A :
    LaneId)).incr)) ∧
    (sTrcBuf.calm accA.lane ∧ (sTrcBuf.serves accA Reg.CYCLE_TRC_CTRL 4 true (1#32).toNat)) ∧
    (((sMay 0x103000 : State).calm accA.lane) ∧ ((sMay 0x103000 : State).serves accA Reg.CYCLE_TRC_CTRL 4 true (3#32).toNat)) ∧
    ((sTrc.live (LaneId.A : LaneId)) ∧ ((sTrc.lane (LaneId.A : LaneId)).cyc.trc.drop ≠ 0) ∧ ((sTrc.lane (LaneId.A : LaneId)).cyc.trc.q.length <
    4096)) :=
  ⟨by decide +kernel,
   by decide +kernel,
   by decide +kernel,
   by decide +kernel,
   by decide +kernel⟩

theorem test_LinkMessagesArrive :
    ((sMsg.linked = true) ∧ ((sMsg.lane (LaneId.A : LaneId).other).pair.outMsg = .entry ent1 :: (([] : List LinkMsg)))) ∧
    ((sSeal.linked = true) ∧ ((sSeal.lane (LaneId.A : LaneId).other).pair.outSeal = ((⟨2 ^ 32 + 4, 1, 0⟩ : Seal)) :: (([] : List Seal))) ∧
    ((sSeal.lane (LaneId.A : LaneId).other).pair.outMsg = []) ∧ ((sSeal.lane (LaneId.A : LaneId).other).acc.held = [])) ∧
    ((sSamp.linked = true) ∧ sSamp.steady ∧ ((sSamp.lane (LaneId.A : LaneId).other).pair.outSamp = part1 :: (([] : List Sampled))) ∧ (part1.cyc
    = (sSamp.lane (LaneId.A : LaneId)).cycN) ∧ ((sSamp.lane (LaneId.A : LaneId)).cyc.cutDone = false)) ∧
    (((sDig 0xD2 : State).linked = true) ∧ ((sDig 0xD2 : State).computedAll) ∧ (((sDig 0xD2 : State).lane (LaneId.A : LaneId)).st = .paired) ∧
    (((sDig 0xD2 : State).lane (LaneId.A : LaneId)).pair.rejoin = none) ∧ (((sDig 0xD2 : State).lane (LaneId.A : LaneId).other).pair.outDig =
    (((2 ^ 32 + 4)), 0xD2) :: (([] : List (Nat × Nat)))) ∧ (((sDig 0xD2 : State).lane (LaneId.A : LaneId)).pair.digIn = []) ∧ (((sDig 0xD2 :
    State).lane (LaneId.A : LaneId)).pair.digOwn.find? (fun x => x.1 == ((2 ^ 32 + 4))) = some (((2 ^ 32 + 4)), 0xD1))) ∧
    (((sDig 0xD1 : State).linked = true) ∧ ((sDig 0xD1 : State).computedAll) ∧ (((sDig 0xD1 : State).lane (LaneId.A : LaneId)).st = .paired) ∧
    (((sDig 0xD1 : State).lane (LaneId.A : LaneId)).pair.rejoin = none) ∧ (((sDig 0xD1 : State).lane (LaneId.A : LaneId).other).pair.outDig =
    (((2 ^ 32 + 4)), 0xD1) :: (([] : List (Nat × Nat)))) ∧ (((sDig 0xD1 : State).lane (LaneId.A : LaneId)).pair.digIn = []) ∧ (((sDig 0xD1 :
    State).lane (LaneId.A : LaneId)).pair.digOwn.find? (fun x => x.1 == ((2 ^ 32 + 4))) = some (((2 ^ 32 + 4)), 0xD1))) :=
  ⟨by decide +kernel,
   by decide +kernel,
   ⟨by decide +kernel, steady_of sSamp .A (by decide +kernel), by decide +kernel, by decide +kernel, by decide +kernel⟩,
   ⟨by decide +kernel, computedAll_of (sDig 0xD2 : State) .A (by decide +kernel), by decide +kernel, by decide +kernel, by decide +kernel, by
   decide +kernel, by decide +kernel⟩,
   ⟨by decide +kernel, computedAll_of (sDig 0xD1 : State) .A (by decide +kernel), by decide +kernel, by decide +kernel, by decide +kernel, by
   decide +kernel, by decide +kernel⟩⟩

theorem test_LinkDeadlinesComplete :
    (sDigLate.pairs ∧ (sDigLate.base.primacy = some (LaneId.A : LaneId)) ∧ sDigLate.computedAll ∧ ((sDigLate.lane (LaneId.A :
    LaneId).other).pair.outDig = (((2 ^ 32 + 3, 1) : Nat × Nat)) :: (([] : List (Nat × Nat)))) ∧ ((((2 ^ 32 + 3, 1) : Nat × Nat)).1 + 1 ≤
    (sDigLate.lane (LaneId.A : LaneId)).cycN) ∧ ((sDigLate.lane (LaneId.A : LaneId)).tOf ((((2 ^ 32 + 3, 1) : Nat × Nat)).1 + 2) ≤
    (sDigLate.lane (LaneId.A : LaneId)).t64)) ∧
    (sSealLate.pairs ∧ (sSealLate.base.primacy = some (LaneId.A : LaneId)) ∧ sSealLate.computedAll ∧ ((sSealLate.lane (LaneId.A :
    LaneId).other).pair.outSeal = ((⟨2 ^ 32 + 3, 0, 0⟩ : Seal)) :: (([] : List Seal))) ∧ (((⟨2 ^ 32 + 3, 0, 0⟩ : Seal)).cyc + 1 ≤
    (sSealLate.lane (LaneId.A : LaneId)).cycN) ∧ ((sSealLate.lane (LaneId.A : LaneId)).tOf (((⟨2 ^ 32 + 3, 0, 0⟩ : Seal)).cyc + 2) - 2000 ≤
    (sSealLate.lane (LaneId.A : LaneId)).t64)) ∧
    (sSampLate.pairs ∧ (sSampLate.base.primacy = some (LaneId.A : LaneId)) ∧ sSampLate.steady ∧ ((∀ j ∈ [LaneId.A, LaneId.B], (sSampLate.lane
    j).cyc.cutDone = true)) ∧ ((sSampLate.lane (LaneId.A : LaneId)).cyc.merged = false) ∧ ((sSampLate.lane (LaneId.A : LaneId)).pair.sampIn =
    none) ∧ ((sSampLate.lane (LaneId.A : LaneId)).pair.entries = []) ∧ ((sSampLate.lane (LaneId.A : LaneId).other).pair.entries = []) ∧
    ((sSampLate.lane (LaneId.A : LaneId)).openAt ≤ (sSampLate.lane (LaneId.A : LaneId)).t64)) ∧
    (sCheck.pairs ∧ (sCheck.base.primacy = some (LaneId.A : LaneId)) ∧ sCheck.computedAll ∧ (true ≠ false) ∧ (sCheck.a.pair.check = some ((⟨2 ^
    32 + 2, false⟩ : Check))) ∧ (sCheck.b.pair.check = some ((⟨2 ^ 32 + 2, false⟩ : Check))) ∧ (((⟨2 ^ 32 + 2, false⟩ : Check)).failed = false)
    ∧ (((⟨2 ^ 32 + 2, false⟩ : Check)).failed = false) ∧ ((∀ j ∈ [LaneId.A, LaneId.B], (sCheck.lane j).memi.sram = [] ∧ (sCheck.lane
    j).pair.outMsg = [] ∧ (sCheck.lane j).pair.outSeal = [] ∧ (sCheck.lane j).pair.outDig = [] ∧ (sCheck.lane j).sup.valid = true ∧
    (sCheck.lane j).flag F.PAIR_STAT.PRIM_REQ = true ∧ (sCheck.lane j).pair.waitLink = none)) ∧ (sCheck.a.logDiffers ((⟨2 ^ 32 + 2, false⟩ :
    Check)).cyc = false) ∧ (sCheck.b.logDiffers ((⟨2 ^ 32 + 2, false⟩ : Check)).cyc = false) ∧ (((⟨2 ^ 32 + 2, false⟩ : Check)).cyc + 2 ≤
    sCheck.a.cycN) ∧ (sCheck.a.tOf (((⟨2 ^ 32 + 2, false⟩ : Check)).cyc + 3) ≤ sCheck.a.t64)) :=
  ⟨⟨pairs_of sDigLate .A (by decide +kernel), by decide +kernel, computedAll_of sDigLate .A (by decide +kernel), by decide +kernel, by
   decide +kernel, by decide +kernel⟩,
   ⟨pairs_of sSealLate .A (by decide +kernel), by decide +kernel, computedAll_of sSealLate .A (by decide +kernel), by decide +kernel, by
   decide +kernel, by decide +kernel⟩,
   ⟨pairs_of sSampLate .A (by decide +kernel), by decide +kernel, steady_of sSampLate .A (by decide +kernel), by decide +kernel, by
   decide +kernel, by decide +kernel, by decide +kernel, by decide +kernel, by decide +kernel⟩,
   ⟨pairs_of sCheck .A (by decide +kernel), by decide +kernel, computedAll_of sCheck .A (by decide +kernel), by decide +kernel, by
   decide +kernel, by decide +kernel, by decide +kernel, by decide +kernel, by decide +kernel, by decide +kernel, by decide +kernel, by
   decide +kernel, by decide +kernel⟩⟩

theorem test_TableWritesEnter :
    (((sWinKey 0x01400000 : State).calm accA.lane) ∧ (((sWinKey 0x01400000 : State).lane accA.lane).runs = true) ∧ (4 = 4 ∨ 4 = 8) ∧ (0x1000000
    ≤ 0x0140002C) ∧ (0x0140002C < 0x10000000) ∧ ((sWinKey 0x01400000 : State).serves accA 0x0140002C 4 true 5) ∧ (((List.range (4 /
    4)).filterMap (fun k => (((sWinKey 0x01400000 : State).lane accA.lane).winAt (0x0140002C + 4 * k)).bind (fun x => if x.mask = 0 then none
    else some (0x0140002C + 4 * k, dataWord 5 k, word x.mask)))) ≠ []) ∧ (((Instr.loopTableWrite accA 0x0140002C 4 5)) = Instr.loopTableWrite
    accA 0x0140002C 4 5 ∨ ((Instr.loopTableWrite accA 0x0140002C 4 5)) = .axisPe accA 0x0140002C 4 5)) ∧
    (((sWinKey 0x04000000 : State).calm accA.lane) ∧ (((sWinKey 0x04000000 : State).lane accA.lane).runs = true) ∧ (8 = 4 ∨ 8 = 8) ∧ (0x1000000
    ≤ 0x04000020) ∧ (0x04000020 < 0x10000000) ∧ ((sWinKey 0x04000000 : State).serves accA 0x04000020 8 true 5) ∧ (((List.range (8 /
    4)).filterMap (fun k => (((sWinKey 0x04000000 : State).lane accA.lane).winAt (0x04000020 + 4 * k)).bind (fun x => if x.mask = 0 then none
    else some (0x04000020 + 4 * k, dataWord 5 k, word x.mask)))) ≠ []) ∧ (((Instr.axisPe accA 0x04000020 8 5)) = Instr.loopTableWrite accA
    0x04000020 8 5 ∨ ((Instr.axisPe accA 0x04000020 8 5)) = .axisPe accA 0x04000020 8 5)) :=
  ⟨by decide +kernel,
   by decide +kernel⟩

theorem test_ProgramCommandsEnter :
    (((sMay (Reg.LOGIC_PCTL 7 15) : State).calm accA.lane) ∧ (((sMay (Reg.LOGIC_PCTL 7 15) : State).lane accA.lane).runs = true) ∧ (127 < 128)
    ∧ ((((Instr.logicStep accA 127 0#32)), 4) ∈ [(Instr.logicRun accA 127 (0#32 : Word), 1), (.logicHold accA 127 (0#32 : Word), 2),
    (.logicStop accA 127 (0#32 : Word), 3), (.logicStep accA 127 (0#32 : Word), 4)]) ∧ ((sMay (Reg.LOGIC_PCTL 7 15) : State).serves accA
    (Reg.LOGIC_PCTL (127 / 16) (127 % 16)) 4 true (withBits (0#32 : Word) 2 0 4).toNat)) ∧
    (((sMay (Reg.LOGIC_PCTL 0 0) : State).calm accA.lane) ∧ (((sMay (Reg.LOGIC_PCTL 0 0) : State).lane accA.lane).runs = true) ∧ (0 < 128) ∧
    ((((Instr.logicRun accA 0 0#32)), 1) ∈ [(Instr.logicRun accA 0 (0#32 : Word), 1), (.logicHold accA 0 (0#32 : Word), 2), (.logicStop accA 0
    (0#32 : Word), 3), (.logicStep accA 0 (0#32 : Word), 4)]) ∧ ((sMay (Reg.LOGIC_PCTL 0 0) : State).serves accA (Reg.LOGIC_PCTL (0 / 16) (0 %
    16)) 4 true (withBits (0#32 : Word) 2 0 1).toNat)) ∧
    (((sMay (Reg.RECIPE_CH_CMD 31) : State).calm accA.lane) ∧ (((sMay (Reg.RECIPE_CH_CMD 31) : State).lane accA.lane).runs = true) ∧ (31 < 32)
    ∧ ((((Instr.recipeAbort accA 31 0#32)), 4) ∈ [(Instr.recipeStart accA 31 (0#32 : Word), 1), (.recipeHold accA 31 (0#32 : Word), 2),
    (.recipeResume accA 31 (0#32 : Word), 3), (.recipeAbort accA 31 (0#32 : Word), 4)]) ∧ ((sMay (Reg.RECIPE_CH_CMD 31) : State).serves accA
    (Reg.RECIPE_CH_CMD 31) 4 true (withBits (0#32 : Word) 2 0 4).toNat)) ∧
    (((sMay (Reg.RECIPE_CH_CMD 0) : State).calm accA.lane) ∧ (((sMay (Reg.RECIPE_CH_CMD 0) : State).lane accA.lane).runs = true) ∧ (0 < 32) ∧
    ((((Instr.recipeStart accA 0 0x100#32)), 1) ∈ [(Instr.recipeStart accA 0 (0x100#32 : Word), 1), (.recipeHold accA 0 (0x100#32 : Word), 2),
    (.recipeResume accA 0 (0x100#32 : Word), 3), (.recipeAbort accA 0 (0x100#32 : Word), 4)]) ∧ ((sMay (Reg.RECIPE_CH_CMD 0) : State).serves
    accA (Reg.RECIPE_CH_CMD 0) 4 true (withBits (0x100#32 : Word) 2 0 1).toNat)) :=
  ⟨by decide +kernel,
   by decide +kernel,
   by decide +kernel,
   by decide +kernel⟩

theorem test_ExchangeCommandsComplete :
    (sExch0.calm accA.lane ∧ ((((Instr.prepare accA 0#32)), F.LOGIC_EXCH_CTRL.PREPARE) ∈ [(Instr.prepare accA (0#32 : Word),
    F.LOGIC_EXCH_CTRL.PREPARE), (.abandon accA (0#32 : Word), F.LOGIC_EXCH_CTRL.ABANDON)]) ∧ ((sExch0.lane accA.lane).runs = true) ∧ (bits
    (0#32 : Word) 1 1 = 0) ∧ (sExch0.serves accA Reg.LOGIC_EXCH_CTRL 4 true (withBits (0#32 : Word) F.LOGIC_EXCH_CTRL.PREPARE.hi
    F.LOGIC_EXCH_CTRL.PREPARE.lo 1).toNat)) ∧
    (sExch0.calm accA.lane ∧ ((((Instr.abandon accA 0#32)), F.LOGIC_EXCH_CTRL.ABANDON) ∈ [(Instr.prepare accA (0#32 : Word),
    F.LOGIC_EXCH_CTRL.PREPARE), (.abandon accA (0#32 : Word), F.LOGIC_EXCH_CTRL.ABANDON)]) ∧ ((sExch0.lane accA.lane).runs = true) ∧ (bits
    (0#32 : Word) 1 1 = 0) ∧ (sExch0.serves accA Reg.LOGIC_EXCH_CTRL 4 true (withBits (0#32 : Word) F.LOGIC_EXCH_CTRL.ABANDON.hi
    F.LOGIC_EXCH_CTRL.ABANDON.lo 1).toNat)) ∧
    (sPrep.calm accA.lane ∧ sPrep.live LaneId.A ∧ ((sPrep.lane LaneId.A).store.preparing = true) ∧ ((sPrep.lane LaneId.A).imageBad im1 = false)) ∧
    (sPrep.calm accA.lane ∧ sPrep.live LaneId.A ∧ ((sPrep.lane LaneId.A).store.preparing = true) ∧ ((sPrep.lane LaneId.A).imageBad ({ im1 with
    valid := false }) = true)) ∧
    (sReady.calm accA.lane ∧ ((sReady.lane accA.lane).runs = true) ∧ (commitOk (sReady.lane accA.lane) (sReady.lane accA.lane.other) = true) ∧
    (bits (0#32 : Word) 0 0 = 0) ∧ (bits (0#32 : Word) 2 2 = 0) ∧ (sReady.serves accA Reg.LOGIC_EXCH_CTRL 4 true (withBits (0#32 : Word) 1 1
    1).toNat)) ∧
    (sReady.calm accA.lane ∧ (sReady.serves accA Reg.LOGIC_TRIAL_CTRL 4 true (withBits (5#32 : Word) 14 14 1).toNat) ∧ (bits (5#32 : Word) 15
    15 = 0)) ∧
    (sExch0.calm accA.lane ∧ (sExch0.serves accA Reg.LOGIC_TRIAL_CTRL 4 true (withBits (5#32 : Word) 14 14 1).toNat) ∧ (bits (5#32 : Word) 15
    15 = 0)) ∧
    (sTrial.calm accA.lane ∧ (sTrial.serves accA Reg.LOGIC_TRIAL_CTRL 4 true (withBits (0#32 : Word) 15 15 1).toNat) ∧ (bits (0#32 : Word) 14
    14 = 0)) :=
  ⟨by decide +kernel,
   by decide +kernel,
   by decide +kernel,
   by decide +kernel,
   by decide +kernel,
   by decide +kernel,
   by decide +kernel,
   by decide +kernel⟩

theorem test_RingEventsComplete :
    ((sRing.live (LaneId.A : LaneId)) ∧ (3 < 24) ∧ (1 ≤ (sRing.lane (LaneId.A : LaneId)).stage) ∧ ((sRing.lane (LaneId.A : LaneId)).runs =
    false ∨ 100 < (sRing.lane (LaneId.A : LaneId)).get F.CYCLE_TRING.NS) ∧ ((false && fcsGood ([1, 2])) = false) ∧ (Skr.ofBytes ([1, 2]) = none)) ∧
    ((sRing.live (LaneId.A : LaneId)) ∧ (3 < 24) ∧ (1 ≤ (sRing.lane (LaneId.A : LaneId)).stage) ∧ ((sRing.lane (LaneId.A : LaneId)).runs =
    false ∨ 100 < (sRing.lane (LaneId.A : LaneId)).get F.CYCLE_TRING.NS) ∧ ((true && fcsGood (([] : List Nat))) = false) ∧ (Skr.ofBytes (([] :
    List Nat)) = none)) ∧
    ((sRing.live (LaneId.A : LaneId)) ∧ (3 < 24) ∧ (1 ≤ (sRing.lane (LaneId.A : LaneId)).stage) ∧ ((sRing.lane (LaneId.A : LaneId)).runs =
    true) ∧ (100 < (sRing.lane (LaneId.A : LaneId)).get F.CYCLE_TRING.NS) ∧ ((sRing.lane (LaneId.A : LaneId)).cyc.cutDone = false) ∧ (fcsGood
    skr1.bytes = true) ∧ (Skr.ofBytes skr1.bytes = some skr1) ∧ (skr1.etype = (sRing.lane (LaneId.A : LaneId)).get (F.RING_ETYPE.ETYPE 3)) ∧
    (skr1.ver = 1) ∧ (skr1.ring = 3) ∧ (skr1.cfgId = ((sRing.lane (LaneId.A : LaneId)).rd (Reg.RING_CFG_ID 3)).toNat) ∧ (skr1.kind = 1 ∨
    skr1.kind = 3) ∧ (skr1.cyc = (sRing.lane (LaneId.A : LaneId)).cycN)) ∧
    ((sRing.live (LaneId.A : LaneId)) ∧ (23 < 24) ∧ (1 ≤ (sRing.lane (LaneId.A : LaneId)).stage) ∧ ((2, ((F.RING_STAT.XHOP_RX 23))) ∈ [(1,
    F.RING_STAT.XHOP_TX 23), (2, F.RING_STAT.XHOP_RX 23)])) ∧
    ((sRing.live (LaneId.A : LaneId)) ∧ (0 < 24) ∧ (1 ≤ (sRing.lane (LaneId.A : LaneId)).stage) ∧ ((1, ((F.RING_STAT.XHOP_TX 0))) ∈ [(1,
    F.RING_STAT.XHOP_TX 0), (2, F.RING_STAT.XHOP_RX 0)])) ∧
    ((sRing.live (LaneId.A : LaneId)) ∧ (0 < 24) ∧ (1 ≤ (sRing.lane (LaneId.A : LaneId)).stage) ∧ ((sRing.lane (LaneId.A :
    LaneId)).ring.dropped.contains 0 = false ∨ (sRing.lane (LaneId.A : LaneId)).granted 3 0 = true)) ∧
    ((sRingGr.live (LaneId.A : LaneId)) ∧ (3 < 24) ∧ (1 ≤ (sRingGr.lane (LaneId.A : LaneId)).stage) ∧ ((sRingGr.lane (LaneId.A :
    LaneId)).ring.dropped.contains 3 = false ∨ (sRingGr.lane (LaneId.A : LaneId)).granted 3 3 = true)) ∧
    ((sRingDrop.live (LaneId.A : LaneId)) ∧ (3 < 24) ∧ (1 ≤ (sRingDrop.lane (LaneId.A : LaneId)).stage) ∧ ((sRingDrop.lane (LaneId.A :
    LaneId)).ring.dropped.contains 3 = true) ∧ ((sRingDrop.lane (LaneId.A : LaneId)).granted 3 3 = false)) ∧
    ((sRing.live (LaneId.A : LaneId)) ∧ (3 < 24) ∧ (1 ≤ (sRing.lane (LaneId.A : LaneId)).stage)) ∧
    ((sRingGr.live (LaneId.A : LaneId)) ∧ (3 < 24) ∧ (1 ≤ (sRingGr.lane (LaneId.A : LaneId)).stage) ∧ ((sRingGr.lane (LaneId.A :
    LaneId)).granted 3 3 = true) ∧ ((sRingGr.lane (LaneId.A : LaneId)).ledger.waiting = [])) ∧
    ((sRingRetry.live (LaneId.A : LaneId)) ∧ (3 < 24) ∧ (1 ≤ (sRingRetry.lane (LaneId.A : LaneId)).stage) ∧ ((sRingRetry.lane (LaneId.A :
    LaneId)).ring.train.find? (fun x => x.1 == 3) = some (3, 1000)) ∧ (sRingRetry.now = 1000 + 400000000)) :=
  ⟨by decide +kernel,
   by decide +kernel,
   by decide +kernel,
   by decide +kernel,
   by decide +kernel,
   by decide +kernel,
   by decide +kernel,
   by decide +kernel,
   by decide +kernel,
   by decide +kernel,
   by decide +kernel⟩

theorem test_AnalogEventsComplete :
    ((sOwOn.live (LaneId.A : LaneId)) ∧ ((sOwOn.lane (LaneId.A : LaneId)).car.ow.slots = [((sOwOn.lane (LaneId.A : LaneId)).cycN + 1, 9)]) ∧
    ((sOwOn.lane (LaneId.A : LaneId)).owFlows ((sOwOn.lane (LaneId.A : LaneId)).cycN + 1) = true)) ∧
    ((sOwOff.live (LaneId.A : LaneId)) ∧ ((sOwOff.lane (LaneId.A : LaneId)).car.ow.slots = [((sOwOff.lane (LaneId.A : LaneId)).cycN, 9)]) ∧
    ((sOwOff.lane (LaneId.A : LaneId)).owEnd ≤ (sOwOff.lane (LaneId.A : LaneId)).t64)) ∧
    ((((sOw (2 ^ 32 + 6) 300000) : State).live (LaneId.A : LaneId)) ∧ ((((Instr.owCurrentOn LaneId.A)), ((2 ^ 32 + 6)), (((sOw (2 ^ 32 + 6)
    300000).lane LaneId.A).owStart)) = (Instr.owCurrentOn (LaneId.A : LaneId), (((sOw (2 ^ 32 + 6) 300000) : State).lane (LaneId.A :
    LaneId)).cycN + 1, (((sOw (2 ^ 32 + 6) 300000) : State).lane (LaneId.A : LaneId)).owStart) ∨ (((Instr.owCurrentOn LaneId.A)), ((2 ^ 32 +
    6)), (((sOw (2 ^ 32 + 6) 300000).lane LaneId.A).owStart)) = (.owCurrentOff (LaneId.A : LaneId), (((sOw (2 ^ 32 + 6) 300000) : State).lane
    (LaneId.A : LaneId)).cycN, (((sOw (2 ^ 32 + 6) 300000) : State).lane (LaneId.A : LaneId)).owEnd))) ∧
    ((((sOw (2 ^ 32 + 5) 300000) : State).live (LaneId.A : LaneId)) ∧ ((((Instr.owCurrentOff LaneId.A)), ((2 ^ 32 + 5)), (((sOw (2 ^ 32 + 5)
    300000).lane LaneId.A).owEnd)) = (Instr.owCurrentOn (LaneId.A : LaneId), (((sOw (2 ^ 32 + 5) 300000) : State).lane (LaneId.A :
    LaneId)).cycN + 1, (((sOw (2 ^ 32 + 5) 300000) : State).lane (LaneId.A : LaneId)).owStart) ∨ (((Instr.owCurrentOff LaneId.A)), ((2 ^ 32 +
    5)), (((sOw (2 ^ 32 + 5) 300000).lane LaneId.A).owEnd)) = (.owCurrentOff (LaneId.A : LaneId), (((sOw (2 ^ 32 + 5) 300000) : State).lane
    (LaneId.A : LaneId)).cycN, (((sOw (2 ^ 32 + 5) 300000) : State).lane (LaneId.A : LaneId)).owEnd))) ∧
    ((s0.live (LaneId.A : LaneId)) ∧ (31 < 32) ∧ ((if (s0.lane (LaneId.A : LaneId)).get (F.AOUT_CFG.RANGE 31) = 0 then 65536 else 32768) < (328
    - (s0.lane (LaneId.A : LaneId)).aoCode 31).natAbs * 200)) ∧
    ((s0.live (LaneId.A : LaneId)) ∧ (31 < 32) ∧ ((((-3)) - (s0.lane (LaneId.A : LaneId)).aoCode 31).natAbs * 200 ≤ (if (s0.lane (LaneId.A :
    LaneId)).get (F.AOUT_CFG.RANGE 31) = 0 then 65536 else 32768))) ∧
    ((sFi.live (LaneId.A : LaneId)) ∧ ((sFi.lane (LaneId.A : LaneId)).ain.fiAt = some 1000) ∧ (sFi.now = 1000 + 40000) ∧ ((sFi.lane (LaneId.A :
    LaneId)).flag F.FI_CTRL.READY = false)) ∧
    ((sFilt.live (LaneId.A : LaneId)) ∧ (63 < 64) ∧ ((sFilt.lane (LaneId.A : LaneId)).ainOn 63 = true) ∧ (0 < (sFilt.lane (LaneId.A :
    LaneId)).get (F.AIN_CH_CFG.FILT_K 63)) ∧ ((sFilt.lane (LaneId.A : LaneId)).running = true) ∧ (0 < (sFilt.lane (LaneId.A : LaneId)).incr) ∧
    (((sFilt.lane (LaneId.A : LaneId)).convH 63).holds + 1 < (sFilt.lane (LaneId.A : LaneId)).get (F.AIN_CH_CFG.FILT_D 63))) ∧
    ((sFast.live (LaneId.A : LaneId)) ∧ (7 < 8) ∧ ((∀ j ∈ [LaneId.A, LaneId.B], sFast.live j ∧ (sFast.lane j).flag F.FI_CTRL.READY = true ∧
    (sFast.lane j).runs = false ∧ (sFast.lane j).capturing = false ∧ (sFast.lane j).get F.FI_CTRL.EN = 2 ^ 7))) :=
  ⟨by decide +kernel,
   by decide +kernel,
   by decide +kernel,
   by decide +kernel,
   by decide +kernel,
   by decide +kernel,
   by decide +kernel,
   by decide +kernel,
   by decide +kernel⟩

theorem test_AxisEventsComplete :
    (((∀ j ∈ [LaneId.A, LaneId.B], sAxes.live j ∧ directAxis (sAxes.lane j) 15 = true)) ∧ (([5, 6, 7]).length = ([5, 7, 7]).length) ∧ ((∀ x ∈
    ([5, 6, 7]).zip ([5, 7, 7]), x.1 ≤ x.2 + 1 ∧ x.2 ≤ x.1 + 1)) ∧ ((∀ j ∈ [LaneId.A, LaneId.B], sAxes.runner = some j → ((sAxes.lane j).axHw
    15).k < (sAxes.lane j).pwmDiv 15))) ∧
    (((∀ j ∈ [LaneId.A, LaneId.B], sAxes.live j ∧ directAxis (sAxes.lane j) 15 = true)) ∧ ((([] : List Nat)).length = (([] : List Nat)).length)
    ∧ ((∀ x ∈ (([] : List Nat)).zip (([] : List Nat)), x.1 ≤ x.2 + 1 ∧ x.2 ≤ x.1 + 1)) ∧ ((∀ j ∈ [LaneId.A, LaneId.B], sAxes.runner = some j →
    ((sAxes.lane j).axHw 15).k < (sAxes.lane j).pwmDiv 15))) ∧
    (((∀ j ∈ [LaneId.A, LaneId.B], sAxes.live j ∧ directAxis (sAxes.lane j) 15 = true)) ∧ ((sAxes.lane (LaneId.B : LaneId)).get
    (F.AXIS_HW_CFG.I_TRIP 15) < 3000)) ∧
    (((∀ j ∈ [LaneId.A, LaneId.B], sAxes.live j ∧ directAxis (sAxes.lane j) 15 = true)) ∧ (sAxes.base.primacy = some (LaneId.A : LaneId)) ∧
    (((sAxes.lane (LaneId.A : LaneId)).axHw 15).gates = true)) ∧
    (((∀ j ∈ [LaneId.A, LaneId.B], sAxes.live j ∧ directAxis (sAxes.lane j) 15 = true))) ∧
    (((∀ j ∈ [LaneId.A, LaneId.B], sAxes.live j ∧ directAxis (sAxes.lane j) 0 = true)) ∧ ((sAxes.lane (LaneId.A : LaneId)).homeMethod 0 = 0)) :=
  ⟨by decide +kernel,
   by decide +kernel,
   by decide +kernel,
   by decide +kernel,
   by decide +kernel,
   by decide +kernel⟩

theorem test_BusEventsComplete :
    ((11 < 12) ∧ (sArb.base.primacy = some (LaneId.A : LaneId)) ∧ ((∀ j ∈ [LaneId.A, LaneId.B], sArb.live j ∧ 1 ≤ (sArb.lane j).stage)) ∧
    ((sArb.lane (LaneId.A : LaneId)).serves = true) ∧ ((sArb.lane (LaneId.A : LaneId)).mayTx 11 = true) ∧ ((sArb.lane (LaneId.A : LaneId)).flag
    (F.PBUS_STAT.TRANSMITTER 11) = true) ∧ ((sArb.lane (LaneId.A : LaneId).other).flag (F.PBUS_STAT.TRANSMITTER 11) = false) ∧ ((∀ j ∈
    [LaneId.A, LaneId.B], ((sArb.lane j).attempt 11).isNone = true)) ∧ ((sArb.lane (LaneId.A : LaneId)).offered 11 = some fr1) ∧ ((sArb.lane
    (LaneId.A : LaneId)).pend 11 fr1.obj = some fr1)) ∧
    ((11 < 12) ∧ (s2.base.primacy = some (LaneId.A : LaneId)) ∧ ((∀ j ∈ [LaneId.A, LaneId.B], s2.live j ∧ 1 ≤ (s2.lane j).stage)) ∧ (bf1.remote
    = false) ∧ ((∀ j ∈ [LaneId.A, LaneId.B], ((s2.lane j).attempt 11).isNone = true ∧ (s2.lane j).pbus.queue = [] ∧ (s2.lane j).running = true
    ∧ (s2.lane j).rxObj 11 bf1.idw = none))) ∧
    ((11 < 12) ∧ (sTxErr.base.primacy = some (LaneId.A : LaneId)) ∧ ((∀ j ∈ [LaneId.A, LaneId.B], sTxErr.live j ∧ 1 ≤ (sTxErr.lane j).stage)) ∧
    ((sTxErr.lane (LaneId.A : LaneId)).attempt 11 = some ({ fr1 with active := true })) ∧ ((sTxErr.lane (LaneId.A : LaneId).other).flag
    (F.PBUS_STAT.TRANSMITTER 11) = false) ∧ (((sTxErr.lane (LaneId.A : LaneId)).pctl 11).st = 0) ∧ (((sTxErr.lane (LaneId.A : LaneId)).pctl
    11).tec + 8 < 128) ∧ (((sTxErr.lane (LaneId.A : LaneId)).pctl 11).rxe < 128)) ∧
    ((11 < 12) ∧ (sTxErr.base.primacy = some (LaneId.A : LaneId)) ∧ ((∀ j ∈ [LaneId.A, LaneId.B], sTxErr.live j ∧ 1 ≤ (sTxErr.lane j).stage)) ∧
    (((sTxErr.lane (LaneId.A : LaneId)).pctl 11).st = 0) ∧ (((sTxErr.lane (LaneId.A : LaneId)).pctl 11).tec < 128) ∧ (((sTxErr.lane (LaneId.A :
    LaneId)).pctl 11).rxe + 27 < 128)) ∧
    ((11 < 12) ∧ (sOff.base.primacy = some (LaneId.A : LaneId)) ∧ ((∀ j ∈ [LaneId.A, LaneId.B], sOff.live j ∧ 1 ≤ (sOff.lane j).stage)) ∧
    (((sOff.lane (LaneId.A : LaneId)).pctl 11).st = 3)) :=
  ⟨by decide +kernel,
   by decide +kernel,
   by decide +kernel,
   by decide +kernel,
   by decide +kernel⟩

theorem test_PipEventsComplete :
    (((∀ j ∈ [LaneId.A, LaneId.B], s2.live j)) ∧ (127 < 128) ∧ ((∀ j ∈ [LaneId.A, LaneId.B], ((s2.lane j).pip.line 127).raw ≠ true))) ∧
    (((∀ j ∈ [LaneId.A, LaneId.B], ({ sPipRun with now := 8000 } : State).live j)) ∧ ((({ sPipRun with now := 8000 } : State).lane (LaneId.B :
    LaneId)).flag F.SAFE_STAT.PIP_RUN = true) ∧ ((({ sPipRun with now := 8000 } : State).lane (LaneId.B : LaneId)).pip.yAt + 8000 = ({ sPipRun
    with now := 8000 } : State).now)) ∧
    (((∀ j ∈ [LaneId.A, LaneId.B], sOffD.live j)) ∧ ((sOffD.lane (LaneId.A : LaneId)).flag F.SAFE_STAT.PIP_RUN = true) ∧ ((sOffD.lane (LaneId.A
    : LaneId)).pip.bank.outputs = [5]) ∧ ((sOffD.lane (LaneId.A : LaneId)).pip.bank.terms 5 = []) ∧ ((sOffD.lane (LaneId.A :
    LaneId)).pip.bank.latch 5 = false) ∧ ((sOffD.lane (LaneId.A : LaneId)).pip.bank.edm 5 = false) ∧ (((sOffD.lane (LaneId.A :
    LaneId)).pip.x.out 5).cmd = true) ∧ (((sOffD.lane (LaneId.A : LaneId)).pip.x.out 5).delay = some 1000) ∧ (((sOffD.lane (LaneId.A :
    LaneId)).pip.y.out 5).cmd = true) ∧ (((sOffD.lane (LaneId.A : LaneId)).pip.y.out 5).delay = some 1000) ∧ (sOffD.now = 1000 + (sOffD.lane
    (LaneId.A : LaneId)).pip.bank.offDelay 5)) ∧
    (((∀ j ∈ [LaneId.A, LaneId.B], sFb.live j)) ∧ (5 < 64) ∧ (((sFb.lane (LaneId.A : LaneId)).pip.x.out 5).fb = some (1000, true)) ∧
    (((sFb.lane (LaneId.A : LaneId)).pip.y.out 5).fb = some (1000, true)) ∧ (sFb.now = 1000 + (sFb.lane (LaneId.A : LaneId)).pip.bank.fbTime 5)
    ∧ ((sFb.lane (LaneId.A : LaneId)).flag F.SAFE_FAULT.VALID = false)) ∧
    (((∀ j ∈ [LaneId.A, LaneId.B], sPairF.live j)) ∧ (0 < 64) ∧ (((sPairF.lane (LaneId.A : LaneId)).pip.x.pair 0).single = some 1000) ∧
    (((sPairF.lane (LaneId.A : LaneId)).pip.y.pair 0).single = some 1000) ∧ (((sPairF.lane (LaneId.A : LaneId)).pip.x.pair 0).fault = false) ∧
    (sPairF.now = 1000 + bits ((sPairF.lane (LaneId.A : LaneId)).pip.bank.di (2 * 0)) 31 24 * 4000000) ∧ ((sPairF.lane (LaneId.A :
    LaneId)).flag F.SAFE_FAULT.VALID = false)) ∧
    (((∀ j ∈ [LaneId.A, LaneId.B], sPdu.live j)) ∧ (1 < 2) ∧ ((sPdu.lane (LaneId.A : LaneId)).pip.rx.find? (fun pdu1 => pdu1.1 == 1) = some pdu1)) ∧
    (((∀ j ∈ [LaneId.A, LaneId.B], sExp.live j)) ∧ (1 < 2) ∧ (((sExp.lane (LaneId.A : LaneId)).pip.chan (1 == 0)).conns = [conn1]) ∧ (conn1.st
    ≠ 0) ∧ (conn1.dead = sExp.now)) ∧
    (((∀ j ∈ [LaneId.A, LaneId.B], s2.live j)) ∧ (15 < 16) ∧ ((s2.lane (LaneId.A : LaneId)).flag F.SAFE_FAULT.VALID = false)) ∧
    (((∀ j ∈ [LaneId.A, LaneId.B], s2.live j)) ∧ (s2.linked = true) ∧ (s2.bridgeBad = false) ∧ (vectorsDiffer s2.a.pip s2.b.pip = false) ∧
    (vectorsDiffer s2.b.pip s2.a.pip = false)) ∧
    (((∀ j ∈ [LaneId.A, LaneId.B], (sVec 1000 : State).live j)) ∧ ((sVec 1000 : State).linked = true) ∧ ((sVec 1000 : State).bridgeBad = false)
    ∧ (vectorsDiffer (sVec 1000 : State).a.pip (sVec 1000 : State).b.pip = true) ∧ (vectorsDiffer (sVec 1000 : State).b.pip (sVec 1000 :
    State).a.pip = true) ∧ ((∀ j ∈ [LaneId.A, LaneId.B], ((sVec 1000 : State).lane j).pip.diff = some 1000)) ∧ (1000 + 40000000 ≤ (sVec 1000 :
    State).now)) :=
  ⟨by decide +kernel,
   by decide +kernel,
   by decide +kernel,
   by decide +kernel,
   by decide +kernel,
   by decide +kernel,
   by decide +kernel,
   by decide +kernel,
   by decide +kernel,
   by decide +kernel⟩

theorem test_PipFaultCompletes :
    (((sPipRun.lane (LaneId.A : LaneId)).sup.valid = true) ∧ ((sPipRun.lane (LaneId.A : LaneId)).pip.faultAt = none) ∧ ((sPipRun.lane (LaneId.A
    : LaneId)).flag F.SAFE_STAT.PIP_RUN = true) ∧ (faultable (sPipRun.lane (LaneId.A : LaneId)).st = true) ∧ ((sPipRun.lane (LaneId.A :
    LaneId)).flag F.SAFE_FAULT.VALID = false) ∧ (2 ∈ [2, 3, 4, 0xA]) ∧ (65535 < 65536)) ∧
    (((sPipRun.lane (LaneId.A : LaneId)).sup.valid = true) ∧ ((sPipRun.lane (LaneId.A : LaneId)).pip.faultAt = none) ∧ ((sPipRun.lane (LaneId.A
    : LaneId)).flag F.SAFE_STAT.PIP_RUN = true) ∧ (faultable (sPipRun.lane (LaneId.A : LaneId)).st = true) ∧ ((sPipRun.lane (LaneId.A :
    LaneId)).flag F.SAFE_FAULT.VALID = false) ∧ (0xA ∈ [2, 3, 4, 0xA]) ∧ (0 < 65536)) ∧
    (((sMis.lane (LaneId.A : LaneId)).sup.valid = true) ∧ ((sMis.lane (LaneId.A : LaneId)).pip.faultAt = none) ∧ ((sMis.lane (LaneId.A :
    LaneId)).flag F.SAFE_STAT.PIP_RUN = true) ∧ (faultable (sMis.lane (LaneId.A : LaneId)).st = true) ∧ ((sMis.lane (LaneId.A : LaneId)).flag
    F.SAFE_FAULT.VALID = false) ∧ ((sMis.lane (LaneId.A : LaneId)).pip.mismatch = some (5, 21025)) ∧ (5 < 400) ∧ (sMis.now = 21025)) :=
  ⟨by decide +kernel,
   by decide +kernel,
   by decide +kernel⟩

theorem test_SwitchAndMatrixCommandsComplete :
    (((∀ j ∈ [LaneId.A, LaneId.B], sDue.live j)) ∧ ((sDue.lane (LaneId.A : LaneId)).pip.aligned = true) ∧ ((sDue.lane (LaneId.A :
    LaneId)).testNs ≠ 0) ∧ ((sDue.lane (LaneId.A : LaneId)).testAt 1 ≤ (sDue.lane (LaneId.A : LaneId)).pipTime) ∧ ((sDue.lane (LaneId.A :
    LaneId)).pipTime < (sDue.lane (LaneId.A : LaneId)).testAt 1 + 200000) ∧ ((sDue.lane (LaneId.A : LaneId)).pip.testing = none)) ∧
    (((∀ j ∈ [LaneId.A, LaneId.B], sTest.live j)) ∧ (5 < 64) ∧ ((sTest.lane (LaneId.A : LaneId)).pip.testing = some (1, 1000, [5])) ∧
    (sTest.now = 1000 + 80000) ∧ ((sTest.lane (LaneId.A : LaneId)).num < 2)) ∧
    (((∀ j ∈ [LaneId.A, LaneId.B], sTest.live j)) ∧ (5 < 64) ∧ ((sTest.lane (LaneId.A : LaneId)).pip.testing = some (1, 1000, [5])) ∧
    (sTest.now = 1000 + 80000) ∧ ((sTest.lane (LaneId.A : LaneId)).num < 2) ∧ ((sTest.lane (LaneId.A : LaneId)).flag F.SAFE_FAULT.VALID = false)) ∧
    (((∀ j ∈ [LaneId.A, LaneId.B], sBr.live j)) ∧ (sBr.counts (LaneId.B : LaneId) = sBr.wantBridge (LaneId.B : LaneId))) ∧
    (((∀ j ∈ [LaneId.A, LaneId.B], sOn.live j)) ∧ (5 < 64) ∧ (sOn.outOn 5 = true)) ∧
    (((∀ j ∈ [LaneId.A, LaneId.B], sOver.live j)) ∧ (sOver.base.soOver.find? (fun x => x.1 == 5) = some (5, 900))) ∧
    (((∀ j ∈ [LaneId.A, LaneId.B], sSafeW.live j)) ∧ ((((Instr.safeLoad accA 0#32 none)), F.SAFE_LOAD_CTRL.LOAD) ∈ [(Instr.safeLoad accA (0#32)
    none, F.SAFE_LOAD_CTRL.LOAD), (.safeActivate accA (0#32), F.SAFE_LOAD_CTRL.ACTIVATE)]) ∧ sSafeW.calm accA.lane ∧ ((sSafeW.lane
    accA.lane).runs = true) ∧ (sSafeW.serves accA Reg.SAFE_LOAD_CTRL 4 true (withBits (0#32) F.SAFE_LOAD_CTRL.LOAD.hi F.SAFE_LOAD_CTRL.LOAD.lo
    1).toNat)) ∧
    (((∀ j ∈ [LaneId.A, LaneId.B], sSafeW.live j)) ∧ ((((Instr.safeActivate accA 0#32)), F.SAFE_LOAD_CTRL.ACTIVATE) ∈ [(Instr.safeLoad accA
    (0#32) none, F.SAFE_LOAD_CTRL.LOAD), (.safeActivate accA (0#32), F.SAFE_LOAD_CTRL.ACTIVATE)]) ∧ sSafeW.calm accA.lane ∧ ((sSafeW.lane
    accA.lane).runs = true) ∧ (sSafeW.serves accA Reg.SAFE_LOAD_CTRL 4 true (withBits (0#32) F.SAFE_LOAD_CTRL.ACTIVATE.hi
    F.SAFE_LOAD_CTRL.ACTIVATE.lo 1).toNat)) ∧
    (((∀ j ∈ [LaneId.A, LaneId.B], sLoad.live j)) ∧ ((sLoad.lane (LaneId.A : LaneId)).get F.SAFE_LOAD_STAT.OWN = 1)) ∧
    (((∀ j ∈ [LaneId.A, LaneId.B], sAct.live j)) ∧ ((∀ j ∈ [LaneId.A, LaneId.B], (sAct.lane j).pip.actAt = some ((2 ^ 32 + 3)) ∧ (sAct.lane
    j).tOf ((2 ^ 32 + 3)) ≤ (sAct.lane j).pipTime)) ∧ (((2 ^ 32 + 3)) < 2 ^ 64)) :=
  ⟨by decide +kernel,
   by decide +kernel,
   by decide +kernel,
   by decide +kernel,
   by decide +kernel,
   by decide +kernel,
   by decide +kernel,
   by decide +kernel,
   by decide +kernel,
   by decide +kernel⟩

theorem test_CaptureCommandsEnter :
    (((sMay 0x800000 : State).calm accA.lane) ∧ (((sMay 0x800000 : State).lane accA.lane).runs = true) ∧ ((((Instr.captArm accA 0x10#32)), 1) ∈
    [(Instr.captArm accA (0x10#32 : Word), 1), (.captStop accA (0x10#32 : Word), 2), (.captAbort accA (0x10#32 : Word), 3)]) ∧ ((sMay 0x800000
    : State).serves accA Reg.CAPT_CTRL 4 true (withBits (0x10#32 : Word) 1 0 1).toNat)) ∧
    (((sMay 0x800000 : State).calm accA.lane) ∧ (((sMay 0x800000 : State).lane accA.lane).runs = true) ∧ ((((Instr.captAbort accA 0#32)), 3) ∈
    [(Instr.captArm accA (0#32 : Word), 1), (.captStop accA (0#32 : Word), 2), (.captAbort accA (0#32 : Word), 3)]) ∧ ((sMay 0x800000 :
    State).serves accA Reg.CAPT_CTRL 4 true (withBits (0#32 : Word) 1 0 3).toNat)) ∧
    (((sKey3 0xB00000 : State).calm accA.lane) ∧ (((sKey3 0xB00000 : State).lane accA.lane).runs = true) ∧ ((sKey3 0xB00000 : State).serves
    accA Reg.HOST_HALT 4 true (1#32 : Word).toNat)) :=
  ⟨by decide +kernel,
   by decide +kernel,
   by decide +kernel⟩

theorem test_CaptureEventsComplete :
    ((sCapStart.works (LaneId.A : LaneId) captPage) ∧ ((sCapStart.lane (LaneId.A : LaneId)).ledger.waiting = []) ∧ ((sCapStart.lane (LaneId.A :
    LaneId)).capt.startAt = some 400) ∧ ((sCapStart.lane (LaneId.A : LaneId)).captSt = 1) ∧ (400 ≤ (sCapStart.lane (LaneId.A : LaneId)).t64)) ∧
    ((sCapFire.works (LaneId.A : LaneId) captPage) ∧ ((sCapFire.lane (LaneId.A : LaneId)).ledger.waiting = []) ∧ (63 < 64) ∧ ((sCapFire.lane
    (LaneId.A : LaneId)).flag (F.CAPT_TU_CFG.EN 63) = true) ∧ ((sCapFire.lane (LaneId.A : LaneId)).get (F.CAPT_TU_CFG.KIND 63) = 0) ∧
    ((sCapFire.lane (LaneId.A : LaneId)).flag (F.CAPT_TU_CFG.MIRROR 63) = false) ∧ (edgeSuits ((sCapFire.lane (LaneId.A : LaneId)).get
    (F.CAPT_TU_CFG.EDGE 63)) true = true) ∧ ((sCapFire.lane (LaneId.A : LaneId)).fiArmed 63 true = true) ∧ ((sCapFire.lane (LaneId.A :
    LaneId)).flag F.FI_CTRL.READY = true) ∧ ((sCapFire.lane (LaneId.A : LaneId)).capt.t0 * 256 ≤ (sCapFire.lane (LaneId.A : LaneId)).capt.ts) ∧
    ((((fineStamp (sCapFire.lane LaneId.A).time.acc (2 * 2 ^ 32 + (sCapFire.lane LaneId.A).get F.TIME_INC.FRAC) 5).1 * 256 + (fineStamp
    (sCapFire.lane LaneId.A).time.acc (2 * 2 ^ 32 + (sCapFire.lane LaneId.A).get F.TIME_INC.FRAC) 5).2)) = (fineStamp (sCapFire.lane (LaneId.A
    : LaneId)).time.acc (2 * 2 ^ 32 + (sCapFire.lane (LaneId.A : LaneId)).get F.TIME_INC.FRAC) 5).1 * 256 + (fineStamp (sCapFire.lane (LaneId.A
    : LaneId)).time.acc (2 * 2 ^ 32 + (sCapFire.lane (LaneId.A : LaneId)).get F.TIME_INC.FRAC) 5).2) ∧ ((sCapFire.lane (LaneId.A :
    LaneId)).captSt = 2) ∧ ((sCapFire.lane (LaneId.A : LaneId)).seqClose = none) ∧ ((sCapFire.lane (LaneId.A : LaneId)).capt.stopAt = none) ∧
    ((sCapFire.lane (LaneId.A : LaneId)).capt.trig = none) ∧ ((sCapFire.lane (LaneId.A : LaneId)).capt.ts + ((sCapFire.lane (LaneId.A :
    LaneId)).rd (Reg.CAPT_ST_HOLDOFF ((sCapFire.lane (LaneId.A : LaneId)).get F.CAPT_STAT.SEQ))).toNat * 256 ≤ (((fineStamp (sCapFire.lane
    LaneId.A).time.acc (2 * 2 ^ 32 + (sCapFire.lane LaneId.A).get F.TIME_INC.FRAC) 5).1 * 256 + (fineStamp (sCapFire.lane LaneId.A).time.acc (2
    * 2 ^ 32 + (sCapFire.lane LaneId.A).get F.TIME_INC.FRAC) 5).2))) ∧ ((sCapFire.lane (LaneId.A : LaneId)).get (F.CAPT_ST_W0.A ((sCapFire.lane
    (LaneId.A : LaneId)).get F.CAPT_STAT.SEQ)) = 63) ∧ ((sCapFire.lane (LaneId.A : LaneId)).get (F.CAPT_ST_COUNT.COUNT ((sCapFire.lane
    (LaneId.A : LaneId)).get F.CAPT_STAT.SEQ)) ≤ (sCapFire.lane (LaneId.A : LaneId)).capt.count + 1) ∧ ((sCapFire.lane (LaneId.A : LaneId)).get
    (F.CAPT_ST_W0.ACTION ((sCapFire.lane (LaneId.A : LaneId)).get F.CAPT_STAT.SEQ)) = 1) ∧ ((sCapFire.lane (LaneId.A : LaneId)).capt.firings <
    65280)) ∧
    ((sCapWin.works (LaneId.A : LaneId) captPage) ∧ ((sCapWin.lane (LaneId.A : LaneId)).ledger.waiting = []) ∧ ((sCapWin.lane (LaneId.A :
    LaneId)).seqClose = some 768000) ∧ ((sCapWin.lane (LaneId.A : LaneId)).capturing = true) ∧ ((768000 + 255) / 256 ≤ (sCapWin.lane (LaneId.A
    : LaneId)).t64)) ∧
    ((sCapNone.works (LaneId.A : LaneId) captPage) ∧ ((sCapNone.lane (LaneId.A : LaneId)).ledger.waiting = []) ∧ ((sCapNone.lane (LaneId.A :
    LaneId)).captSt = 2) ∧ ((sCapNone.lane (LaneId.A : LaneId)).capt.t0 + ((sCapNone.lane (LaneId.A : LaneId)).rd Reg.CAPT_ARM_MAX).toNat *
    1000000 ≤ (sCapNone.lane (LaneId.A : LaneId)).t64)) ∧
    ((sCapFull.works (LaneId.A : LaneId) captPage) ∧ ((sCapFull.lane (LaneId.A : LaneId)).ledger.waiting = []) ∧ ((sCapFull.lane (LaneId.A :
    LaneId)).captSt = 3) ∧ ((sCapFull.lane (LaneId.A : LaneId)).capt.trig = some (900, 6)) ∧ (6 + ((sCapFull.lane (LaneId.A : LaneId)).rd
    Reg.CAPT_POST).toNat ≤ (sCapFull.lane (LaneId.A : LaneId)).capt.frames)) ∧
    ((sCapOn.works (LaneId.A : LaneId) captPage) ∧ ((sCapOn.lane (LaneId.A : LaneId)).ledger.waiting = []) ∧ ((sCapOn.lane (LaneId.A :
    LaneId)).capturing = true) ∧ ((sCapOn.lane (LaneId.A : LaneId)).capt.headAt + 1000000 ≤ (sCapOn.lane (LaneId.A : LaneId)).t64)) ∧
    ((sCapOn.works (LaneId.A : LaneId) captPage) ∧ ((sCapOn.lane (LaneId.A : LaneId)).ledger.waiting = []) ∧ ((sCapOn.lane (LaneId.A :
    LaneId)).capturing = true)) :=
  ⟨by decide +kernel,
   by decide +kernel,
   by decide +kernel,
   by decide +kernel,
   by decide +kernel,
   by decide +kernel,
   by decide +kernel⟩

theorem test_RecorderCommandsComplete :
    ((sRecSend.works (LaneId.A : LaneId) recPage) ∧ ((sRecSend.lane (LaneId.A : LaneId)).stage = 3) ∧ ((sRecSend.lane (LaneId.A :
    LaneId)).recd.send < (sRecSend.lane (LaneId.A : LaneId)).recd.cnt.pseq) ∧ ((sRecSend.lane (LaneId.A : LaneId)).recd.cnt.pseq ≤
    (sRecSend.lane (LaneId.A : LaneId)).recd.send + holdSlots) ∧ ((sRecSend.lane (LaneId.A : LaneId)).uncorrIn (4096 * ((sRecSend.lane
    (LaneId.A : LaneId)).recd.send % holdSlots)) 4096 = false) ∧ ((sRecSend.lane (LaneId.A : LaneId)).flag F.REC_PORT_CTRL.EN = true) ∧
    ((sRecSend.lane (LaneId.A : LaneId)).flag F.REC_PORT_CTRL.LINK = true) ∧ ((sRecSend.lane (LaneId.A : LaneId)).recd.mac.isSome = true)) ∧
    ((sRecSkip.works (LaneId.A : LaneId) recPage) ∧ ((sRecSkip.lane (LaneId.A : LaneId)).stage = 3) ∧ ((sRecSkip.lane (LaneId.A :
    LaneId)).recd.send + holdSlots < (sRecSkip.lane (LaneId.A : LaneId)).recd.cnt.pseq) ∧ ((sRecSkip.lane (LaneId.A : LaneId)).flag
    F.REC_PORT_CTRL.EN = false) ∧ ((sRecSkip.lane (LaneId.A : LaneId)).uncorrIn (4096 * (((sRecSkip.lane (LaneId.A : LaneId)).recd.cnt.pseq -
    holdSlots) % holdSlots)) 4096 = false)) ∧
    ((sRecDown.works (LaneId.A : LaneId) recPage) ∧ ((sRecDown.lane (LaneId.A : LaneId)).flag F.REC_PORT_CTRL.LINK = false)) ∧
    ((sRecUp.works (LaneId.A : LaneId) recPage) ∧ ((sRecUp.lane (LaneId.A : LaneId)).flag F.REC_PORT_CTRL.LINK = true)) ∧
    ((sRecFl2.works (LaneId.A : LaneId) recPage) ∧ (((sRecFl2.lane (LaneId.A : LaneId)).granted 4 0 || (sRecFl2.lane (LaneId.A :
    LaneId)).granted 5 0) = true) ∧ ((sRecFl2.lane (LaneId.A : LaneId)).recd.flashQ = (7, 2) :: ([(8, 3)])) ∧ (((sRecFl2.lane (LaneId.A :
    LaneId)).recd.wrote.filter (fun x => decide (sRecFl2.now < x + 400000000))).length < 976) ∧ ((sRecFl2.lane (LaneId.A :
    LaneId)).recd.store.length < storeSlots)) ∧
    ((sRecFl0.works (LaneId.A : LaneId) recPage) ∧ ((sRecFl0.lane (LaneId.A : LaneId)).granted 4 0 = true) ∧ ((sRecFl0.lane (LaneId.A :
    LaneId)).recd.flashQ = []) ∧ ((sRecFl0.lane (LaneId.A : LaneId)).ledger.waiting = [])) :=
  ⟨by decide +kernel,
   by decide +kernel,
   by decide +kernel,
   by decide +kernel,
   by decide +kernel,
   by decide +kernel⟩

theorem test_LogCommandsComplete :
    ((sLog0.live (LaneId.A : LaneId))) ∧
    ((sLog0.live (LaneId.A : LaneId))) ∧
    ((sLogDrop.live (LaneId.A : LaneId)) ∧ ((sLogDrop.lane (LaneId.A : LaneId)).log.dropped ≠ 0) ∧ ((sLogDrop.lane (LaneId.A :
    LaneId)).log.buf.length < 1024)) ∧
    ((sLog0.live (LaneId.A : LaneId)) ∧ (accA.lane = (LaneId.A : LaneId)) ∧ ((sLog0.lane (LaneId.A : LaneId)).log.rd = none) ∧ (bits (0#32 :
    Word) 1 1 = 0) ∧ (sLog0.serves accA Reg.LOG_RD_CTRL 4 true (withBits (0#32 : Word) 0 0 1).toNat)) ∧
    ((sLog0.live (LaneId.A : LaneId)) ∧ (accA.lane = (LaneId.A : LaneId)) ∧ ((sLog0.lane (LaneId.A : LaneId)).log.rd = none) ∧ (sLog0.serves
    accA Reg.LOG_RD_CTRL 4 true (withBits (0xFFC#32 : Word) 1 1 1).toNat)) ∧
    ((sLog0.live (LaneId.A : LaneId)) ∧ (accA.lane = (LaneId.A : LaneId)) ∧ ((sLog0.lane (LaneId.A : LaneId)).log.rd = none) ∧ (sLog0.serves
    accA Reg.LOG_RD_CTRL 4 true (withBits (0#32 : Word) 1 1 1).toNat)) ∧
    ((sLogGo.live (LaneId.A : LaneId)) ∧ (sLogGo.works (LaneId.A : LaneId) recPage) ∧ ((sLogGo.lane (LaneId.A : LaneId)).log.rd = some (false,
    5)) ∧ ((sLogGo.lane (LaneId.A : LaneId)).logHeld ((sLogGo.lane (LaneId.A : LaneId)).get64 Reg.LOG_RD_SEQ_LO Reg.LOG_RD_SEQ_HI) = some ((lr
    3)))) ∧
    ((sLogNo.live (LaneId.A : LaneId)) ∧ (sLogNo.works (LaneId.A : LaneId) recPage) ∧ ((sLogNo.lane (LaneId.A : LaneId)).log.rd = some (false,
    5)) ∧ (5 < 256) ∧ ((sLogNo.lane (LaneId.A : LaneId)).logHeld ((sLogNo.lane (LaneId.A : LaneId)).get64 Reg.LOG_RD_SEQ_LO Reg.LOG_RD_SEQ_HI)
    = none)) ∧
    ((sLogCopy.live (LaneId.A : LaneId)) ∧ (sLogCopy.works (LaneId.A : LaneId) recPage) ∧ ((sLogCopy.lane (LaneId.A : LaneId)).log.rd = some
    (true, 5)) ∧ ((sLogCopy.lane (LaneId.A : LaneId)).get F.LOG_RD_CTRL.COUNT ≠ 0) ∧ (((sLogCopy.lane (LaneId.A : LaneId)).rd
    Reg.LOG_RD_DST_LO).toNat + (sLogCopy.lane (LaneId.A : LaneId)).get F.LOG_RD_DST_HI.ADDR * 2 ^ 32 = 0x1000000000 + 0x780000000) ∧ (svcArea ≤
    0x780000000) ∧ (0x780000000 + 64 * (sLogCopy.lane (LaneId.A : LaneId)).get F.LOG_RD_CTRL.COUNT ≤ svcArea + svcBytes)) ∧
    ((s0.live (LaneId.A : LaneId))) :=
  ⟨by decide +kernel,
   by decide +kernel,
   by decide +kernel,
   by decide +kernel,
   by decide +kernel,
   by decide +kernel,
   by decide +kernel,
   by decide +kernel,
   by decide +kernel,
   by decide +kernel⟩

theorem test_WorkSubmissionsComplete :
    (sSub0.calm accA.lane ∧ (sSub0.serves accA (Reg.WORK_SUB 7) 4 true (0#32 : Word).toNat) ∧ ((sSub0.lane accA.lane).workRefusal (itemOf
    (((sSub0.lane accA.lane).work.stagedOf (accA.seat.val)).set 7 (0#32 : Word).toNat) (accA.seat.val)) = none) ∧ ((itemOf (((sSub0.lane
    accA.lane).work.stagedOf (accA.seat.val)).set 7 (0#32 : Word).toNat) (accA.seat.val)).mirror = false) ∧ ((itemOf (((sSub0.lane
    accA.lane).work.stagedOf (accA.seat.val)).set 7 (0#32 : Word).toNat) (accA.seat.val)).delayed = false)) ∧
    (sSubDel.calm accA.lane ∧ (sSubDel.serves accA (Reg.WORK_SUB 7) 4 true (0#32 : Word).toNat) ∧ ((sSubDel.lane accA.lane).workRefusal (itemOf
    (((sSubDel.lane accA.lane).work.stagedOf (accA.seat.val)).set 7 (0#32 : Word).toNat) (accA.seat.val)) = none) ∧ ((itemOf (((sSubDel.lane
    accA.lane).work.stagedOf (accA.seat.val)).set 7 (0#32 : Word).toNat) (accA.seat.val)).mirror = false) ∧ ((itemOf (((sSubDel.lane
    accA.lane).work.stagedOf (accA.seat.val)).set 7 (0#32 : Word).toNat) (accA.seat.val)).delayed = true)) ∧
    (sSubMir.calm accA.lane ∧ (sSubMir.serves accA (Reg.WORK_SUB 7) 4 true (0#32 : Word).toNat) ∧ ((sSubMir.lane accA.lane).workRefusal (itemOf
    (((sSubMir.lane accA.lane).work.stagedOf (accA.seat.val)).set 7 (0#32 : Word).toNat) (accA.seat.val)) = none) ∧ ((itemOf (((sSubMir.lane
    accA.lane).work.stagedOf (accA.seat.val)).set 7 (0#32 : Word).toNat) (accA.seat.val)).mirror = true) ∧ ((sSubMir.lane accA.lane).runs = true)) ∧
    (sSubBad.calm accA.lane ∧ (sSubBad.serves accA (Reg.WORK_SUB 7) 4 true (0#32 : Word).toNat) ∧ ((sSubBad.lane accA.lane).workRefusal (itemOf
    (((sSubBad.lane accA.lane).work.stagedOf (accA.seat.val)).set 7 (0#32 : Word).toNat) (accA.seat.val)) = some 3)) ∧
    (sCancel.calm accA.lane ∧ (sCancel.serves accA Reg.WORK_CANCEL_HI 4 true (0#32 : Word).toNat) ∧ ((∀ c ∈ (sCancel.lane
    accA.lane).work.cores, c.item.id ≠ (((sCancel.lane accA.lane).rd Reg.WORK_CANCEL_LO).toNat + (0#32 : Word).toNat * 2 ^ 32))) ∧ ((∀ e ∈
    (sCancel.lane accA.lane).pair.entries, e.kind ≠ 0x06)) ∧ ((sCancel.lane accA.lane).work.queue = [((it1 0 0x800 9 0))]) ∧ ((sCancel.lane
    accA.lane).work.delay = []) ∧ (((it1 0 0x800 9 0)).id = (((sCancel.lane accA.lane).rd Reg.WORK_CANCEL_LO).toNat + (0#32 : Word).toNat * 2 ^
    32)) ∧ (((it1 0 0x800 9 0)).mirror = false) ∧ (((it1 0 0x800 9 0)).noReply = true)) ∧
    (sCancel.calm accA.lane ∧ (sCancel.serves accA Reg.WORK_CANCEL_HI 4 true (1#32 : Word).toNat) ∧ ((∀ c ∈ (sCancel.lane
    accA.lane).work.cores, c.item.id ≠ (((sCancel.lane accA.lane).rd Reg.WORK_CANCEL_LO).toNat + (1#32 : Word).toNat * 2 ^ 32))) ∧ ((∀ e ∈
    (sCancel.lane accA.lane).pair.entries, e.kind ≠ 0x06)) ∧ ((∀ x ∈ (sCancel.lane accA.lane).work.queue ++ (sCancel.lane
    accA.lane).work.delay, x.id ≠ (((sCancel.lane accA.lane).rd Reg.WORK_CANCEL_LO).toNat + (1#32 : Word).toNat * 2 ^ 32)))) :=
  ⟨by decide +kernel,
   by decide +kernel,
   by decide +kernel,
   by decide +kernel,
   by decide +kernel,
   by decide +kernel⟩

theorem test_ServiceCoresComplete :
    ((sDisp.works (LaneId.A : LaneId) workPage) ∧ ((sDisp.lane (LaneId.A : LaneId)).freeCore = some 0) ∧ ((sDisp.lane (LaneId.A :
    LaneId)).work.best = some (.inr ((it1 0 0x800 9 0)))) ∧ ((sDisp.lane (LaneId.A : LaneId)).itemBad ((it1 0 0x800 9 0)) = none) ∧
    ((sDisp.lane (LaneId.A : LaneId)).itemReqs ((it1 0 0x800 9 0)) (sDisp.lane (LaneId.A : LaneId)).work.tags = [])) ∧
    ((sIdleW.works (LaneId.A : LaneId) workPage) ∧ ((sIdleW.lane (LaneId.A : LaneId)).freeCore = none ∨ (sIdleW.lane (LaneId.A :
    LaneId)).work.best = none)) ∧
    ((sCore3.works (LaneId.A : LaneId) workPage) ∧ ((sCore3.lane (LaneId.A : LaneId)).work.cores.find? (fun x => x.core == 3) = some core3) ∧
    (core3.bad = none) ∧ (core3.tags.all (fun x => (sCore3.lane (LaneId.A : LaneId)).ring.acycIn.any (fun a => a.tag == x)) = true) ∧
    (core3.item.mirror = false) ∧ (core3.item.noReply = true) ∧ ((sCore3.lane (LaneId.A : LaneId)).pair.accepted = [])) ∧
    ((sCore4.works (LaneId.A : LaneId) workPage) ∧ ((sCore4.lane (LaneId.A : LaneId)).work.cores.find? (fun x => x.core == 4) = some core4) ∧
    (core4.bad = none) ∧ (core4.tags = []) ∧ (core4.item.mirror = true) ∧ (core4.item.func = 0) ∧ (sCore4.prime (LaneId.A : LaneId) = true) ∧
    ((sCore4.lane (LaneId.A : LaneId)).runs = true)) ∧
    ((sDelay.works (LaneId.A : LaneId) workPage) ∧ ((sDelay.lane (LaneId.A : LaneId)).work.tickAt < (sDelay.lane (LaneId.A : LaneId)).t64 /
    10000)) ∧
    ((sAcyc.works (LaneId.A : LaneId) workPage) ∧ ((sAcyc.lane (LaneId.A : LaneId)).work.cores.find? (fun x => x.core == 5) = some core5) ∧
    (core5.bad = none) ∧ (core5.tags ≠ []) ∧ (sAcyc.now = core5.since + 40000000) ∧ (core5.item.func ≠ 3) ∧ (core5.item.mirror = false) ∧
    (core5.item.noReply = true) ∧ ((sAcyc.lane (LaneId.A : LaneId)).pair.accepted = [])) ∧
    ((sWTrc.works (LaneId.A : LaneId) workPage) ∧ ((sWTrc.lane (LaneId.A : LaneId)).work.trc.drop ≠ 0) ∧ ((sWTrc.lane (LaneId.A :
    LaneId)).work.trc.q.length < 4096)) :=
  ⟨by decide +kernel,
   by decide +kernel,
   by decide +kernel,
   by decide +kernel,
   by decide +kernel,
   by decide +kernel,
   by decide +kernel⟩

theorem test_ServiceBoostCompletes :
    ((sBoostW.works (LaneId.A : LaneId) workPage) ∧ (((sBoostW.lane (LaneId.A : LaneId)).work.queue.filterMap Item.ready).min? = some 600) ∧
    (sBoostW.now = 600 + (sBoostW.lane (LaneId.A : LaneId)).get F.WORK_BOOST.WAIT_US * 400) ∧ ((sBoostW.lane (LaneId.A : LaneId)).granted 6 0 =
    false) ∧ ((sBoostW.lane (LaneId.A : LaneId)).asking 6 0 = false)) ∧
    ((sBoostA.works (LaneId.A : LaneId) workPage) ∧ (sBoostA.pending = []) ∧ (sBoostA.base.primacy.isSome = true) ∧ (sBoostA.now % 2 = 1) ∧
    ((sBoostA.lane (LaneId.A : LaneId)).ledger.asked = [rqB]) ∧ (rqB.cls = 6) ∧ (rqB.who = 0) ∧ ((sBoostA.lane (LaneId.A : LaneId)).ledger.news
    = []) ∧ (rqB.quanta ≤ (sBoostA.lane (LaneId.A : LaneId)).pool) ∧ ((sBoostA.lane (LaneId.A : LaneId)).fits rqB = true)) ∧
    ((sBoostI.works (LaneId.A : LaneId) workPage) ∧ ((sBoostI.lane (LaneId.A : LaneId)).granted 6 0 = true) ∧ ((∀ c ∈ (sBoostI.lane (LaneId.A :
    LaneId)).work.cores, c.core < 8)) ∧ ((sBoostI.lane (LaneId.A : LaneId)).ledger.waiting = []) ∧ (sBoostI.now = (sBoostI.lane (LaneId.A :
    LaneId)).work.idle + (sBoostI.lane (LaneId.A : LaneId)).get F.WORK_BOOST.IDLE_MS * 400000)) :=
  ⟨by decide +kernel,
   by decide +kernel,
   by decide +kernel⟩

theorem test_FifoCommandsComplete :
    ((255 < 256) ∧ sFifo0.calm accA.lane ∧ (sFifo0.serves accA (Reg.FIFO_WR 255) 4 true (7#32 : Word).toNat) ∧ ((sFifo0.lane accA.lane).flag
    (F.FIFO_CFG.EN 255) = true) ∧ (((sFifo0.lane accA.lane).fifo 255).held.length + 4 < 12)) ∧
    ((255 < 256) ∧ sFifo8.calm accA.lane ∧ (sFifo8.serves accA (Reg.FIFO_WR 255) 4 true (7#32 : Word).toNat) ∧ ((sFifo8.lane accA.lane).flag
    (F.FIFO_CFG.EN 255) = true) ∧ (12 ≤ ((sFifo8.lane accA.lane).fifo 255).held.length + 4) ∧ (((sFifo8.lane accA.lane).fifo 255).dropping =
    false) ∧ (((sFifo8.lane accA.lane).fifo 255).words.length < (sFifo8.lane accA.lane).fifoDepth 255)) ∧
    ((255 < 256) ∧ sFifoFull.calm accA.lane ∧ (sFifoFull.serves accA (Reg.FIFO_WR 255) 4 true (7#32 : Word).toNat) ∧ ((sFifoFull.lane
    accA.lane).flag (F.FIFO_CFG.EN 255) = true) ∧ (12 ≤ ((sFifoFull.lane accA.lane).fifo 255).held.length + 4) ∧ (((sFifoFull.lane
    accA.lane).fifo 255).dropping = false) ∧ ((sFifoFull.lane accA.lane).fifoDepth 255 ≤ ((sFifoFull.lane accA.lane).fifo 255).words.length)) ∧
    ((255 < 256) ∧ sFifoOff.calm accA.lane ∧ (sFifoOff.serves accA (Reg.FIFO_WR 255) 4 true (7#32 : Word).toNat) ∧ ((sFifoOff.lane
    accA.lane).flag (F.FIFO_CFG.EN 255) = false)) ∧
    ((255 < 256) ∧ sFifo0.calm accA.lane ∧ (sFifo0.serves accA (Reg.FIFO_WR_END 255) 4 true (7#32 : Word).toNat) ∧ ((sFifo0.lane
    accA.lane).flag (F.FIFO_CFG.EN 255) = true) ∧ (((sFifo0.lane accA.lane).fifo 255).dropping = false) ∧ (((sFifo0.lane accA.lane).fifo
    255).words.length < (sFifo0.lane accA.lane).fifoDepth 255)) ∧
    ((255 < 256) ∧ sFifoFlush.calm accA.lane ∧ (sFifoFlush.works accA.lane (fifoPage 255)) ∧ (((sFifoFlush.lane accA.lane).fifo 255).held ≠ [])
    ∧ ((sFifoFlush.lane accA.lane).get (F.FIFO_CFG.FLUSH_US 255) ≠ 0) ∧ (((sFifoFlush.lane accA.lane).fifo 255).dropping = false) ∧
    (((sFifoFlush.lane accA.lane).fifo 255).words.length < (sFifoFlush.lane accA.lane).fifoDepth 255) ∧ (sFifoFlush.now = ((sFifoFlush.lane
    accA.lane).fifo 255).last + (sFifoFlush.lane accA.lane).get (F.FIFO_CFG.FLUSH_US 255) * 400)) ∧
    ((255 < 256) ∧ sFifoFull.calm accA.lane ∧ (sFifoFull.serves accA (Reg.FIFO_RD_0 255) 4 false 0) ∧ (((sFifoFull.lane accA.lane).fifo
    255).words = ((⟨1, 2, 3, 4⟩ : RdWord)) :: (([] : List RdWord))) ∧ (((sFifoFull.lane accA.lane).fifo 255).drops.2.1 = 0)) ∧
    ((255 < 256) ∧ sFifo0.calm accA.lane ∧ (sFifo0.serves accA (Reg.FIFO_RD_0 255) 4 false 0) ∧ (((sFifo0.lane accA.lane).fifo 255).words = [])) :=
  ⟨by decide +kernel,
   by decide +kernel,
   by decide +kernel,
   by decide +kernel,
   by decide +kernel,
   by decide +kernel,
   by decide +kernel,
   by decide +kernel⟩

theorem test_InterruptEventsComplete :
    ((sIrqUp.works (LaneId.A : LaneId) irqPage) ∧ (1023 < 1024) ∧ (1023 ∈ (sIrqUp.lane (LaneId.A : LaneId)).levels) ∧ (1023 ∉ (sIrqUp.lane
    (LaneId.A : LaneId)).irq.level) ∧ ((sIrqUp.lane (LaneId.A : LaneId)).irqPend 1023 = false) ∧ ((sIrqUp.lane (LaneId.A : LaneId)).irqMasked
    1023 = false) ∧ ((sIrqUp.lane (LaneId.A : LaneId)).awake ((sIrqUp.lane (LaneId.A : LaneId)).get (F.IRQ_ROUTE.TARGET 1023)) = true) ∧
    ((sIrqUp.lane (LaneId.A : LaneId)).get (F.IRQ_ROUTE.TARGET 1023) ≠ 0x1F)) ∧
    ((sIrqSleep.works (LaneId.A : LaneId) irqPage) ∧ (1023 < 1024) ∧ (1023 ∈ (sIrqSleep.lane (LaneId.A : LaneId)).levels) ∧ (1023 ∉
    (sIrqSleep.lane (LaneId.A : LaneId)).irq.level) ∧ ((sIrqSleep.lane (LaneId.A : LaneId)).irqPend 1023 = false) ∧ ((sIrqSleep.lane (LaneId.A
    : LaneId)).irqMasked 1023 = false) ∧ ((sIrqSleep.lane (LaneId.A : LaneId)).awake ((sIrqSleep.lane (LaneId.A : LaneId)).get
    (F.IRQ_ROUTE.TARGET 1023)) = false) ∧ ((sIrqSleep.lane (LaneId.A : LaneId)).get (F.IRQ_ROUTE.TARGET 1023) ≠ 0x1F)) ∧
    ((sIrqLost.works (LaneId.A : LaneId) irqPage) ∧ (1023 < 1024) ∧ (1023 ∈ (sIrqLost.lane (LaneId.A : LaneId)).levels) ∧ (1023 ∉
    (sIrqLost.lane (LaneId.A : LaneId)).irq.level) ∧ ((sIrqLost.lane (LaneId.A : LaneId)).irqPend 1023 = true)) ∧
    ((sIrqWake.works (LaneId.A : LaneId) irqPage) ∧ (3 < 0x10)) ∧
    ((sIrqWake.works (LaneId.A : LaneId) irqPage) ∧ (0xF < 0x10)) ∧
    ((sIrqNone.works (LaneId.A : LaneId) irqPage) ∧ ((sIrqNone.lane (LaneId.A : LaneId)).irq.waits = [((⟨1023, 3, 1000, false⟩ : Wait))]) ∧
    (((⟨1023, 3, 1000, false⟩ : Wait)).target = 3) ∧ (((⟨1023, 3, 1000, false⟩ : Wait)).fallback = false) ∧ (sIrqNone.now = ((⟨1023, 3, 1000,
    false⟩ : Wait)).since + 20000) ∧ ((sIrqNone.lane (LaneId.A : LaneId)).awake 3 = false) ∧ ((sIrqNone.lane (LaneId.A : LaneId)).get
    (F.IRQ_ROUTE.FALLBACK ((⟨1023, 3, 1000, false⟩ : Wait)).source) = 0x1F)) ∧
    ((sIrqFall.works (LaneId.A : LaneId) irqPage) ∧ ((sIrqFall.lane (LaneId.A : LaneId)).irq.waits = [((⟨1023, 3, 1000, false⟩ : Wait))]) ∧
    (((⟨1023, 3, 1000, false⟩ : Wait)).target = 3) ∧ (((⟨1023, 3, 1000, false⟩ : Wait)).fallback = false) ∧ (sIrqFall.now = ((⟨1023, 3, 1000,
    false⟩ : Wait)).since + 20000) ∧ ((sIrqFall.lane (LaneId.A : LaneId)).awake 3 = false) ∧ ((sIrqFall.lane (LaneId.A : LaneId)).get
    (F.IRQ_ROUTE.FALLBACK ((⟨1023, 3, 1000, false⟩ : Wait)).source) ≠ 0x1F) ∧ ((sIrqFall.lane (LaneId.A : LaneId)).awake ((sIrqFall.lane
    (LaneId.A : LaneId)).get (F.IRQ_ROUTE.FALLBACK ((⟨1023, 3, 1000, false⟩ : Wait)).source)) = true)) :=
  ⟨by decide +kernel,
   by decide +kernel,
   by decide +kernel,
   by decide +kernel,
   by decide +kernel,
   by decide +kernel,
   by decide +kernel⟩

theorem test_InterruptWritesComplete :
    (sIrqW.calm accA.lane ∧ (31 < 32) ∧ (sIrqW.serves accA (Reg.IRQ_SET 31) 4 true (0x80000001#32 : Word).toNat)) ∧
    (sIrqW.calm accA.lane ∧ (5 < 32) ∧ ((sIrqW.lane accA.lane).levels = []) ∧ (sIrqW.serves accA (Reg.IRQ_PEND 5) 4 true (0xF#32 : Word).toNat)) ∧
    (sIrqW.calm accA.lane ∧ (5 < 32) ∧ (sIrqW.serves accA (Reg.IRQ_MASK 5) 4 true (0xF0#32 : Word).toNat)) ∧
    (sIrqW.calm accA.lane ∧ (0 < 32) ∧ (sIrqW.serves accA (Reg.IRQ_MASK 0) 4 true (0#32 : Word).toNat)) ∧
    (sRouteUp.calm accA.lane ∧ (1023 < 1024) ∧ (sRouteUp.serves accA (Reg.IRQ_ROUTE 1023) 4 true (0x1F1710#32 : Word).toNat) ∧ (codeRefused
    (bits (0x1F1710#32 : Word) 12 8) = false) ∧ (codeRefused (bits (0x1F1710#32 : Word) 20 16) = false) ∧ (0x10 ≤ (sRouteUp.lane accA.lane).get
    (F.IRQ_ROUTE.TARGET 1023))) ∧
    (sRouteUp.calm accA.lane ∧ (1023 < 1024) ∧ (sRouteUp.serves accA (Reg.IRQ_ROUTE 1023) 4 true (0x0F1710#32 : Word).toNat) ∧ (codeRefused
    (bits (0x0F1710#32 : Word) 12 8) = true ∨ codeRefused (bits (0x0F1710#32 : Word) 20 16) = true ∨ (sRouteUp.lane accA.lane).get
    (F.IRQ_ROUTE.TARGET 1023) < 0x10)) ∧
    (sRouteUp.calm accA.lane ∧ (1023 < 1024) ∧ (sRouteUp.serves accA (Reg.IRQ_ROUTE 1023) 4 true (0x1F1810#32 : Word).toNat) ∧ (codeRefused
    (bits (0x1F1810#32 : Word) 12 8) = true ∨ codeRefused (bits (0x1F1810#32 : Word) 20 16) = true ∨ (sRouteUp.lane accA.lane).get
    (F.IRQ_ROUTE.TARGET 1023) < 0x10)) ∧
    (sRouteCore.calm accA.lane ∧ (1023 < 1024) ∧ (sRouteCore.serves accA (Reg.IRQ_ROUTE 1023) 4 true (0x1F1710#32 : Word).toNat) ∧ (codeRefused
    (bits (0x1F1710#32 : Word) 12 8) = true ∨ codeRefused (bits (0x1F1710#32 : Word) 20 16) = true ∨ (sRouteCore.lane accA.lane).get
    (F.IRQ_ROUTE.TARGET 1023) < 0x10)) :=
  ⟨by decide +kernel,
   by decide +kernel,
   by decide +kernel,
   by decide +kernel,
   by decide +kernel,
   by decide +kernel,
   by decide +kernel,
   by decide +kernel⟩

theorem test_DmaWritesComplete :
    ((63 < 64) ∧ sDmaIdle.calm accA.lane ∧ ((fun k w => ∀ j, j < 4 → j ≠ k → bits w j j = if j = 1 then (sDmaIdle.lane accA.lane).get
    (F.DMA_CH_CTRL.PAUSE 63) else 0) 0 (0#32 : Word)) ∧ (sDmaIdle.serves accA (Reg.DMA_CH_CTRL 63) 4 true (withBits (0#32 : Word) 0 0 1).toNat)
    ∧ ((sDmaIdle.lane accA.lane).dmaSt 63 = 0) ∧ (descBad ((sDmaIdle.lane accA.lane).shadow 63) = false) ∧ (dSspace ((sDmaIdle.lane
    accA.lane).shadow 63) ≠ 0) ∧ (dDspace ((sDmaIdle.lane accA.lane).shadow 63) ≠ 0) ∧ ((sDmaIdle.lane accA.lane).flag (F.DMA_CH_CTRL.PAUSE 63)
    = false)) ∧
    ((63 < 64) ∧ sDmaBad.calm accA.lane ∧ ((fun k w => ∀ j, j < 4 → j ≠ k → bits w j j = if j = 1 then (sDmaBad.lane accA.lane).get
    (F.DMA_CH_CTRL.PAUSE 63) else 0) 0 (0#32 : Word)) ∧ (sDmaBad.serves accA (Reg.DMA_CH_CTRL 63) 4 true (withBits (0#32 : Word) 0 0 1).toNat)
    ∧ ((sDmaBad.lane accA.lane).dmaSt 63 = 0) ∧ (descBad ((sDmaBad.lane accA.lane).shadow 63) = true)) ∧
    ((63 < 64) ∧ sDmaRun.calm accA.lane ∧ ((fun k w => ∀ j, j < 4 → j ≠ k → bits w j j = if j = 1 then (sDmaRun.lane accA.lane).get
    (F.DMA_CH_CTRL.PAUSE 63) else 0) 0 (0#32 : Word)) ∧ (sDmaRun.serves accA (Reg.DMA_CH_CTRL 63) 4 true (withBits (0#32 : Word) 0 0 1).toNat)
    ∧ ((sDmaRun.lane accA.lane).dmaSt 63 ≠ 0) ∧ (((sDmaRun.lane accA.lane).dmaC 63).pend = none)) ∧
    ((63 < 64) ∧ sDmaPend.calm accA.lane ∧ ((fun k w => ∀ j, j < 4 → j ≠ k → bits w j j = if j = 1 then (sDmaPend.lane accA.lane).get
    (F.DMA_CH_CTRL.PAUSE 63) else 0) 0 (0#32 : Word)) ∧ (sDmaPend.serves accA (Reg.DMA_CH_CTRL 63) 4 true (withBits (0#32 : Word) 0 0 1).toNat)
    ∧ ((sDmaPend.lane accA.lane).dmaSt 63 ≠ 0) ∧ (((sDmaPend.lane accA.lane).dmaC 63).pend.isSome = true)) ∧
    ((63 < 64) ∧ sDmaRun.calm accA.lane ∧ ((fun k w => ∀ j, j < 4 → j ≠ k → bits w j j = if j = 1 then (sDmaRun.lane accA.lane).get
    (F.DMA_CH_CTRL.PAUSE 63) else 0) 1 (2#32 : Word)) ∧ (sDmaRun.serves accA (Reg.DMA_CH_CTRL 63) 4 true (2#32 : Word).toNat) ∧ (bits (2#32 :
    Word) 1 1 = 1) ∧ ((sDmaRun.lane accA.lane).flag (F.DMA_CH_CTRL.PAUSE 63) = false) ∧ ((sDmaRun.lane accA.lane).dmaSt 63 = 1 ∨ (sDmaRun.lane
    accA.lane).dmaSt 63 = 2)) ∧
    ((63 < 64) ∧ sDmaStop.calm accA.lane ∧ ((fun k w => ∀ j, j < 4 → j ≠ k → bits w j j = if j = 1 then (sDmaStop.lane accA.lane).get
    (F.DMA_CH_CTRL.PAUSE 63) else 0) 1 (0#32 : Word)) ∧ (sDmaStop.serves accA (Reg.DMA_CH_CTRL 63) 4 true (0#32 : Word).toNat) ∧ (bits (0#32 :
    Word) 1 1 = 0) ∧ ((sDmaStop.lane accA.lane).flag (F.DMA_CH_CTRL.PAUSE 63) = true) ∧ ((sDmaStop.lane accA.lane).dmaSt 63 = 3 ∨
    (sDmaStop.lane accA.lane).dmaSt 63 = 4)) ∧
    ((63 < 64) ∧ sDmaHalt.calm accA.lane ∧ ((fun k w => ∀ j, j < 4 → j ≠ k → bits w j j = if j = 1 then (sDmaHalt.lane accA.lane).get
    (F.DMA_CH_CTRL.PAUSE 63) else 0) 2 (0#32 : Word)) ∧ (sDmaHalt.serves accA (Reg.DMA_CH_CTRL 63) 4 true (withBits (0#32 : Word) 2 2 1).toNat)
    ∧ ((sDmaHalt.lane accA.lane).dmaSt 63 = 5) ∧ ((sDmaHalt.lane accA.lane).get (F.DMA_CH_HALT.CAUSE 63) ≠ 4) ∧ ((sDmaHalt.lane accA.lane).get
    (F.DMA_CH_HALT.CAUSE 63) ≠ 5) ∧ ((sDmaHalt.lane accA.lane).get (F.DMA_CH_HALT.CAUSE 63) ≠ 6)) ∧
    ((63 < 64) ∧ sDmaPend.calm accA.lane ∧ ((fun k w => ∀ j, j < 4 → j ≠ k → bits w j j = if j = 1 then (sDmaPend.lane accA.lane).get
    (F.DMA_CH_CTRL.PAUSE 63) else 0) 3 (0#32 : Word)) ∧ (sDmaPend.serves accA (Reg.DMA_CH_CTRL 63) 4 true (withBits (0#32 : Word) 3 3 1).toNat)
    ∧ ((sDmaPend.lane accA.lane).dmaSt 63 ≠ 0)) :=
  ⟨by decide +kernel,
   by decide +kernel,
   by decide +kernel,
   by decide +kernel,
   by decide +kernel,
   by decide +kernel,
   by decide +kernel,
   by decide +kernel⟩

theorem test_DmaCourseCompletes :
    ((63 < 64) ∧ (sDmaMem.works (LaneId.A : LaneId) (dmaPage 63)) ∧ ((sDmaMem.lane (LaneId.A : LaneId)).dmaSt 63 = 1) ∧ (((sDmaMem.lane
    (LaneId.A : LaneId)).dmaC 63).next = none) ∧ (((sDmaMem.lane (LaneId.A : LaneId)).dmaC 63).pend = none) ∧ (((sDmaMem.lane (LaneId.A :
    LaneId)).dmaC 63).moved = 0) ∧ (dSspace ((sDmaMem.lane (LaneId.A : LaneId)).dmaC 63).act = 0) ∧ (dDspace ((sDmaMem.lane (LaneId.A :
    LaneId)).dmaC 63).act = 0) ∧ (dSinc ((sDmaMem.lane (LaneId.A : LaneId)).dmaC 63).act = true) ∧ (dDinc ((sDmaMem.lane (LaneId.A :
    LaneId)).dmaC 63).act = true) ∧ (dLast ((sDmaMem.lane (LaneId.A : LaneId)).dmaC 63).act = true) ∧ (dWb ((sDmaMem.lane (LaneId.A :
    LaneId)).dmaC 63).act = false) ∧ (0 < dLen ((sDmaMem.lane (LaneId.A : LaneId)).dmaC 63).act) ∧ (dLen ((sDmaMem.lane (LaneId.A :
    LaneId)).dmaC 63).act % dBeat ((sDmaMem.lane (LaneId.A : LaneId)).dmaC 63).act = 0) ∧ (dSrc ((sDmaMem.lane (LaneId.A : LaneId)).dmaC
    63).act = 0x1000000000 + 0x100) ∧ (dDst ((sDmaMem.lane (LaneId.A : LaneId)).dmaC 63).act = 0x1000000000 + 0x5000)) ∧
    ((63 < 64) ∧ (sDmaNext.works (LaneId.A : LaneId) (dmaPage 63)) ∧ ((sDmaNext.lane (LaneId.A : LaneId)).dmaSt 63 = 1) ∧ (((sDmaNext.lane
    (LaneId.A : LaneId)).dmaC 63).next = some (0, 0x1000000000 + 0x200)) ∧ (inDram (0x1000000000 + 0x200) 32 = true) ∧ (descBad ((List.range
    8).map (fun k => bytesAt (sDmaNext.lane (LaneId.A : LaneId)).dram (0x200 + 4 * k) 4)) = false) ∧ (dSspace ((List.range 8).map (fun k =>
    bytesAt (sDmaNext.lane (LaneId.A : LaneId)).dram (0x200 + 4 * k) 4)) ≠ 0) ∧ (dDspace ((List.range 8).map (fun k => bytesAt (sDmaNext.lane
    (LaneId.A : LaneId)).dram (0x200 + 4 * k) 4)) ≠ 0) ∧ ((sDmaNext.lane (LaneId.A : LaneId)).flag (F.DMA_CH_CTRL.PAUSE 63) = false)) ∧
    ((63 < 64) ∧ (sDmaHost.works (LaneId.A : LaneId) (dmaPage 63)) ∧ ((sDmaHost.lane (LaneId.A : LaneId)).dmaSt 63 = 1) ∧ (((sDmaHost.lane
    (LaneId.A : LaneId)).dmaC 63).next = some (1, 0x9000)) ∧ (descBad ((List.range 8).map (fun k => leVal ((padTo 32 (([] : List Nat))).drop (4
    * k) |>.take 4))) = true)) ∧
    ((63 < 64) ∧ (sDmaPausing.works (LaneId.A : LaneId) (dmaPage 63)) ∧ ((sDmaPausing.lane (LaneId.A : LaneId)).dmaSt 63 = 3)) ∧
    ((63 < 64) ∧ (sDmaRun.works (LaneId.A : LaneId) (dmaPage 63)) ∧ ((sDmaRun.lane (LaneId.A : LaneId)).dmaSt 63 = 1) ∧ ((sDmaRun.lane
    (LaneId.A : LaneId)).dmaSide 63 1 false = true)) ∧
    ((63 < 64) ∧ (sDmaHost.works (LaneId.A : LaneId) (dmaPage 63)) ∧ ((sDmaHost.lane (LaneId.A : LaneId)).dmaSt 63 = 1) ∧ ((sDmaHost.lane
    (LaneId.A : LaneId)).dmaSide 63 2 true = true)) ∧
    ((63 < 64) ∧ (sDmaFifo.works (LaneId.A : LaneId) (dmaPage 63)) ∧ ((sDmaFifo.lane (LaneId.A : LaneId)).dmaSt 63 = 2) ∧ (((sDmaFifo.lane
    (LaneId.A : LaneId)).fifo (dSrc ((sDmaFifo.lane (LaneId.A : LaneId)).dmaC 63).act % 256)).words = ((⟨1, 2, 3, 4⟩ : RdWord)) :: (([] : List
    RdWord))) ∧ (((sDmaFifo.lane (LaneId.A : LaneId)).fifo (dSrc ((sDmaFifo.lane (LaneId.A : LaneId)).dmaC 63).act % 256)).drops.2.1 = 0) ∧
    (dDspace ((sDmaFifo.lane (LaneId.A : LaneId)).dmaC 63).act = 1)) :=
  ⟨by decide +kernel,
   by decide +kernel,
   by decide +kernel,
   by decide +kernel,
   by decide +kernel,
   by decide +kernel,
   by decide +kernel⟩

theorem test_PcieCommandsComplete :
    ((sPcieDown.live (LaneId.A : LaneId)) ∧ (15 < 16) ∧ (7 < 8) ∧ ((sPcieDown.lane (LaneId.A : LaneId)).stage = 3) ∧ ((sPcieDown.lane (LaneId.A
    : LaneId)).flag F.HOST_PCIE_STAT.LINK = false) ∧ ((sPcieDown.lane (LaneId.A : LaneId)).flag F.HOST_PCIE_STAT.BOUND = false)) ∧
    ((sPcieUp.live (LaneId.A : LaneId)) ∧ (0 < 4) ∧ ((sPcieUp.lane (LaneId.A : LaneId)).flag F.HOST_PCIE_STAT.BOUND = true) ∧ ((∀ n, n < 64 →
    (sPcieUp.lane (LaneId.A : LaneId)).dmaSt n = 0)) ∧ ((sPcieUp.lane (LaneId.A : LaneId)).tokensOf ((sPcieUp.lane (LaneId.A : LaneId)).get
    F.HOST_PCIE_CFG.SEAT) = []) ∧ ((sPcieUp.lane (LaneId.A : LaneId)).pair.accepted = [])) ∧
    ((sPcieUp.live (LaneId.A : LaneId)) ∧ (3 < 4) ∧ ((sPcieUp.lane (LaneId.A : LaneId)).flag F.HOST_PCIE_STAT.BOUND = true) ∧ ((∀ n, n < 64 →
    (sPcieUp.lane (LaneId.A : LaneId)).dmaSt n = 0)) ∧ ((sPcieUp.lane (LaneId.A : LaneId)).tokensOf ((sPcieUp.lane (LaneId.A : LaneId)).get
    F.HOST_PCIE_CFG.SEAT) = []) ∧ ((sPcieUp.lane (LaneId.A : LaneId)).pair.accepted = [])) ∧
    ((sPcieTok.live (LaneId.A : LaneId)) ∧ (2 < 4) ∧ ((sPcieTok.lane (LaneId.A : LaneId)).flag F.HOST_PCIE_STAT.BOUND = true) ∧ ((∀ n, n < 64 →
    (sPcieTok.lane (LaneId.A : LaneId)).dmaSt n = 0)) ∧ ((sPcieTok.lane (LaneId.A : LaneId)).tokensOf ((sPcieTok.lane (LaneId.A : LaneId)).get
    F.HOST_PCIE_CFG.SEAT) = [0x88]) ∧ ((sPcieTok.lane (LaneId.A : LaneId)).runs = true)) ∧
    ((sPcieUp.live (LaneId.A : LaneId)) ∧ ((sPcieUp.lane (LaneId.A : LaneId)).flag F.HOST_PCIE_STAT.LINK = true)) ∧
    ((sPcieUp.live (LaneId.A : LaneId)) ∧ ((sPcieUp.lane (LaneId.A : LaneId)).flag F.HOST_PCIE_STAT.LINK = true) ∧ ((sPcieUp.lane (LaneId.A :
    LaneId)).flag (F.SEAT_STAT.BOUND ((sPcieUp.lane (LaneId.A : LaneId)).get F.HOST_PCIE_CFG.SEAT)) = true)) :=
  ⟨by decide +kernel,
   by decide +kernel,
   by decide +kernel,
   by decide +kernel,
   by decide +kernel,
   by decide +kernel⟩

theorem test_HapCommandsComplete :
    (((sHap0.lane (LaneId.A : LaneId)).hapUp = true) ∧ ((bsRead : List Nat).length ≤ 1472) ∧ (Dgram.parse (bsRead : List Nat) = some ((spelt
    bsRead) : Dgram)) ∧ ((sHap0.lane (LaneId.A : LaneId)).sess ((spelt bsRead) : Dgram).seat = some ((⟨0, 3, hk, 2 ^ 32 + 1⟩ : Sess))) ∧ (((⟨0,
    3, hk, 2 ^ 32 + 1⟩ : Sess)).num = ((spelt bsRead) : Dgram).session) ∧ (((spelt bsRead) : Dgram).ty = 1) ∧ (((spelt bsRead) : Dgram).holds
    ((⟨0, 3, hk, 2 ^ 32 + 1⟩ : Sess)).key = true) ∧ (((spelt bsRead) : Dgram).flags % 2 = 0) ∧ (((sHap0.lane (LaneId.A : LaneId)).hapL ((spelt
    bsRead) : Dgram).seat).held.find? (fun r => r.1 == ((spelt bsRead) : Dgram).seq) = none) ∧ (((sHap0.lane (LaneId.A : LaneId)).hapL ((spelt
    bsRead) : Dgram).seat).waits.any (fun w => w.seq == ((spelt bsRead) : Dgram).seq) = false) ∧ (((sHap0.lane (LaneId.A : LaneId)).hapL
    ((spelt bsRead) : Dgram).seat).hi.getD 0 < ((spelt bsRead) : Dgram).seq + 32) ∧ (parseOps ((spelt bsRead) : Dgram).nops ((spelt bsRead) :
    Dgram).body = some [⟨1, 2, 1, 0x100040, []⟩]) ∧ (sHap0.serves ⟨(LaneId.A : LaneId), Fin.ofNat 8 ((spelt bsRead) : Dgram).seat, .hapNormal,
    ((spelt bsRead) : Dgram).seq⟩ 0x100040 4 false 0) ∧ (0x100040 < 0x1000000) ∧ ((blkOf (0x100040 / 0x1000)).map Blk.ty = some 0x10) ∧ (0x40 ≤
    0x100040 % 0x1000) ∧ (hiOf 0x100040 = none) ∧ (loOf 0x100040 = none) ∧ ((sHap0.lane (LaneId.A : LaneId)).acc.frozen = []) ∧ ((∀ e ∈
    (sHap0.lane (LaneId.A : LaneId)).pair.entries, e.origin = (LaneId.A : LaneId) → e.oseq < (sHap0.lane (LaneId.A : LaneId)).pair.oseq))) ∧
    (((sHapHeld.lane (LaneId.A : LaneId)).hapUp = true) ∧ ((bsRead : List Nat).length ≤ 1472) ∧ (Dgram.parse (bsRead : List Nat) = some ((spelt
    bsRead) : Dgram)) ∧ ((sHapHeld.lane (LaneId.A : LaneId)).sess ((spelt bsRead) : Dgram).seat = some ((⟨0, 3, hk, 2 ^ 32 + 1⟩ : Sess))) ∧
    (((⟨0, 3, hk, 2 ^ 32 + 1⟩ : Sess)).num = ((spelt bsRead) : Dgram).session) ∧ (((spelt bsRead) : Dgram).ty = 1) ∧ (((spelt bsRead) :
    Dgram).holds ((⟨0, 3, hk, 2 ^ 32 + 1⟩ : Sess)).key = true) ∧ (((sHapHeld.lane (LaneId.A : LaneId)).hapL ((spelt bsRead) :
    Dgram).seat).held.find? (fun y => y.1 == ((spelt bsRead) : Dgram).seq) = some (((5, [1, 2, 3]) : Nat × List Nat)))) ∧
    (((sHap0.lane (LaneId.A : LaneId)).hapUp = true) ∧ ((bsBad : List Nat).length ≤ 1472) ∧ (Dgram.parse (bsBad : List Nat) = some ((spelt
    bsBad) : Dgram)) ∧ ((sHap0.lane (LaneId.A : LaneId)).sess ((spelt bsBad) : Dgram).seat = some ((⟨0, 3, hk, 2 ^ 32 + 1⟩ : Sess))) ∧ (((⟨0,
    3, hk, 2 ^ 32 + 1⟩ : Sess)).num = ((spelt bsBad) : Dgram).session) ∧ (((spelt bsBad) : Dgram).ty = 1) ∧ (((spelt bsBad) : Dgram).holds
    ((⟨0, 3, hk, 2 ^ 32 + 1⟩ : Sess)).key = false)) ∧
    (((sHap0.lane (LaneId.A : LaneId)).hapUp = true) ∧ ((bsClose : List Nat).length ≤ 1472) ∧ (Dgram.parse (bsClose : List Nat) = some ((spelt
    bsClose) : Dgram)) ∧ ((sHap0.lane (LaneId.A : LaneId)).sess ((spelt bsClose) : Dgram).seat = some ((⟨0, 3, hk, 2 ^ 32 + 1⟩ : Sess))) ∧
    (((⟨0, 3, hk, 2 ^ 32 + 1⟩ : Sess)).num = ((spelt bsClose) : Dgram).session) ∧ ((0x12, ((Instr.hapClose LaneId.A 9 10 bsClose)),
    ((Payload.hapClose 0 3))) = (0x12, Instr.hapClose (LaneId.A : LaneId) 9 10 (bsClose : List Nat), Payload.hapClose ((spelt bsClose) :
    Dgram).seat ((⟨0, 3, hk, 2 ^ 32 + 1⟩ : Sess)).num) ∨ (0x12, ((Instr.hapClose LaneId.A 9 10 bsClose)), ((Payload.hapClose 0 3))) = (0x13,
    Instr.hapKeepalive (LaneId.A : LaneId) 9 10 (bsClose : List Nat), Payload.hapAlive ((spelt bsClose) : Dgram).seat ((⟨0, 3, hk, 2 ^ 32 + 1⟩
    : Sess)).num)) ∧ (((spelt bsClose) : Dgram).ty = 0x12) ∧ (((spelt bsClose) : Dgram).holds ((⟨0, 3, hk, 2 ^ 32 + 1⟩ : Sess)).key = true) ∧
    ((sHap0.lane (LaneId.A : LaneId)).runs = true)) ∧
    (((sHap0.lane (LaneId.A : LaneId)).hapUp = true) ∧ ((bsAlive : List Nat).length ≤ 1472) ∧ (Dgram.parse (bsAlive : List Nat) = some ((spelt
    bsAlive) : Dgram)) ∧ ((sHap0.lane (LaneId.A : LaneId)).sess ((spelt bsAlive) : Dgram).seat = some ((⟨0, 3, hk, 2 ^ 32 + 1⟩ : Sess))) ∧
    (((⟨0, 3, hk, 2 ^ 32 + 1⟩ : Sess)).num = ((spelt bsAlive) : Dgram).session) ∧ ((0x13, ((Instr.hapKeepalive LaneId.A 9 10 bsAlive)),
    ((Payload.hapAlive 0 3))) = (0x12, Instr.hapClose (LaneId.A : LaneId) 9 10 (bsAlive : List Nat), Payload.hapClose ((spelt bsAlive) :
    Dgram).seat ((⟨0, 3, hk, 2 ^ 32 + 1⟩ : Sess)).num) ∨ (0x13, ((Instr.hapKeepalive LaneId.A 9 10 bsAlive)), ((Payload.hapAlive 0 3))) =
    (0x13, Instr.hapKeepalive (LaneId.A : LaneId) 9 10 (bsAlive : List Nat), Payload.hapAlive ((spelt bsAlive) : Dgram).seat ((⟨0, 3, hk, 2 ^
    32 + 1⟩ : Sess)).num)) ∧ (((spelt bsAlive) : Dgram).ty = 0x13) ∧ (((spelt bsAlive) : Dgram).holds ((⟨0, 3, hk, 2 ^ 32 + 1⟩ : Sess)).key =
    true) ∧ ((sHap0.lane (LaneId.A : LaneId)).runs = true)) ∧
    (((sHapNo.lane (LaneId.A : LaneId)).hapUp = true) ∧ ((bsRead : List Nat).length ≤ 1472) ∧ (Dgram.parse (bsRead : List Nat) = some ((spelt
    bsRead) : Dgram)) ∧ ((sHapNo.lane (LaneId.A : LaneId)).sess ((spelt bsRead) : Dgram).seat = none)) ∧
    (((sHap0.lane (LaneId.A : LaneId)).hapUp = true) ∧ ((bsRead : List Nat).length ≤ 1472) ∧ (Dgram.parse (bsRead : List Nat) = some ((spelt
    bsRead) : Dgram)) ∧ (((spelt bsRead) : Dgram).flags % 2 = 0)) ∧
    (((sHap0.lane (LaneId.A : LaneId)).hapUp = true) ∧ ((bsOpen : List Nat).length ≤ 1472) ∧ (Dgram.parse (bsOpen : List Nat) = some ((spelt
    bsOpen) : Dgram)) ∧ ((sHap0.lane (LaneId.A : LaneId)).seatKey ((spelt bsOpen) : Dgram).seat = some hk) ∧ (((spelt bsOpen) : Dgram).ty =
    0x10) ∧ (((spelt bsOpen) : Dgram).holds hk = true) ∧ (((spelt bsOpen) : Dgram).body.length = 16) ∧ ((sHap0.lane (LaneId.A : LaneId)).runs =
    true)) ∧
    (((sHapIdle.lane (LaneId.A : LaneId)).hapUp = true) ∧ ((bsRead : List Nat).length ≤ 1472) ∧ (Dgram.parse (bsRead : List Nat) = some ((spelt
    bsRead) : Dgram)) ∧ (7 < 8) ∧ ((∀ j ∈ [LaneId.A, LaneId.B], sHapIdle.live j ∧ ∃ x, (sHapIdle.lane j).sess 7 = some x ∧ (sHapIdle.lane
    j).get F.HOST_HAP_CFG.IDLE_S * 1000000000 ≤ ((sHapIdle.lane j).cycN - x.last) * (sHapIdle.lane j).period))) :=
  ⟨by decide +kernel,
   by decide +kernel,
   by decide +kernel,
   by decide +kernel,
   by decide +kernel,
   by decide +kernel,
   by decide +kernel,
   by decide +kernel,
   by decide +kernel⟩

theorem test_HostInputsComplete :
    ((s0.live (LaneId.A : LaneId)) ∧ (1 ≤ (s0.lane (LaneId.A : LaneId)).stage)) ∧
    ((s0.live (LaneId.A : LaneId)) ∧ (1 ≤ (s0.lane (LaneId.A : LaneId)).stage)) ∧
    ((sSec32.live (LaneId.A : LaneId)) ∧ (1 ≤ (sSec32.lane (LaneId.A : LaneId)).stage) ∧ (accA.lane = (LaneId.A : LaneId)) ∧ (bits (0#32 :
    Word) 1 1 = 0) ∧ (sSec32.serves accA Reg.HOST_SEC_CTRL 4 true (withBits (0#32 : Word) 0 0 1).toNat) ∧ (accA.seat.val = 0) ∧ ((sSec32.lane
    (LaneId.A : LaneId)).get F.HOST_SEC_STAT.FUSED < (sSec32.lane (LaneId.A : LaneId)).get F.HOST_SEC_STAT.RUNNING)) ∧
    ((sSec5.live (LaneId.A : LaneId)) ∧ (1 ≤ (sSec5.lane (LaneId.A : LaneId)).stage) ∧ ((acc5 : Acc).lane = (LaneId.A : LaneId)) ∧ (bits (0#32
    : Word) 1 1 = 0) ∧ (sSec5.serves (acc5 : Acc) Reg.HOST_SEC_CTRL 4 true (withBits (0#32 : Word) 0 0 1).toNat) ∧ ((acc5 : Acc).seat.val ≠ 0)) ∧
    ((sSec32.live (LaneId.A : LaneId)) ∧ (1 ≤ (sSec32.lane (LaneId.A : LaneId)).stage) ∧ (accA.lane = (LaneId.A : LaneId)) ∧ (bits (0#32 :
    Word) 0 0 = 0) ∧ (sSec32.serves accA Reg.HOST_SEC_CTRL 4 true (withBits (0#32 : Word) 1 1 1).toNat) ∧ ((sSec32.lane (LaneId.A :
    LaneId)).host.keyHash.isSome = true)) ∧
    ((sSec32.live (LaneId.A : LaneId)) ∧ (1 ≤ (sSec32.lane (LaneId.A : LaneId)).stage) ∧ (accA.lane = (LaneId.A : LaneId)) ∧ (bits (0#32 :
    Word) 0 0 = 0) ∧ (sSec32.serves accA Reg.HOST_SEC_CTRL 4 true (withBits (0#32 : Word) 1 1 1).toNat) ∧ ((sSec32.lane (LaneId.A :
    LaneId)).host.keyHash.isSome = true)) ∧
    ((sTrDup.live (LaneId.A : LaneId)) ∧ (1 ≤ (sTrDup.lane (LaneId.A : LaneId)).stage) ∧ ((sTrDup.lane (LaneId.A : LaneId)).flag (if true then
    F.HOST_TR_STAT.XHOP else F.HOST_TR_STAT.LINK) = true) ∧ ((5, 6, 900) ∈ (sTrDup.lane LaneId.A).host.dups ∧ sTrDup.now < 900 + dupAge)) ∧
    ((sTr0.live (LaneId.A : LaneId)) ∧ (1 ≤ (sTr0.lane (LaneId.A : LaneId)).stage) ∧ ((sTr0.lane (LaneId.A : LaneId)).flag (if false then
    F.HOST_TR_STAT.XHOP else F.HOST_TR_STAT.LINK) = true) ∧ ((∀ j ∈ [LaneId.A, LaneId.B], ∀ x ∈ (sTr0.lane j).host.dups, x.1 ≠ 5 ∨ x.2.1 ≠ 6))) ∧
    ((sTr0.live (LaneId.A : LaneId)) ∧ (1 ≤ (sTr0.lane (LaneId.A : LaneId)).stage) ∧ ((sTr0.lane (LaneId.A : LaneId)).flag (if true then
    F.HOST_TR_STAT.XHOP else F.HOST_TR_STAT.LINK) = true) ∧ ((∀ j ∈ [LaneId.A, LaneId.B], ∀ x ∈ (sTr0.lane j).host.dups, x.1 ≠ 5 ∨ x.2.1 ≠ 6))) ∧
    ((s0.live (LaneId.A : LaneId)) ∧ (1 ≤ (s0.lane (LaneId.A : LaneId)).stage) ∧ (s0.base.primacy = some (LaneId.A : LaneId))) ∧
    ((sTrOld.live (LaneId.A : LaneId)) ∧ (1 ≤ (sTrOld.lane (LaneId.A : LaneId)).stage) ∧ ((sTrOld.lane (LaneId.A : LaneId)).host.dups = [(5, 6,
    900)]) ∧ ((sTrOld.lane (LaneId.A : LaneId)).host.nodes = []) ∧ (sTrOld.now = 900 + dupAge)) ∧
    ((s0.live (LaneId.A : LaneId)) ∧ (1 ≤ (s0.lane (LaneId.A : LaneId)).stage) ∧ (1 < 2)) ∧
    ((s0.live (LaneId.A : LaneId)) ∧ (1 ≤ (s0.lane (LaneId.A : LaneId)).stage) ∧ (2 ≤ 2)) ∧
    ((s0.live (LaneId.A : LaneId)) ∧ (1 ≤ (s0.lane (LaneId.A : LaneId)).stage)) ∧
    ((s0.live (LaneId.A : LaneId)) ∧ (1 ≤ (s0.lane (LaneId.A : LaneId)).stage)) ∧
    ((sTr0.live (LaneId.A : LaneId)) ∧ (1 ≤ (sTr0.lane (LaneId.A : LaneId)).stage)) :=
  ⟨by decide +kernel,
   by decide +kernel,
   by decide +kernel,
   by decide +kernel,
   by decide +kernel,
   by decide +kernel,
   by decide +kernel,
   by decide +kernel,
   by decide +kernel,
   by decide +kernel,
   by decide +kernel,
   by decide +kernel,
   by decide +kernel,
   by decide +kernel,
   by decide +kernel,
   by decide +kernel⟩

theorem test_MemoryIntegrityCommandsComplete :
    ((sMem0.live (LaneId.A : LaneId)) ∧ (sMem0.works (LaneId.A : LaneId) memiPage) ∧ (1 ≤ (sMem0.lane (LaneId.A : LaneId)).stage) ∧
    ((sMem0.lane (LaneId.A : LaneId)).wrong (sMem0.lane (LaneId.A : LaneId)).memi.ptr = 0) ∧ ((sMem0.lane (LaneId.A : LaneId)).memi.ptr + 1 <
    dramWords)) ∧
    ((sMemV.live (LaneId.A : LaneId)) ∧ (sMemV.works (LaneId.A : LaneId) memiPage) ∧ (1 ≤ (sMemV.lane (LaneId.A : LaneId)).stage) ∧
    ((sMemV.lane (LaneId.A : LaneId)).memi.ptr + 1 < dramWords) ∧ ((sMemV.lane (LaneId.A : LaneId)).memi.bad = []) ∧ ((sMemV.lane (LaneId.A :
    LaneId)).memi.ptr ∉ (sMemV.lane (LaneId.A : LaneId)).memi.before) ∧ ((sMemV.lane (LaneId.A : LaneId)).flag F.MEMI_LAST.VALID = true) ∧ (0xF
    < 2 ^ 72) ∧ (0xF ≠ 0) ∧ (popcount 72 0xF ≤ 4)) ∧
    ((sMemV.live (LaneId.A : LaneId)) ∧ (sMemV.works (LaneId.A : LaneId) memiPage) ∧ (1 ≤ (sMemV.lane (LaneId.A : LaneId)).stage) ∧
    ((sMemV.lane (LaneId.A : LaneId)).memi.ptr + 1 < dramWords) ∧ ((sMemV.lane (LaneId.A : LaneId)).memi.bad = []) ∧ ((sMemV.lane (LaneId.A :
    LaneId)).memi.ptr ∉ (sMemV.lane (LaneId.A : LaneId)).memi.before) ∧ ((sMemV.lane (LaneId.A : LaneId)).flag F.MEMI_LAST.VALID = true) ∧ (((2
    ^ 71)) < 2 ^ 72) ∧ (((2 ^ 71)) ≠ 0) ∧ (popcount 72 ((2 ^ 71)) ≤ 4)) ∧
    ((s0.live (LaneId.A : LaneId)) ∧ (0 < dramWords) ∧ (regionOf 0 ≠ 0) ∧ ((s0.lane (LaneId.A : LaneId)).memi.bad = []) ∧ (0x1F < 2 ^ 72) ∧ (4
    < popcount 72 0x1F) ∧ (7 < 8)) ∧
    ((s0.live (LaneId.A : LaneId)) ∧ (((dramWords - 1)) < dramWords) ∧ (regionOf ((dramWords - 1)) ≠ 0) ∧ ((s0.lane (LaneId.A :
    LaneId)).memi.bad = []) ∧ (0x1F < 2 ^ 72) ∧ (4 < popcount 72 0x1F) ∧ (0 < 8)) ∧
    ((s0.live (LaneId.A : LaneId))) ∧
    ((s0.live (LaneId.A : LaneId)) ∧ (4 < 5)) :=
  ⟨by decide +kernel,
   by decide +kernel,
   by decide +kernel,
   by decide +kernel,
   by decide +kernel,
   by decide +kernel,
   by decide +kernel⟩

theorem test_ProgramCommandsTakeEffect :
    ((127 < 128 ∧ 1 ≤ 1 ∧ 1 ≤ 4 ∧ bits (word 1 &&& 7#32) 2 0 = 1 ∧ (cmdEnt 127 1).pay = .command [(Reg.LOGIC_PCTL (127 / 16) (127 % 16), word
    1, 7#32)]) ∧ ((prog5 127 0).progImg 127).isSome = true ∧ ((prog5 127 0).prog 127).st = 0) ∧
    ((5 < 128 ∧ 1 ≤ 1 ∧ 1 ≤ 4 ∧ bits (word 1 &&& 7#32) 2 0 = 1 ∧ (cmdEnt 5 1).pay = .command [(Reg.LOGIC_PCTL (5 / 16) (5 % 16), word 1,
    7#32)]) ∧ ((prog5 5 2).progImg 5).isSome = true ∧ ((prog5 5 2).prog 5).st = 2) ∧
    ((5 < 128 ∧ 1 ≤ 2 ∧ 2 ≤ 4 ∧ bits (word 2 &&& 7#32) 2 0 = 2 ∧ (cmdEnt 5 2).pay = .command [(Reg.LOGIC_PCTL (5 / 16) (5 % 16), word 2,
    7#32)]) ∧ ((prog5 5 1).progImg 5).isSome = true ∧ ((prog5 5 1).prog 5).st = 1) ∧
    ((0 < 128 ∧ 1 ≤ 3 ∧ 3 ≤ 4 ∧ bits (word 3 &&& 7#32) 2 0 = 3 ∧ (cmdEnt 0 3).pay = .command [(Reg.LOGIC_PCTL (0 / 16) (0 % 16), word 3,
    7#32)]) ∧ ((prog5 0 1).progImg 0).isSome = true ∧ ((prog5 0 1).prog 0).st = 1) ∧
    ((5 < 128 ∧ 1 ≤ 4 ∧ 4 ≤ 4 ∧ bits (word 4 &&& 7#32) 2 0 = 4 ∧ (cmdEnt 5 4).pay = .command [(Reg.LOGIC_PCTL (5 / 16) (5 % 16), word 4,
    7#32)]) ∧ ((prog5 5 2).progImg 5).isSome = true ∧ ((prog5 5 2).prog 5).st = 2) ∧
    ((5 < 128 ∧ 1 ≤ 4 ∧ 4 ≤ 4 ∧ bits (word 4 &&& 7#32) 2 0 = 4 ∧ (cmdEnt 5 4).pay = .command [(Reg.LOGIC_PCTL (5 / 16) (5 % 16), word 4,
    7#32)]) ∧ ((prog5 5 1).prog 5).st = 1) :=
  ⟨by decide +kernel,
   by decide +kernel,
   by decide +kernel,
   by decide +kernel,
   by decide +kernel,
   by decide +kernel⟩

theorem test_FieldCommandsEnter :
    ((sMay (F.AXIS_CMD.CMD 0).addr).calm accA.lane ∧ ((sMay (F.AXIS_CMD.CMD 0).addr).lane accA.lane).runs = true ∧ (sMay (F.AXIS_CMD.CMD
    0).addr).serves accA (F.AXIS_CMD.CMD 0).addr 4 true (withBits 0x300#32 (F.AXIS_CMD.CMD 0).hi (F.AXIS_CMD.CMD 0).lo 1).toNat) ∧
    ((sMay (F.AXIS_CMD.CMD 255).addr).calm accA.lane ∧ ((sMay (F.AXIS_CMD.CMD 255).addr).lane accA.lane).runs = true ∧ (sMay (F.AXIS_CMD.CMD
    255).addr).serves accA (F.AXIS_CMD.CMD 255).addr 4 true (withBits 0x300#32 (F.AXIS_CMD.CMD 255).hi (F.AXIS_CMD.CMD 255).lo 10).toNat) ∧
    ((sMay (F.RING_STA_CMD.ABSENT 23 63).addr).calm accA.lane ∧ ((sMay (F.RING_STA_CMD.ABSENT 23 63).addr).lane accA.lane).runs = true ∧ (sMay
    (F.RING_STA_CMD.ABSENT 23 63).addr).serves accA (F.RING_STA_CMD.ABSENT 23 63).addr 4 true (withBits 0x300#32 (F.RING_STA_CMD.ABSENT 23
    63).hi (F.RING_STA_CMD.ABSENT 23 63).lo 1).toNat) ∧
    ((sMay (F.RING_STA_CMD.RETURN 0 0).addr).calm accA.lane ∧ ((sMay (F.RING_STA_CMD.RETURN 0 0).addr).lane accA.lane).runs = true ∧ (sMay
    (F.RING_STA_CMD.RETURN 0 0).addr).serves accA (F.RING_STA_CMD.RETURN 0 0).addr 4 true (withBits 0x300#32 (F.RING_STA_CMD.RETURN 0 0).hi
    (F.RING_STA_CMD.RETURN 0 0).lo 1).toNat) ∧
    ((sMay (F.AIN_CTRL.ACK).addr).calm accA.lane ∧ ((sMay (F.AIN_CTRL.ACK).addr).lane accA.lane).runs = true ∧ (sMay
    (F.AIN_CTRL.ACK).addr).serves accA (F.AIN_CTRL.ACK).addr 4 true (withBits 0x300#32 (F.AIN_CTRL.ACK).hi (F.AIN_CTRL.ACK).lo 1).toNat) ∧
    ((sMay (F.AIN_CTRL.FULL_REQ).addr).calm accA.lane ∧ ((sMay (F.AIN_CTRL.FULL_REQ).addr).lane accA.lane).runs = true ∧ (sMay
    (F.AIN_CTRL.FULL_REQ).addr).serves accA (F.AIN_CTRL.FULL_REQ).addr 4 true (withBits 0x300#32 (F.AIN_CTRL.FULL_REQ).hi
    (F.AIN_CTRL.FULL_REQ).lo 1).toNat) ∧
    ((sMay (F.PBUS_OBJ_CMD.CMD 11).addr).calm accA.lane ∧ ((sMay (F.PBUS_OBJ_CMD.CMD 11).addr).lane accA.lane).runs = true ∧ (sMay
    (F.PBUS_OBJ_CMD.CMD 11).addr).serves accA (F.PBUS_OBJ_CMD.CMD 11).addr 4 true (withBits 0x300#32 (F.PBUS_OBJ_CMD.CMD 11).hi
    (F.PBUS_OBJ_CMD.CMD 11).lo 1).toNat) ∧
    ((sMay (F.PBUS_OBJ_CMD.CMD 0).addr).calm accA.lane ∧ ((sMay (F.PBUS_OBJ_CMD.CMD 0).addr).lane accA.lane).runs = true ∧ (sMay
    (F.PBUS_OBJ_CMD.CMD 0).addr).serves accA (F.PBUS_OBJ_CMD.CMD 0).addr 4 true (withBits 0x300#32 (F.PBUS_OBJ_CMD.CMD 0).hi
    (F.PBUS_OBJ_CMD.CMD 0).lo 2).toNat) ∧
    ((sMay (F.PBUS_CTRL.REC_REQ 11).addr).calm accA.lane ∧ ((sMay (F.PBUS_CTRL.REC_REQ 11).addr).lane accA.lane).runs = true ∧ (sMay
    (F.PBUS_CTRL.REC_REQ 11).addr).serves accA (F.PBUS_CTRL.REC_REQ 11).addr 4 true (withBits 0x300#32 (F.PBUS_CTRL.REC_REQ 11).hi
    (F.PBUS_CTRL.REC_REQ 11).lo 1).toNat) ∧
    ((sMay (Reg.AIN_CH_CFG 63)).calm accA.lane ∧ ((sMay (Reg.AIN_CH_CFG 63)).lane accA.lane).runs = true ∧ (sMay (Reg.AIN_CH_CFG 63)).serves
    accA (Reg.AIN_CH_CFG 63) 4 true (5#32).toNat) :=
  ⟨by decide +kernel,
   by decide +kernel,
   by decide +kernel,
   by decide +kernel,
   by decide +kernel,
   by decide +kernel,
   by decide +kernel,
   by decide +kernel,
   by decide +kernel,
   by decide +kernel⟩

end Sys2Proof.Tests
end

section
/-! The state after a reset of kind P (R2, R7): what a register, a field and the lanes of `State.reset` read. -/

namespace Sys2Proof.Machine

@[simp] theorem State.reset_lane (i : LaneId) : State.reset.lane i = Lane.fresh i.num := by cases i <;> rfl

@[simp] theorem Lane.fresh_rd_role (n : Nat) : (Lane.fresh n).rd Reg.SYS_ROLE = BitVec.ofNat 32 (2 + n) := rfl

/-- A fresh lane lists SYS_ROLE and SYS_SUPPLY alone, so every other register reads its reset word (R7). -/
theorem Lane.fresh_rd_ne (n a : Nat) (hrole : a ≠ Reg.SYS_ROLE) (hsup : a ≠ Reg.SYS_SUPPLY) : (Lane.fresh n).rd a = resetWord a := by
  simp [Lane.rd, Lane.fresh, Sparse.find, hrole.symm, hsup.symm]

/-- SYS_ROLE.ROLE is bit 0 of the slot's number, below OTHER_SEATED in bit 1. -/
theorem Lane.fresh_role (n : Nat) : (Lane.fresh n).get F.SYS_ROLE.ROLE = n % 2 := by
  have hrd : (Lane.fresh n).rd F.SYS_ROLE.ROLE.addr = BitVec.ofNat 32 (2 + n) := Lane.fresh_rd_role n
  rw [Lane.get, hrd, bits, BitVec.toNat_ofNat]
  simp only [F.SYS_ROLE.ROLE]
  omega

theorem LaneId.num_lt_two (i : LaneId) : i.num < 2 := by cases i <;> decide

/-- The reset word of SYS_STATE names stage S0 and lane state PIP (R86). -/
theorem resetWord_sysState : resetWord Reg.SYS_STATE = 2#32 := by decide

theorem Lane.fresh_st (n : Nat) : (Lane.fresh n).st = .pip := by
  have hrd : (Lane.fresh n).rd F.SYS_STATE.LANE_STATE.addr = 2#32 :=
    (Lane.fresh_rd_ne n Reg.SYS_STATE (by decide) (by decide)).trans resetWord_sysState
  rw [Lane.st, Lane.get, hrd]
  decide

/-- Settles O2: a reset lane is `Lane.fresh` of its slot, which lists no register but SYS_ROLE and SYS_SUPPLY and holds nothing. -/
theorem resetLeavesResetWords : Obligations.ResetLeavesResetWords := by
  unfold Obligations.ResetLeavesResetWords
  simp only [State.reset_lane]
  refine ⟨fun i a => Lane.fresh_rd_ne i.num a, fun i => ?_, rfl, rfl⟩
  have hrole : (Lane.fresh i.num).get F.SYS_ROLE.ROLE = i.num := (Lane.fresh_role i.num).trans (Nat.mod_eq_of_lt (LaneId.num_lt_two i))
  exact ⟨hrole, Lane.fresh_st i.num, fun _ => rfl, rfl, rfl, rfl, rfl, rfl⟩

end Sys2Proof.Machine
end

section
/-! What a lane's own hardware leaves of the lane's state (R86): the operations behind the commands of one lane raise events, keep
records, and write registers, none of which is SYS_STATE, so that a lane never leaves PAIRED or a rejoin by them. -/

namespace Sys2Proof.Machine

/-! ### Updates outside the registers -/

/-- A lane's state depends on the register map alone. -/
theorem Lane.st_of_regs {l m : Lane} (h : l.regs = m.regs) : l.st = m.st := Lane.st_of_get (Lane.get_of_regs _ h)

@[simp] theorem Lane.st_with_dram (l : Lane) (x : List Host.Cell) : Lane.st { l with dram := x } = l.st := (rfl)
@[simp] theorem Lane.st_with_time (l : Lane) (x : TimeH) : Lane.st { l with time := x } = l.st := (rfl)
@[simp] theorem Lane.st_with_ledger (l : Lane) (x : LedgerH) : Lane.st { l with ledger := x } = l.st := (rfl)
@[simp] theorem Lane.st_with_pair (l : Lane) (x : PairH) : Lane.st { l with pair := x } = l.st := (rfl)
@[simp] theorem Lane.st_with_cyc (l : Lane) (x : CycleH) : Lane.st { l with cyc := x } = l.st := (rfl)
@[simp] theorem Lane.st_with_ring (l : Lane) (x : RingH) : Lane.st { l with ring := x } = l.st := (rfl)
@[simp] theorem Lane.st_with_ain (l : Lane) (x : AinH) : Lane.st { l with ain := x } = l.st := (rfl)
@[simp] theorem Lane.st_with_axis (l : Lane) (x : AxisH) : Lane.st { l with axis := x } = l.st := (rfl)
@[simp] theorem Lane.st_with_capt (l : Lane) (x : CaptH) : Lane.st { l with capt := x } = l.st := (rfl)
@[simp] theorem Lane.st_with_fifos (l : Lane) (x : List Fifo) : Lane.st { l with fifos := x } = l.st := (rfl)
@[simp] theorem Lane.st_with_irq (l : Lane) (x : IrqH) : Lane.st { l with irq := x } = l.st := (rfl)
@[simp] theorem Lane.st_with_host (l : Lane) (x : HostH) : Lane.st { l with host := x } = l.st := (rfl)
@[simp] theorem Lane.st_with_log (l : Lane) (x : LogH) : Lane.st { l with log := x } = l.st := (rfl)
@[simp] theorem Lane.st_withWork (l : Lane) (f : WorkH → WorkH) : (l.withWork f).st = l.st := (rfl)
@[simp] theorem Lane.st_withRec (l : Lane) (f : RecH → RecH) : (l.withRec f).st = l.st := (rfl)
@[simp] theorem Lane.st_hapSend (l : Lane) (ip port : Nat) (bs : List Nat) : (l.hapSend ip port bs).st = l.st := (rfl)
@[simp] theorem Lane.st_putWin (l : Lane) (a : Nat) (w : Word) : (l.putWin a w).st = l.st := (rfl)
@[simp] theorem Lane.st_setConv (l : Lane) (e : ConvH) : (l.setConv e).st = l.st := (rfl)
@[simp] theorem Lane.st_setAxHw (l : Lane) (e : AxHw) : (l.setAxHw e).st = l.st := (rfl)

/-! ### Registers above SYS_STATE, choices and folds -/

/-- A write of a field of a register above SYS_STATE. -/
theorem Lane.st_set_above (l : Lane) (f : Fld) (v : Nat) (h : Reg.SYS_STATE < f.addr) : (l.set f v).st = l.st :=
  Lane.st_set l f v (Nat.ne_of_gt h)
theorem Lane.st_setB_above (l : Lane) (f : Fld) (b : Bool) (h : Reg.SYS_STATE < f.addr) : (l.setB f b).st = l.st := Lane.st_set_above l f _ h
theorem Lane.st_cnt_above (l : Lane) (f : Fld) (n : Nat) (h : Reg.SYS_STATE < f.addr) : (l.cnt f n).st = l.st := Lane.st_set_above l f _ h
theorem Lane.st_wr_above (l : Lane) (a : Nat) (w : Word) (h : Reg.SYS_STATE < a) : (l.wr a w).st = l.st := Lane.st_wr l a w (Nat.ne_of_gt h)
theorem Lane.st_set64_above (l : Lane) (a b v : Nat) (ha : Reg.SYS_STATE < a) (hb : Reg.SYS_STATE < b) : (l.set64 a b v).st = l.st :=
  (Lane.st_wr_above _ b _ hb).trans (Lane.st_wr_above l a _ ha)

/-- A choice of two lanes in the state of `l` is in that state. -/
theorem Lane.st_ite {p : Prop} [Decidable p] {x y l : Lane} (hx : x.st = l.st) (hy : y.st = l.st) : (if p then x else y).st = l.st := by
  split
  · exact hx
  · exact hy

/-- A fold of steps that keep the state keeps it. -/
theorem Lane.st_foldl {α : Type} (f : Lane → α → Lane) (h : ∀ m x, (f m x).st = m.st) (xs : List α) (l : Lane) :
    (xs.foldl f l).st = l.st := by
  induction xs generalizing l with
  | nil => rfl
  | cons x xs ih => exact (ih (f l x)).trans (h l x)

/-! ### The power ledger (R87–R92) -/

@[simp] theorem Lane.st_ledgerShow (l : Lane) : l.ledgerShow.st = l.st := by
  unfold Lane.ledgerShow
  rw [Lane.st_foldl _ (fun m c => by
    rw [Lane.st_set_above _ (F.LEDGER_CLASS.WAITING c) _ (Nat.lt_add_right _ (by decide)),
      Lane.st_set_above _ (F.LEDGER_CLASS.GRANTED c) _ (Nat.lt_add_right _ (by decide))])]
  simp (disch := decide) only [Lane.st_set_above]

theorem st_revokeFor (q n : Nat) (l : Lane) : (revokeFor q n l).st = l.st := by
  induction n generalizing l with
  | zero => rfl
  | succ n ih =>
    unfold revokeFor
    split
    · rfl
    · split
      · rfl
      · rw [ih, Lane.st_ev, Lane.st_with_ledger]

theorem st_takeReq (l : Lane) (r : LReq) (now : Nat) : (takeReq l r now).st = l.st := by
  unfold takeReq grantReq
  split
  · exact st_revokeFor _ _ _
  · rfl

theorem st_serveWaiting (now : Nat) (rs : List LReq) (l : Lane) : (serveWaiting now rs l).st = l.st := by
  induction rs generalizing l with
  | nil => rfl
  | cons r t ih =>
    unfold serveWaiting
    split
    · rw [ih, st_takeReq, Lane.st_with_ledger]
    · exact ih l

@[simp] theorem Lane.st_ledgerServe (l : Lane) (now : Nat) : (l.ledgerServe now).st = l.st := by
  rw [Lane.ledgerServe, Lane.st_ledgerShow, st_serveWaiting]

@[simp] theorem Lane.st_ledgerRelease (l : Lane) (cls who now : Nat) : (l.ledgerRelease cls who now).st = l.st := Lane.st_ledgerServe ..

@[simp] theorem Lane.st_ledgerFree (l : Lane) (cls who now : Nat) : (l.ledgerFree cls who now).st = l.st := Lane.st_ledgerRelease ..

@[simp] theorem Lane.st_ledgerAsk (l : Lane) (cls q dur who now : Nat) : (l.ledgerAsk cls q dur who now).st = l.st := by
  obtain ⟨rs, h⟩ := l.ledgerAsk_spec cls q dur who now
  rw [h, Lane.st_with_ledger]

theorem Lane.st_ledgerStopped (l : Lane) (now : Nat) : (l.ledgerStopped now).st = l.st := by
  unfold Lane.ledgerStopped
  split
  · rfl
  · exact Lane.st_ledgerServe ..

theorem st_refuseReq (l : Lane) (r : LReq) : (refuseReq l r).st = l.st := by
  unfold refuseReq
  rw [Lane.st_with_ledger, Lane.st_ev, Lane.st_cnt_above _ _ _ (Nat.lt_add_right _ (by decide))]

theorem Lane.st_ledgerTimeout (l : Lane) (now : Nat) : (l.ledgerTimeout now).st = l.st := by
  unfold Lane.ledgerTimeout
  split
  · rw [Lane.st_ledgerShow, st_refuseReq, Lane.st_with_ledger]
  · rfl

theorem Lane.st_ledgerEnd (l : Lane) (now : Nat) : (l.ledgerEnd now).st = l.st := by
  unfold Lane.ledgerEnd
  split
  · exact Lane.st_ledgerServe ..
  · rfl

/-! ### Capture and fast inputs (chapters 11 and 15) -/

@[simp] theorem Lane.st_captHead (l : Lane) : l.captHead.st = l.st := Lane.st_with_dram ..

@[simp] theorem Lane.st_captEnd (l : Lane) (cause now : Nat) : (l.captEnd cause now).st = l.st := by
  unfold Lane.captEnd Lane.captRelease
  rw [Lane.st_ev, Lane.st_captHead, Lane.st_with_capt, Lane.st_ledgerFree, Lane.st_ledgerFree]
  simp (disch := decide) only [Lane.st_set_above]

theorem Lane.st_captGrant (l : Lane) (cls : Nat) (granted : Bool) (now : Nat) : (l.captGrant cls granted now).st = l.st := by
  unfold Lane.captGrant
  split
  · rfl
  · split
    · rw [Lane.st_ev, Lane.st_captEnd]
    · rfl

theorem Lane.st_captGrantEnd (l : Lane) (now : Nat) : (l.captGrantEnd now).st = l.st := Lane.st_ite (Lane.st_captEnd ..) rfl

theorem Lane.st_captStart (l : Lane) : l.captStart.st = l.st := by
  unfold Lane.captStart
  split
  · rfl
  · split
    · rfl
    · rw [Lane.st_with_capt, Lane.st_ev]
      simp (disch := decide) only [Lane.st_set_above]

theorem Lane.st_seqTimeouts (ti k : Nat) (l : Lane) : (l.seqTimeouts ti k).st = l.st := by
  induction k generalizing l with
  | zero => rfl
  | succ k ih =>
    unfold Lane.seqTimeouts
    split
    · split
      · rw [ih, Lane.seqEnter, Lane.st_with_capt, Lane.st_set_above _ _ _ (by decide)]
      · rfl
    · rfl

theorem Lane.st_captNoTrigger (l : Lane) (now : Nat) : (l.captNoTrigger now).st = l.st := Lane.st_ite (Lane.st_captEnd ..) rfl

theorem Lane.st_captComplete (l : Lane) (now : Nat) : (l.captComplete now).st = l.st := by
  unfold Lane.captComplete
  split
  · split
    · exact Lane.st_captEnd ..
    · rfl
  · rfl

theorem Lane.st_captPeriodic (l : Lane) : l.captPeriodic.st = l.st := by
  unfold Lane.captPeriodic
  split
  · rw [Lane.st_captHead, Lane.st_with_capt]
  · rfl

theorem Lane.st_captOverrun (l : Lane) (now : Nat) : (l.captOverrun now).st = l.st := by
  unfold Lane.captOverrun
  split
  · rw [Lane.st_captEnd, Lane.st_ev, Lane.st_with_capt]
  · rfl

theorem Lane.st_fiPower (l : Lane) (on : Bool) (now : Nat) : (l.fiPower on now).st = l.st := by
  unfold Lane.fiPower
  cases on <;> simp (disch := decide) only [Lane.st_set_above, Lane.st_with_ain, if_true, if_false, Bool.false_eq_true]

theorem Lane.st_fiReady (l : Lane) (now : Nat) : (l.fiReady now).st = l.st := by
  unfold Lane.fiReady
  split
  · split
    · rw [Lane.st_ev, Lane.st_set_above _ _ _ (by decide)]
    · rfl
  · rfl

theorem Lane.st_owNow (l : Lane) : l.owNow.st = l.st := Lane.st_with_ain ..

theorem Lane.st_convert (l : Lane) (ch : Nat) (code : Int) (t : Nat) : (l.convert ch code t).st = l.st := Lane.st_setConv ..

theorem Lane.st_aoReadback (l : Lane) (ch : Nat) (rb : Int) : (l.aoReadback ch rb).st = l.st := by
  unfold Lane.aoReadback
  refine Lane.st_ite ?_ rfl
  rw [Lane.st_logEv, Lane.st_ev, Lane.st_setB_above _ (F.AOUT_STAT.RB_FAULT ch) _ (Nat.lt_add_right _ (by decide))]

/-! ### Motion axes (chapter 12) -/

theorem Lane.st_overcurrent (l : Lane) (a sample : Nat) : (l.overcurrent a sample).st = l.st := Lane.st_ite (Lane.st_setAxHw ..) rfl

theorem Lane.st_mclkFault (l : Lane) (a : Nat) (prime : Bool) : (l.mclkFault a prime).st = l.st := Lane.st_ite (Lane.st_setAxHw ..) rfl

theorem Lane.st_limitInput (l : Lane) (a which : Nat) (level : Bool) (pos : Int) (ts : Nat) : (l.limitInput a which level pos ts).st = l.st :=
  Lane.st_setAxHw ..

/-! ### Service cores (chapter 17) -/

/-- The row of core `c` in WORK_CORE_STAT. -/
theorem Lane.st_set_coreStat (l : Lane) (c func flow st : Nat) :
    (((l.set (F.WORK_CORE_STAT.FUNC c) func).set (F.WORK_CORE_STAT.FLOW c) flow).set (F.WORK_CORE_STAT.STATE c) st).st = l.st := by
  have hrow : Reg.SYS_STATE < Reg.WORK_CORE_STAT c := Nat.lt_add_right _ (by decide)
  rw [Lane.st_set_above _ _ _ hrow, Lane.st_set_above _ _ _ hrow, Lane.st_set_above _ _ _ hrow]

theorem Lane.st_workShow (l : Lane) (now : Nat) : (l.workShow now).st = l.st := by
  unfold Lane.workShow
  refine (Lane.st_foldl _ (fun m c => ?_) _ _).trans ?_
  · split
    · rw [Lane.st_set_above _ (F.WORK_CORE_ID_HI.ID c) _ (Nat.lt_add_right _ (by decide)),
        Lane.st_set_above _ (F.WORK_CORE_ID_LO.ID c) _ (Nat.lt_add_right _ (by decide)), Lane.st_set_coreStat]
    · exact Lane.st_set_coreStat ..
  · simp (disch := decide) only [Lane.st_set_above, Lane.st_setB_above, Lane.st_withWork]

theorem Lane.st_trcWindfall (l : Lane) (p : TrcPort) (t : Trc) (wf : Nat → List Nat) : (l.trcWindfall p t wf).1.st = l.st := by
  unfold Lane.trcWindfall
  split
  · exact Lane.st_ev ..
  · rfl

theorem Lane.st_trcPush (l : Lane) (p : TrcPort) (t : Trc) (r : List Nat) (wf : Nat → List Nat) : (l.trcPush p t r wf).1.st = l.st := by
  unfold Lane.trcPush
  dsimp only
  split <;> exact Lane.st_trcWindfall ..

@[simp] theorem Lane.st_workTrace (l : Lane) (ev core : Nat) (it : Item) (status : Nat) : (l.workTrace ev core it status).st = l.st := by
  unfold Lane.workTrace
  dsimp only
  split
  · rw [Lane.st_withWork, Lane.st_trcPush]
  · rfl

theorem Lane.st_boostGranted (l : Lane) (now : Nat) : (l.boostGranted now).st = l.st := by
  rw [Lane.boostGranted, Lane.st_workShow, Lane.st_ev, Lane.st_withWork]

theorem Lane.st_workPreempt (l : Lane) (now : Nat) : (l.workPreempt now).st = l.st := by
  rw [Lane.workPreempt, Lane.st_workShow, Lane.st_ev, Lane.st_withWork, Lane.st_foldl _ (fun m c => m.st_workTrace ..)]

theorem Lane.st_workDispatch (l : Lane) (now : Nat) : (l.workDispatch now).st = l.st := by
  unfold Lane.workDispatch
  split
  · rw [Lane.st_workShow, Lane.st_withWork, Lane.st_workTrace]
  · dsimp only
    rw [Lane.st_workShow, Lane.st_with_ring, Lane.st_withWork, Lane.st_workTrace]
  · rfl

theorem Lane.st_workQueue (l : Lane) (it : Item) (arr : List Nat) (now : Nat) : (l.workQueue it arr now).st = l.st := by
  rw [Lane.workQueue, Lane.st_workShow, Lane.st_withWork]

theorem Lane.st_delayTick (l : Lane) (now : Nat) : (l.delayTick now).st = l.st := by
  unfold Lane.delayTick
  dsimp only
  split
  · rfl
  · rw [Lane.st_workShow, Lane.st_foldl _ (fun m it => ?_), Lane.st_withWork]
    rw [Lane.st_workQueue, Lane.st_workTrace]
    split
    · exact Lane.st_ev ..
    · rfl

theorem Lane.st_boostRequest (l : Lane) (now : Nat) : (l.boostRequest now).st = l.st := Lane.st_ite (Lane.st_ledgerAsk ..) rfl

theorem Lane.st_boostRelease (l : Lane) (now : Nat) : (l.boostRelease now).st = l.st := by
  unfold Lane.boostRelease
  split
  · rw [Lane.st_workShow, Lane.st_ev, Lane.st_ledgerFree]
  · rfl

theorem Lane.st_workTrcWindfall (l : Lane) : l.workTrcWindfall.st = l.st := Lane.st_trcWindfall ..

theorem Lane.st_trcDrain (l : Lane) (p : TrcPort) (t : Trc) (hw : Reg.SYS_STATE < p.wptr) (hm : Reg.SYS_STATE < p.mode.addr) :
    (l.trcDrain p t).1.st = l.st := by
  unfold Lane.trcDrain
  split
  · dsimp only
    split
    · rfl
    · split
      · rw [Lane.st_wr_above _ _ _ hw, Lane.st_with_dram]
      · split
        · rw [Lane.st_wr_above _ _ _ hw, Lane.st_with_dram]
        · rw [Lane.st_ev, Lane.st_set_above _ _ _ hm, Lane.st_wr_above _ _ _ hw, Lane.st_with_dram]
  · rfl

@[simp] theorem Lane.st_drainCycle (l : Lane) : l.drainCycle.st = l.st := by
  rw [Lane.drainCycle, Lane.st_with_cyc, Lane.st_trcDrain _ _ _ (by decide) (by decide)]

/-! ### The ledger's answers (R88, R280, R281, R361, R397) -/

theorem Lane.st_settle1 (l : Lane) (x : Nat × LReq) (now : Nat) : (l.settle1 x now).st = l.st := by
  unfold Lane.settle1
  split
  · exact Lane.st_set_above _ _ _ (by decide)
  · exact Lane.st_captGrant ..
  · rw [Lane.st_captGrant, Lane.st_fiPower]
  · exact Lane.st_fiPower ..
  · exact Lane.st_captGrant ..
  · exact Lane.st_captGrant ..
  · exact Lane.st_captGrantEnd ..
  · exact Lane.st_with_ring ..
  · split
    · rfl
    · exact Lane.st_ledgerAsk ..
  · exact Lane.st_boostGranted ..
  · exact Lane.st_workPreempt ..
  · rfl

theorem st_settleAll (now n : Nat) (l : Lane) : (settleAll now n l).st = l.st := by
  induction n generalizing l with
  | zero => rfl
  | succ n ih =>
    unfold settleAll
    split
    · rfl
    · rw [ih, Lane.st_foldl _ (fun m x => m.st_settle1 x now), Lane.st_with_ledger]

/-- No answer of the ledger takes a lane out of its state. -/
@[simp] theorem Lane.st_settle (l : Lane) (now : Nat) : (l.settle now).st = l.st := st_settleAll now 8 l

/-! ### FIFOs, interrupts and host links (chapters 17 to 19) -/

/-- FIFO `f`'s registers lie on the FIFO pages. -/
theorem sysState_lt_fifo (f k : Nat) : Reg.SYS_STATE < 0x980000 + 0x1000 * (f / 16) + 0x40 * (f % 16) + k :=
  Nat.lt_add_right _ (Nat.lt_add_right _ (Nat.lt_add_right _ (by decide)))

theorem Lane.st_setFifo (l : Lane) (e : Fifo) : (l.setFifo e).st = l.st := by
  have hstat : Reg.SYS_STATE < Reg.FIFO_STAT e.f := sysState_lt_fifo ..
  unfold Lane.setFifo
  rw [Lane.st_setB_above _ _ _ hstat, Lane.st_setB_above _ _ _ hstat, Lane.st_setB_above _ _ _ hstat, Lane.st_set_above _ _ _ hstat,
    Lane.st_set_above _ _ _ hstat, Lane.st_with_fifos]

theorem Lane.st_fifoCommit (l : Lane) (f : Nat) (last : Bool) : (l.fifoCommit f last).st = l.st := by
  unfold Lane.fifoCommit
  dsimp only
  split
  · rw [Lane.st_setFifo, Lane.st_set_above _ _ _ (sysState_lt_fifo _ _)]
    split
    · exact Lane.st_ev ..
    · rfl
  · split
    · rw [Lane.st_ev, Lane.st_setFifo]
    · exact Lane.st_setFifo ..

theorem Lane.st_fifoFlush (l : Lane) (f now : Nat) : (l.fifoFlush f now).st = l.st := Lane.st_ite (Lane.st_fifoCommit ..) rfl

@[simp] theorem Lane.st_withIrq (l : Lane) (f : IrqH → IrqH) : (l.withIrq f).st = l.st := by
  unfold Lane.withIrq
  dsimp only
  rw [Lane.st_foldl _ (fun m t => m.st_setB_above _ _ (Nat.lt_add_right _ (by decide))), Lane.st_set_above _ _ _ (by decide), Lane.st_with_irq]

theorem Lane.st_sendEvent (l : Lane) (target src sum : Nat) : (l.sendEvent target src sum).st = l.st := by
  unfold Lane.sendEvent
  dsimp only
  split
  · rfl
  · split
    · rfl
    · split
      · rfl
      · exact Lane.st_hapSend ..

@[simp] theorem Lane.st_emit (l : Lane) (s t : Nat) : (l.emit s t).st = l.st := by
  rw [Lane.emit, Lane.st_withIrq, Lane.st_sendEvent]

@[simp] theorem Lane.st_irqWoken (l : Lane) (t : Nat) : (l.irqWoken t).st = l.st := by
  rw [Lane.irqWoken, Lane.st_foldl _ (fun m w => m.st_emit ..), Lane.st_withIrq]

@[simp] theorem Lane.st_waitFor (l : Lane) (w : Wait) : (l.waitFor w).st = l.st := Lane.st_withIrq ..

theorem Lane.st_putBit (l : Lane) (base s : Nat) (b : Bool) (h : Reg.SYS_STATE < base) : (l.putBit base s b).st = l.st :=
  Lane.st_setB_above l _ b (Nat.lt_add_right _ h)

theorem Lane.st_deliver (l : Lane) (s now : Nat) : (l.deliver s now).st = l.st := by
  unfold Lane.deliver
  dsimp only
  split
  · exact Lane.st_withIrq ..
  · split
    · rw [Lane.st_emit, Lane.st_withIrq]
    · rw [Lane.st_waitFor, Lane.st_withIrq]

theorem Lane.st_irqRise (l : Lane) (s now : Nat) : (l.irqRise s now).st = l.st := by
  unfold Lane.irqRise
  dsimp only
  split
  · rw [Lane.st_putBit _ _ _ _ (by decide), Lane.st_with_irq]
  · rw [Lane.st_deliver, Lane.st_putBit _ _ _ _ (by decide), Lane.st_with_irq]

theorem Lane.st_irqSample (l : Lane) (s : Nat) (level : Bool) (now : Nat) : (l.irqSample s level now).st = l.st := by
  unfold Lane.irqSample
  refine Lane.st_ite (Lane.st_ite ?_ ?_) (Lane.st_with_irq ..)
  · rw [Lane.st_putBit _ (Reg.IRQ_LOST 0) _ _ (by decide), Lane.st_with_irq]
  · rw [Lane.st_irqRise, Lane.st_with_irq]

theorem Lane.st_targetWake (l : Lane) (t : Nat) : (l.targetWake t).st = l.st := by
  unfold Lane.targetWake
  refine Lane.st_ite (Lane.st_irqWoken ..) ?_
  extract_lets l1
  have h1 : l1.st = l.st := Lane.st_ite (Lane.st_set_above _ _ _ (by decide)) rfl
  exact Lane.st_ite ((Lane.st_irqWoken ..).trans h1) h1

theorem Lane.st_wakeTimeout (l : Lane) (t now : Nat) : (l.wakeTimeout t now).st = l.st := by
  unfold Lane.wakeTimeout
  dsimp only
  split
  · exact Lane.st_irqWoken ..
  · refine Lane.st_foldl _ (fun m w => ?_) _ _
    split
    · rw [Lane.st_ev, Lane.st_withIrq, Lane.st_withIrq]
    · split
      · rw [Lane.st_emit, Lane.st_ev, Lane.st_cnt_above _ _ _ (by decide), Lane.st_withIrq]
      · rw [Lane.st_waitFor, Lane.st_ev, Lane.st_cnt_above _ _ _ (by decide), Lane.st_withIrq]

theorem Lane.st_showBound (l : Lane) (q : Nat) : (l.showBound q).st = l.st := by
  have hstat : Reg.SYS_STATE < Reg.SEAT_STAT q := Nat.lt_add_right _ (by decide)
  exact (Lane.st_setB_above _ _ _ hstat).trans (Lane.st_setB_above _ _ _ hstat)

theorem Lane.st_bindPcie (l : Lane) : l.bindPcie.st = l.st := by
  unfold Lane.bindPcie
  split
  · rw [Lane.st_ev, Lane.st_showBound, Lane.st_set_above _ _ _ (by decide)]
  · rfl

theorem Lane.st_pcieUp (l : Lane) (width speed : Nat) : (l.pcieUp width speed).st = l.st := by
  unfold Lane.pcieUp
  dsimp only
  split
  · rw [Lane.st_bindPcie, Lane.st_ev]
    simp (disch := decide) only [Lane.st_set_above, Lane.st_with_host]
  · rfl

theorem Lane.st_dstate (l : Lane) (d : Nat) : (l.dstate d).st = l.st := by
  have hd (v : Nat) : (l.set F.HOST_PCIE_STAT.DSTATE v).st = l.st := Lane.st_set_above _ _ _ (by decide)
  exact Lane.st_ite (Lane.st_ite ((Lane.st_irqWoken ..).trans (hd _)) (hd _)) rfl

theorem Lane.st_toolExpiry (l : Lane) (now : Nat) : (l.toolExpiry now).st = l.st := by
  rw [Lane.toolExpiry, Lane.st_set_above _ _ _ (by decide), Lane.st_with_host]

theorem Lane.st_otherFrame (l : Lane) (port kind : Nat) : (l.otherFrame port kind).st = l.st := Lane.st_ite (Lane.st_with_host ..) rfl

/-! ### The signal record and the event log (chapter 16) -/

@[simp] theorem Lane.st_recShow (l : Lane) : l.recShow.st = l.st := by
  unfold Lane.recShow
  dsimp only
  split <;> simp (disch := decide) only [Lane.st_set64_above, Lane.st_set_above, Lane.st_setB_above]

theorem Lane.st_flashWrite (l : Lane) (now : Nat) : (l.flashWrite now).st = l.st := by
  unfold Lane.flashWrite
  dsimp only
  split
  · exact Lane.st_recShow ..
  · split
    · rw [Lane.st_recShow, Lane.st_ledgerFree, Lane.st_ledgerFree]
    · split
      · rfl
      · rw [Lane.st_recShow, Lane.st_withRec]

/-- A lane with a record skipped and counted. -/
theorem Lane.st_recSkip (l : Lane) (n : Nat) (f : RecH → RecH) : (((l.cnt F.REC_PORT_SKIP.COUNT n).ev recPage 1).withRec f).st = l.st := by
  rw [Lane.st_withRec, Lane.st_ev, Lane.st_cnt_above _ _ _ (by decide)]

theorem Lane.st_punnetSend (l : Lane) : l.punnetSend.st = l.st := by
  unfold Lane.punnetSend
  extract_lets old skip l1
  have hskip : l1.st = l.st := Lane.st_ite rfl (Lane.st_recSkip ..)
  refine Lane.st_ite ?_ (Lane.st_ite ?_ hskip)
  · rw [Lane.st_recSkip, hskip]
  · rw [Lane.st_withRec, Lane.st_cnt_above _ F.REC_PORT_SENT.COUNT _ (by decide), hskip]

theorem Lane.st_arpResolve (l : Lane) (up : Bool) (mac : Option Nat) : (l.arpResolve up mac).st = l.st := by
  unfold Lane.arpResolve
  rw [Lane.st_withRec]
  split
  · rfl
  · rw [Lane.st_ev, Lane.st_setB_above _ _ _ (by decide)]

theorem Lane.st_logShow (l : Lane) : l.logShow.st = l.st := by
  unfold Lane.logShow
  dsimp only
  split <;> split <;> simp (disch := decide) only [Lane.st_set64_above]

theorem Lane.st_logFlash (l : Lane) (n : Nat) : (l.logFlash n).st = l.st := by
  rw [Lane.logFlash, Lane.st_logShow, Lane.st_with_log]

theorem Lane.st_logWindfall (l : Lane) : l.logWindfall.st = l.st := by
  unfold Lane.logWindfall
  split
  · rfl
  · dsimp only
    rw [Lane.st_ev, Lane.st_log1, Lane.st_with_log]

theorem Lane.st_logFail (l : Lane) (code seat : Nat) : (l.logFail code seat).st = l.st := by
  rw [Lane.logFail, Lane.st_err, Lane.st_set_above _ _ _ (by decide)]

theorem Lane.st_logDone (l : Lane) : l.logDone.st = l.st := by
  have hbusy (x : LogH) : ((Lane.set { l with log := x } F.LOG_RD_STAT.BUSY 0).ev recPage 5).st = l.st := by
    rw [Lane.st_ev, Lane.st_set_above _ _ _ (by decide), Lane.st_with_log]
  unfold Lane.logDone
  split
  · rfl
  · dsimp only
    split
    · split
      · rw [Lane.st_logFail, Lane.st_set_above _ _ _ (by decide), hbusy]
      · split
        · rw [Lane.st_logFail, Lane.st_set_above _ _ _ (by decide), Lane.st_with_dram, hbusy]
        · rw [Lane.st_set_above _ _ _ (by decide), Lane.st_with_dram, hbusy]
    · split
      · rw [Lane.st_foldl _ (fun m k => m.st_wr_above (Reg.LOG_RD_DATA k) _ (Nat.lt_add_right _ (by decide))),
          Lane.st_set_above _ _ _ (by decide), hbusy]
      · rw [Lane.st_logFail, Lane.st_set_above _ _ _ (by decide), hbusy]

theorem Lane.st_opRewrite (l : Lane) : l.opRewrite.st = l.st := Lane.st_with_log ..

/-! ### Field rings (chapter 10) -/

theorem Lane.st_linkUp (l : Lane) (r mode : Nat) : (l.linkUp r mode).st = l.st := by
  rw [Lane.linkUp, Lane.st_ev, Lane.st_setB_above _ (F.RING_STAT.LINK r) _ (Nat.lt_add_right _ (by decide)), Lane.st_with_ring]

theorem Lane.st_ringLink (l : Lane) (r which : Nat) (up : Bool) (now : Nat) : (l.ringLink r which up now).st = l.st := by
  have hstat {f : Fld} (h : f.addr = Reg.RING_STAT r) (m : Lane) (b : Bool) : ((m.setB f b).ev (ringPage r) 4).st = m.st := by
    rw [Lane.st_ev, Lane.st_setB_above _ _ _ (h ▸ Nat.lt_add_right _ (by decide))]
  unfold Lane.ringLink
  split
  · split
    · split
      · rfl
      · exact Lane.st_linkUp ..
    · dsimp only
      rw [Lane.st_ledgerAsk, hstat rfl, Lane.st_with_ring]
  · exact hstat rfl ..
  · exact hstat rfl ..

theorem Lane.st_trainDone (l : Lane) (r mode now : Nat) : (l.trainDone r mode now).st = l.st := by
  unfold Lane.trainDone
  dsimp only
  split
  · split
    · rw [Lane.st_linkUp, Lane.st_ledgerFree]
    · rw [Lane.st_err, Lane.st_linkUp, Lane.st_ledgerFree]
  · rfl

theorem Lane.st_trainRetry (l : Lane) (r now : Nat) : (l.trainRetry r now).st = l.st := by
  unfold Lane.trainRetry
  split
  · rw [Lane.st_ledgerAsk, Lane.st_with_ring]
  · rfl

/-! ### The time block (chapter 03) -/

@[simp] theorem Lane.st_enter (l : Lane) (pay : Payload) (seat : Option Nat) (key : Nat) : (l.enter pay seat key).st = l.st := by
  unfold Lane.enter Lane.enterBy Lane.mirSent
  simp (disch := decide) only [Lane.st_with_pair, Lane.st_set_above, Lane.st_cnt_above]

theorem Lane.st_moveTrig (l : Lane) (d : Int) (n : Nat) : (l.moveTrig d n).st = l.st := by
  unfold Lane.moveTrig
  split
  · dsimp only
    rw [Lane.st_wr_above _ (Reg.TT_TGT_HI n) _ (Nat.lt_add_right _ (by decide)),
      Lane.st_wr_above _ (Reg.TT_TGT_LO n) _ (Nat.lt_add_right _ (by decide)), Lane.st_with_time]
  · rfl

theorem Lane.st_moveOwn (l : Lane) (d : Int) : (l.moveOwn d).st = l.st :=
  (Lane.st_of_regs rfl).trans (Lane.st_foldl _ (fun m n => m.st_moveTrig d n) (List.range 32) l)

theorem Lane.st_moveTimers (l : Lane) (d : Int) : (l.moveTimers d).st = l.st := by
  unfold Lane.moveTimers Lane.moveWin
  exact Lane.st_foldl _ (fun m a => (Lane.st_putWin ..).trans (Lane.st_putWin ..)) _ l

theorem Lane.st_moveCarried (l : Lane) (d : Int) : (l.moveCarried d).st = l.st :=
  (Lane.st_of_regs rfl).trans ((Lane.st_set64_above (l.moveTimers d) Reg.CYCLE_ORG_T_LO Reg.CYCLE_ORG_T_HI _ (by decide) (by decide)).trans
    (Lane.st_moveTimers l d))

theorem Lane.st_stepClock (l : Lane) (d : Int) : (l.stepClock d).st = l.st := by
  unfold Lane.stepClock Lane.showTime
  rw [Lane.st_log1, Lane.st_ev, Lane.st_set64_above _ _ _ _ (by decide) (by decide), Lane.st_with_time]

theorem Lane.st_timeStep (l : Lane) (d : Int) : (l.timeStep d).st = l.st := by
  unfold Lane.timeStep Lane.moveTargets
  rw [Lane.st_stepClock, Lane.st_with_time, Lane.st_moveOwn, Lane.st_moveCarried]

theorem Lane.st_timeState (l : Lane) (st : Nat) : (l.timeState st).st = l.st := by
  unfold Lane.timeState
  split
  · rfl
  · dsimp only
    rw [Lane.st_ev, Lane.st_set_above _ _ _ (by decide), Lane.st_with_time]

theorem Lane.st_timeSet (l : Lane) (s e source : Nat) : (l.timeSet s e source).st = l.st := by
  have hset : (l.wr Reg.TIME_SET_HI (word (s / 2 ^ 32))).st = l.st := Lane.st_wr_above _ _ _ (by decide)
  unfold Lane.timeSet
  dsimp only
  split
  · rw [Lane.st_err, hset]
  · split
    · rw [Lane.st_with_time, hset]
    · split
      · rw [Lane.st_timeState, Lane.st_timeStep, hset]
      · rw [Lane.st_timeStep, hset]

theorem Lane.st_timeApply (l : Lane) (e source : Nat) (p : Payload) : (l.timeApply e source p).st = l.st := by
  unfold Lane.timeApply
  split
  · dsimp only
    split
    · rw [Lane.st_timeState, Lane.st_timeStep]
    · exact Lane.st_timeStep ..
  · exact Lane.st_timeState ..
  · exact Lane.st_set_above _ _ _ (by decide)
  · exact Lane.st_wr_above _ _ _ (by decide)
  · exact Lane.st_timeSet ..
  · rfl

@[simp] theorem Lane.st_correct (l : Lane) (p : Payload) : (l.correct p).st = l.st := by
  unfold Lane.correct
  split
  · split
    · rfl
    · exact Lane.st_enter ..
  · exact Lane.st_timeApply ..

theorem Lane.st_correctState (l : Lane) (st : Nat) : (l.correctState st).st = l.st := Lane.st_ite rfl (Lane.st_correct ..)

theorem Lane.st_sourceTake (l : Lane) : l.sourceTake.st = l.st := by
  unfold Lane.sourceTake
  dsimp only
  split
  · rfl
  · split
    · rw [Lane.st_correct, Lane.st_with_time]
    · split
      · exact Lane.st_with_time ..
      · rw [Lane.st_timeApply, Lane.st_with_time]

@[simp] theorem Lane.st_learn (l : Lane) (off : Int) : (l.learn off).st = l.st := Lane.st_with_time ..

theorem Lane.st_slew (l : Lane) (off : Int) : (l.slew off).st = l.st := by
  unfold Lane.slew Lane.steer
  rw [Lane.st_wr_above _ _ _ (by decide), Lane.st_learn]

theorem Lane.st_refLost (l : Lane) : l.refLost.st = l.st := by
  unfold Lane.refLost
  extract_lets l1 _ l2
  have h1 : l1.st = l.st := Lane.st_ite (Lane.st_set_above _ _ _ (by decide)) rfl
  have h2 : l2.st = l.st := (Lane.st_ev ..).trans ((Lane.st_with_time ..).trans h1)
  exact Lane.st_ite h2 (Lane.st_ite ((Lane.st_correctState ..).trans h2) (Lane.st_ite ((Lane.st_correctState ..).trans h2) h2))

theorem Lane.st_servo (l : Lane) (off : Int) (utc : Word) : (l.servo off utc).st = l.st := by
  unfold Lane.servo
  extract_lets l0 m l1 good _ l2 ptp far stepDue l3 l4
  have h0 : l0.st = l.st := Lane.st_wr_above _ _ _ (by decide)
  have hm : m.st = l.st := (Lane.st_set_above _ _ _ (by decide)).trans h0
  have h1 : l1.st = l.st := Lane.st_ite (Lane.st_ite ((Lane.st_sourceTake m).trans hm) hm) h0
  have h2 : l2.st = l.st := (Lane.st_with_time ..).trans h1
  have h3 : l3.st = l.st := Lane.st_ite (Lane.st_ite h2 ((Lane.st_correct ..).trans h2)) ((Lane.st_slew ..).trans h2)
  have h4 : l4.st = l.st := Lane.st_ite ((Lane.st_correctState ..).trans h3) (Lane.st_ite h3 ((Lane.st_correctState ..).trans h3))
  exact Lane.st_ite h1 (Lane.st_ite ((Lane.st_learn ..).trans h2) (Lane.st_ite ((Lane.st_correct ..).trans h4) h4))

end Sys2Proof.Machine
end

section
/-! Commands of one lane (R12): what happens in a lane's own hardware, at the instant to which it lets time pass, changes that lane
alone. -/

namespace Sys2Proof.Machine

/-! ### What stays in a lane -/

/-- From `s` to `t` time passes, and lane `i` alone changes beyond that. -/
def State.Stays (s t : State) (i : LaneId) : Prop := (s.untilTick t.now).Makes t i (t.lane i) [] ∧ s.now ≤ t.now

/-- What the command answers stays in lane `i`. -/
def Out.Stays (o : Out) (s : State) (i : LaneId) : Prop := ∀ t, o = .next t → s.Stays t i

theorem State.makes_refl (s : State) (i : LaneId) : s.Makes s i (s.lane i) [] := ⟨Lane.Like.refl .., Lane.Like.refl .., rfl, rfl, rfl, rfl⟩

/-- What lane `i` becomes is what it is in the end. -/
theorem State.Makes.lane_self {s t : State} {i : LaneId} {m : Lane} (h : s.Makes t i m []) : s.Makes t i (t.lane i) [] := ⟨Lane.Like.refl .., h.2⟩

/-- Where `f` keeps the lane's state, nothing but the lane changes: the ledger's answers keep the state too, so the lane leaves neither
PAIRED nor its rejoin, and the other lane has nothing to follow (R113, R123). -/
theorem State.act_makes_lane (s : State) (i : LaneId) (f : Lane → Lane) (hf : ∀ l, (f l).st = l.st) :
    s.Makes (s.act i f) i ((s.act i f).lane i) [] := by
  unfold State.act
  split
  · exact (s.leave_makes i (fun l => (f l).settle s.now) ((Lane.st_settle (f (s.lane i)) s.now).trans (hf (s.lane i)))).lane_self
  · exact s.makes_refl i

theorem State.actIn_makes_lane (s : State) (i : LaneId) (p : Nat) (f : Lane → Lane) (hf : ∀ l, (f l).st = l.st) :
    s.Makes (s.actIn i p f) i ((s.actIn i p f).lane i) [] := by
  unfold State.actIn
  split
  · exact s.act_makes_lane i f hf
  · exact s.makes_refl i

/-- A change of lane `i` alone after `k` ticks. -/
theorem State.Makes.stays {s t : State} {i : LaneId} {k : Nat} (h : (s.pass k).Makes t i (t.lane i) []) : s.Stays t i := by
  obtain ⟨-, -, -, hnow, -, -⟩ := id h
  rw [State.pass_now] at hnow
  have hpass : s.untilTick t.now = s.pass k := by rw [State.untilTick, hnow, Nat.add_sub_cancel_left]
  exact ⟨hpass ▸ h, hnow ▸ Nat.le_add_right ..⟩

/-- The command finds nothing to do. -/
theorem Out.stays_idle (s : State) (i : LaneId) : Out.Stays (.next s) s i := by
  rintro _ ⟨⟩
  exact State.Makes.stays (k := 0) (s.makes_refl i)

/-- After `k` ticks lane `i`'s hardware acts. -/
theorem Out.stays_act (s : State) (i : LaneId) (k : Nat) (f : Lane → Lane) (hf : ∀ l, (f l).st = l.st) :
    Out.Stays (.next ((s.pass k).act i f)) s i := by
  rintro _ ⟨⟩
  exact ((s.pass k).act_makes_lane i f hf).stays

/-- After `k` ticks a block of lane `i` acts, if its page is enabled. -/
theorem Out.stays_actIn (s : State) (i : LaneId) (k p : Nat) (f : Lane → Lane) (hf : ∀ l, (f l).st = l.st) :
    Out.Stays (.next ((s.pass k).actIn i p f)) s i := by
  rintro _ ⟨⟩
  exact ((s.pass k).actIn_makes_lane i p f hf).stays

theorem Out.stays_act_now (s : State) (i : LaneId) (f : Lane → Lane) (hf : ∀ l, (f l).st = l.st) : Out.Stays (.next (s.act i f)) s i :=
  Out.stays_act s i 0 f hf

theorem Out.stays_actIn_now (s : State) (i : LaneId) (p : Nat) (f : Lane → Lane) (hf : ∀ l, (f l).st = l.st) :
    Out.Stays (.next (s.actIn i p f)) s i := Out.stays_actIn s i 0 p f hf

theorem Out.stays_ite {p : Prop} [Decidable p] {x y : Out} {s : State} {i : LaneId} (hx : x.Stays s i) (hy : y.Stays s i) :
    (if p then x else y : Out).Stays s i := by
  split
  · exact hx
  · exact hy

/-! ### Commands of analogue inputs and outputs, axes, capture and the cycle trace (chapters 06, 11, 12 and 15) -/

section
variable (i : LaneId) (s : State)

theorem execOwCurrentOn_stays : (execOwCurrentOn i s).Stays s i := by
  unfold execOwCurrentOn
  exact Out.stays_ite (Out.stays_act _ _ _ _ Lane.st_owNow) (Out.stays_act_now _ _ _ Lane.st_owNow)

theorem execOwCurrentOff_stays : (execOwCurrentOff i s).Stays s i := by
  unfold execOwCurrentOff
  exact Out.stays_ite (Out.stays_act _ _ _ _ Lane.st_owNow) (Out.stays_act_now _ _ _ Lane.st_owNow)

theorem execAoRbFault_stays (ch : Nat) (rb : Int) : (execAoRbFault i ch rb s).Stays s i := by
  have hpass (t : Nat) : ∃ k, (if (s.lane i).running then s.untilT i t else s) = s.pass k := by
    split
    · exact ⟨_, rfl⟩
    · exact ⟨0, rfl⟩
  unfold execAoRbFault
  obtain ⟨k, hk⟩ := hpass ((s.lane i).tOf (s.lane i).cycN + 20000)
  dsimp only
  rw [hk]
  exact Out.stays_ite (Out.stays_act _ _ _ _ fun l => l.st_aoReadback ch rb) (Out.stays_idle s i)

theorem execFiReady_stays : (execFiReady i s).Stays s i := by
  unfold execFiReady
  split
  · exact Out.stays_act _ _ _ _ fun l => l.st_fiReady _
  · exact Out.stays_idle s i

theorem execFilterHold_stays (ch : Nat) (code : Int) : (execFilterHold i ch code s).Stays s i := by
  unfold execFilterHold
  exact Out.stays_ite (Out.stays_act _ _ _ _ fun l => l.st_convert ch code _) (Out.stays_idle s i)

theorem execOvercurrent_stays (a sample : Nat) : (execOvercurrent i a sample s).Stays s i :=
  Out.stays_act_now _ _ _ fun l => Lane.st_ite (l.st_overcurrent a sample) rfl

theorem execMclkFault_stays (a : Nat) : (execMclkFault i a s).Stays s i :=
  Out.stays_act_now _ _ _ fun l => Lane.st_ite (l.st_mclkFault a _) rfl

theorem execLimitInput_stays (a which : Nat) (level : Bool) (pos : Int) (bin : Nat) : (execLimitInput i a which level pos bin s).Stays s i :=
  Out.stays_act_now _ _ _ fun l => Lane.st_ite (l.st_limitInput a which level pos _) rfl

theorem execCaptureStart_stays : (execCaptureStart i s).Stays s i := by
  unfold execCaptureStart
  split
  · exact Out.stays_actIn _ _ _ _ _ Lane.st_captStart
  · exact Out.stays_idle s i

theorem execSeqTimeout_stays : (execSeqTimeout i s).Stays s i := by
  unfold execSeqTimeout
  split
  · exact Out.stays_actIn _ _ _ _ _ fun l => l.st_seqTimeouts _ 1
  · exact Out.stays_idle s i

theorem execNoTrigger_stays : (execNoTrigger i s).Stays s i := by
  unfold execNoTrigger
  exact Out.stays_ite (Out.stays_actIn _ _ _ _ _ fun l => l.st_captNoTrigger _) (Out.stays_idle s i)

theorem execCaptureComplete_stays : (execCaptureComplete i s).Stays s i := Out.stays_actIn_now _ _ _ _ fun l => l.st_captComplete s.now

theorem execCaptureHeader_stays : (execCaptureHeader i s).Stays s i := by
  unfold execCaptureHeader
  exact Out.stays_ite (Out.stays_actIn _ _ _ _ _ Lane.st_captPeriodic) (Out.stays_idle s i)

theorem execCaptureOverrun_stays : (execCaptureOverrun i s).Stays s i := Out.stays_actIn_now _ _ _ _ fun l => l.st_captOverrun s.now

theorem execTrcWindfall_stays : (execTrcWindfall i s).Stays s i := by
  refine Out.stays_act_now _ _ _ fun l => ?_
  dsimp only
  rw [Lane.st_with_cyc, Lane.st_trcWindfall]
  exact Lane.st_ite rfl l.st_drainCycle

/-! ### Commands of FIFOs, host links, interrupts and the power ledger (chapters 04 and 17 to 19) -/

theorem execFifoFlush_stays (f : Nat) : (execFifoFlush i f s).Stays s i := by
  unfold execFifoFlush
  exact Out.stays_ite (Out.stays_actIn _ _ _ _ _ fun l => l.st_fifoFlush f _) (Out.stays_idle s i)

theorem execPcieLinkUp_stays (width speed : Nat) : (execPcieLinkUp i width speed s).Stays s i :=
  Out.stays_act_now _ _ _ fun l => l.st_pcieUp width speed

theorem execDstateChg_stays (d : Nat) : (execDstateChg i d s).Stays s i := Out.stays_act_now _ _ _ fun l => l.st_dstate d

theorem execHsrEntryExpiry_stays : (execHsrEntryExpiry i s).Stays s i := by
  unfold execHsrEntryExpiry
  dsimp only
  split
  · exact Out.stays_act _ _ _ _ fun l => l.st_toolExpiry _
  · exact Out.stays_idle s i

theorem execArpRequest_stays (port kind : Nat) : (execArpRequest i port kind s).Stays s i :=
  Out.stays_act_now _ _ _ fun l => l.st_otherFrame port kind

theorem execIrqLevelRise_stays (src : Nat) : (execIrqLevelRise i src s).Stays s i :=
  Out.stays_actIn_now _ _ _ _ fun l => Lane.st_ite (l.st_irqSample src true s.now) rfl

theorem execTargetWake_stays (t : Nat) : (execTargetWake i t s).Stays s i := Out.stays_actIn_now _ _ _ _ fun l => l.st_targetWake t

theorem execWakeTimeout_stays (t : Nat) : (execWakeTimeout i t s).Stays s i := by
  unfold execWakeTimeout
  split
  · exact Out.stays_actIn _ _ _ _ _ fun l => l.st_wakeTimeout t _
  · exact Out.stays_idle s i

theorem execLedgerRelease_stays (cls who : Nat) : (execLedgerRelease i cls who s).Stays s i :=
  Out.stays_act_now _ _ _ fun l => l.st_ledgerRelease cls who s.now

theorem execRevokedStop_stays : (execRevokedStop i s).Stays s i := Out.stays_act_now _ _ _ fun l => l.st_ledgerStopped s.now

theorem execLedgerWait_stays : (execLedgerWait i s).Stays s i := Out.stays_act _ _ _ _ fun l => l.st_ledgerTimeout _

theorem execGrantEnd_stays : (execGrantEnd i s).Stays s i := Out.stays_act _ _ _ _ fun l => l.st_ledgerEnd _

/-- The power drawn shows in LEDGER_MEAS, whatever follows from it. -/
theorem Lane.st_set_measured (l : Lane) (mw : Nat) : (l.set F.LEDGER_MEAS.MW mw).st = l.st := Lane.st_set_above _ _ _ (by decide)

theorem execOverMeas_stays (mw : Nat) : (execOverMeas i mw s).Stays s i :=
  Out.stays_act_now _ _ _ fun l =>
    have hmw := l.st_set_measured (min mw 65535)
    Lane.st_ite ((Lane.st_ev ..).trans hmw) hmw

theorem execOverMeasClear_stays (mw : Nat) : (execOverMeasClear i mw s).Stays s i :=
  Out.stays_act_now _ _ _ fun l =>
    have hmw := l.st_set_measured (min mw 65535)
    Lane.st_ite ((Lane.st_ledgerServe ..).trans hmw) hmw

/-! ### Commands of the records, field rings, time and service cores (chapters 03, 10, 16 and 17) -/

theorem execPunnetSend_stays : (execPunnetSend i s).Stays s i := by
  unfold execPunnetSend
  exact Out.stays_ite (Out.stays_actIn_now _ _ _ _ Lane.st_punnetSend) (Out.stays_idle s i)

theorem execArpResolve_stays (up : Bool) (mac : Option Nat) : (execArpResolve i up mac s).Stays s i :=
  Out.stays_actIn_now _ _ _ _ fun l => l.st_arpResolve up mac

theorem execFlashWrite_stays : (execFlashWrite i s).Stays s i := Out.stays_actIn_now _ _ _ _ fun l => l.st_flashWrite s.now

theorem execLogFlashWrite_stays (n : Nat) : (execLogFlashWrite i n s).Stays s i := Out.stays_act_now _ _ _ fun l => l.st_logFlash n

theorem execLogWindfall_stays : (execLogWindfall i s).Stays s i := Out.stays_act_now _ _ _ Lane.st_logWindfall

theorem execRdDone_stays : (execRdDone i s).Stays s i := Out.stays_actIn_now _ _ _ _ Lane.st_logDone

theorem execOpMsRewrite_stays : (execOpMsRewrite i s).Stays s i := Out.stays_act_now _ _ _ Lane.st_opRewrite

theorem execRingLinkChg_stays (r which : Nat) (up : Bool) : (execRingLinkChg i r which up s).Stays s i := by
  unfold execRingLinkChg
  exact Out.stays_ite (Out.stays_act_now _ _ _ fun l => l.st_ringLink r which up s.now) (Out.stays_idle s i)

theorem execPhyTrainDone_stays (r mode : Nat) : (execPhyTrainDone i r mode s).Stays s i := by
  unfold execPhyTrainDone
  exact Out.stays_ite (Out.stays_act_now _ _ _ fun l => l.st_trainDone r mode s.now) (Out.stays_idle s i)

theorem execPhyTrainRetry_stays (r : Nat) : (execPhyTrainRetry i r s).Stays s i := by
  unfold execPhyTrainRetry
  split
  · exact Out.stays_act _ _ _ _ fun l => l.st_trainRetry r _
  · exact Out.stays_idle s i

theorem execTimeServoUpdate_stays (off : Int) (utc : Word) : (execTimeServoUpdate i off utc s).Stays s i :=
  Out.stays_act_now _ _ _ fun l => l.st_servo off utc

theorem execRefLost_stays : (execRefLost i s).Stays s i := Out.stays_act_now _ _ _ Lane.st_refLost

theorem execWorkDispatch_stays : (execWorkDispatch i s).Stays s i := Out.stays_actIn_now _ _ _ _ fun l => l.st_workDispatch s.now

theorem execDelayTick_stays : (execDelayTick i s).Stays s i := Out.stays_actIn _ _ _ _ _ fun l => l.st_delayTick _

theorem execBoostRequest_stays : (execBoostRequest i s).Stays s i := by
  unfold execBoostRequest
  dsimp only
  split
  · exact Out.stays_actIn _ _ _ _ _ fun l => l.st_boostRequest _
  · exact Out.stays_idle s i

theorem execBoostRelease_stays : (execBoostRelease i s).Stays s i := by
  unfold execBoostRelease
  exact Out.stays_ite (Out.stays_actIn _ _ _ _ _ fun l => l.st_boostRelease _) (Out.stays_idle s i)

theorem execWorkTrcWindfall_stays : (execWorkTrcWindfall i s).Stays s i := Out.stays_act_now _ _ _ Lane.st_workTrcWindfall

end

/-- Settles O6: each of these commands finds nothing to do, or lets time pass and has its lane's hardware act, which keeps the lane's
state, so that nothing follows for the other lane. -/
theorem commandsOfALaneStayThere : Obligations.CommandsOfALaneStayThere := by
  unfold Obligations.CommandsOfALaneStayThere
  intro i m n k x y b w o s t c hc
  suffices h : Out.Stays (exec c s) s i from h t
  revert c
  simp only [List.forall_mem_append, List.forall_mem_cons, List.not_mem_nil, false_imp_iff, implies_true, and_true]
  exact ⟨⟨⟨execOwCurrentOn_stays i s, execOwCurrentOff_stays i s, execAoRbFault_stays i s n x, execFiReady_stays i s,
        execFilterHold_stays i s n x, execOvercurrent_stays i s m n, execMclkFault_stays i s n, execLimitInput_stays i s m n b y k,
        execCaptureStart_stays i s, execSeqTimeout_stays i s, execNoTrigger_stays i s, execCaptureComplete_stays i s,
        execCaptureHeader_stays i s, execCaptureOverrun_stays i s, execTrcWindfall_stays i s⟩,
      execFifoFlush_stays i s n, execPcieLinkUp_stays i s m n, execDstateChg_stays i s n, execHsrEntryExpiry_stays i s,
      execArpRequest_stays i s m n, execIrqLevelRise_stays i s n, execTargetWake_stays i s n, execWakeTimeout_stays i s n,
      execLedgerRelease_stays i s m n, execRevokedStop_stays i s, execLedgerWait_stays i s, execGrantEnd_stays i s,
      execOverMeas_stays i s n, execOverMeasClear_stays i s n⟩,
    execPunnetSend_stays i s, execArpResolve_stays i s b o, execFlashWrite_stays i s, execLogFlashWrite_stays i s n,
    execLogWindfall_stays i s, execRdDone_stays i s, execOpMsRewrite_stays i s, execRingLinkChg_stays i s m n b,
    execPhyTrainDone_stays i s m n, execPhyTrainRetry_stays i s n, execTimeServoUpdate_stays i s x w, execRefLost_stays i s,
    execWorkDispatch_stays i s, execDelayTick_stays i s, execBoostRequest_stays i s, execBoostRelease_stays i s,
    execWorkTrcWindfall_stays i s⟩

end Sys2Proof.Machine
end
